-- ==== Sys2Proof/Word.lean ====
section
/-! DEFINITION. The plain words of the E420: bytes and the short words its bodies and counters are made of. -/

namespace Sys2Proof

/-- A byte of a command body, of a flash page or of a stored picture. -/
abbrev Byte := BitVec 8

/-- A 16-bit quantity: page serials and the view generation. -/
abbrev Half := BitVec 16

/-- A 32-bit quantity: counters, CRCs, catalogue sequence numbers, sets of events. -/
abbrev Quad := BitVec 32

/-- A 10-bit component value of the pixel bus. -/
abbrev Sample := BitVec 10

end Sys2Proof
end

