-- ==== Sys2Proof/Machine/Bytes.lean ====
section
/-! DEFINITION. Fields of bytes, least significant byte first (10 R162). -/

namespace Sys2Proof.Machine

/-- An unsigned two-byte field, least significant byte first (10 R162). -/
def half (lo hi : Byte) : Nat :=
  lo.toNat + 256 * hi.toNat

/-- A signed two-byte field, two's complement (10 R162). -/
def signedHalf (lo hi : Byte) : Int :=
  (BitVec.ofNat 16 (half lo hi)).toInt

/-- A two-byte field as a word. -/
def halfWord (lo hi : Byte) : Half :=
  BitVec.ofNat 16 (half lo hi)

/-- A four-byte field, least significant byte first (10 R162). -/
def quadWord (b0 b1 b2 b3 : Byte) : Quad :=
  BitVec.ofNat 32 (half b0 b1 + 65536 * half b2 b3)

/-- A two-byte field, least significant byte first. -/
def halfBytes (n : Nat) : List Byte :=
  [BitVec.ofNat 8 n, BitVec.ofNat 8 (n / 256)]

/-- A four-byte field, least significant byte first. -/
def quadBytes (n : Nat) : List Byte :=
  halfBytes n ++ halfBytes (n / 65536)

/-- A 48-bit field, least significant byte first. -/
def frameBytes (n : Nat) : List Byte :=
  quadBytes n ++ halfBytes (n / 4294967296)

end Sys2Proof.Machine
end

