-- ==== Sys2Proof/Syntax.lean ====
section
/-! DEFINITION. The commands (arrivals) of the E420, one constructor for each row of spec/opcode_table.json, with their operands. -/

namespace Sys2Proof

/-- The three command ports (00 section 1.4; encodings of 10 Table 10-5). -/
inductive Port where
  | panel | room | tether
deriving DecidableEq, Repr

/-- The header of a command body after its type byte, less the command kind: 10 Table 10-4, bytes 2 to 5.
`port` is the port the body came from. -/
structure CmdHeader where
  port     : Port
  marker   : Byte
  flags    : Byte
  expected : Half
deriving DecidableEq, Repr

/-- One pixel clock while line valid is asserted: the luminance lane and the chroma lane, which alternates
Cb and Cr beginning with Cb (01, "The pixel bus and its arrivals"). -/
structure PixelClock where
  y : Sample
  c : Sample
deriving DecidableEq, Repr

/-- The fault field of a base offer (07 R102). -/
inductive OfferFault where
  | noFault | offline | refused
deriving DecidableEq, Repr

/-- A base offer (07 R102). Bit n of `formats` says that feed format n is offered. -/
structure BaseOffer where
  formats  : Byte
  nextPage : Bool
  ack      : Bool
  fault    : OfferFault
  restart  : Bool
deriving DecidableEq, Repr

/-- The kind of a note page (07 R102). -/
inductive NoteKind where
  | message | plain
deriving DecidableEq, Repr

/-- A note page (07 R102). -/
structure NotePage where
  nextPage : Bool
  ack      : Bool
  kind     : NoteKind
  ack2     : Bool
  toggle   : Bool
  code     : BitVec 11
deriving DecidableEq, Repr

/-- How a flash operation ended (08 R123). A read that passes carries the 2048 bytes of the page; an erase or a
program that passes carries no data. -/
inductive FlashResult where
  | pass (data : List Byte)
  | fail
deriving DecidableEq, Repr

/-- The commands of the E420. A port command carries its header and its RAW argument bytes (10 Table 10-7), so
that the length check of 10 R156 is the model's own. -/
inductive Instr where
  | startUp
  | frameStart
  | lineEnd (pixels : List PixelClock)
  | frameEnd
  | noSignalTimerExpiry
  | slotFreedNotice
  | outputFrameStart
  | baseOffer (offer : BaseOffer)
  | notePage (page : NotePage)
  | hold (duration : Half)
  | pageTimerExpiry
  | intervalTimerExpiry
  | allowanceTimerExpiry
  | holdTimerExpiry
  | feedFrameStart
  | feedLineProduced
  | feedLineSent
  | flashOperationComplete (result : FlashResult)
  /-- `sent`: the bytes that the controller sends from the assertion of chip select to its release, the transaction kind first; each
  byte after it clocks out one byte on data-out (10 R153). -/
  | panelReadTransaction (sent : List Byte)
  /-- `bytes`: the bytes on the Room line that end with the drop (10 R154). -/
  | roomFrameDropped (bytes : List Byte)
  /-- `header`: the bytes of the two header words of a packet from the bridge; `words`: the bytes that follow them (10 R155, Table
  10-6). -/
  | tetherPacketDiscarded (header words : List Byte)
  | roomFrameSent
  | tetherPacketSent
  | zoom (h : CmdHeader) (args : List Byte)
  | zoomStep (h : CmdHeader) (args : List Byte)
  | pan (h : CmdHeader) (args : List Byte)
  | centre (h : CmdHeader) (args : List Byte)
  | fitPage (h : CmdHeader) (args : List Byte)
  | freeze (h : CmdHeader) (args : List Byte)
  | unfreeze (h : CmdHeader) (args : List Byte)
  | layout (h : CmdHeader) (args : List Byte)
  | showLive (h : CmdHeader) (args : List Byte)
  | setGlide (h : CmdHeader) (args : List Byte)
  | readView (h : CmdHeader) (args : List Byte)
  | setEdgeThreshold (h : CmdHeader) (args : List Byte)
  | readEdgeThreshold (h : CmdHeader) (args : List Byte)
  | readTile (h : CmdHeader) (args : List Byte)
  | setClassifierEntry (h : CmdHeader) (args : List Byte)
  | setClassifierEntries (h : CmdHeader) (args : List Byte)
  | setEntryEnable (h : CmdHeader) (args : List Byte)
  | setDefaultAction (h : CmdHeader) (args : List Byte)
  | setTextQuorum (h : CmdHeader) (args : List Byte)
  | readClassifier (h : CmdHeader) (args : List Byte)
  | readPageBox (h : CmdHeader) (args : List Byte)
  | setProfile (h : CmdHeader) (args : List Byte)
  | setProfiles (h : CmdHeader) (args : List Byte)
  | readProfiles (h : CmdHeader) (args : List Byte)
  | readSlots (h : CmdHeader) (args : List Byte)
  | setOutputMode (h : CmdHeader) (args : List Byte)
  | outputRestart (h : CmdHeader) (args : List Byte)
  | blank (h : CmdHeader) (args : List Byte)
  | readOutput (h : CmdHeader) (args : List Byte)
  | setFeedNotes (h : CmdHeader) (args : List Byte)
  | setFeedMarks (h : CmdHeader) (args : List Byte)
  | feedRestart (h : CmdHeader) (args : List Byte)
  | readFeed (h : CmdHeader) (args : List Byte)
  | store (h : CmdHeader) (args : List Byte)
  | recall (h : CmdHeader) (args : List Byte)
  | exportPage (h : CmdHeader) (args : List Byte)
  | delete (h : CmdHeader) (args : List Byte)
  | move (h : CmdHeader) (args : List Byte)
  | openLesson (h : CmdHeader) (args : List Byte)
  | closeLesson (h : CmdHeader) (args : List Byte)
  | clearLesson (h : CmdHeader) (args : List Byte)
  | nameLesson (h : CmdHeader) (args : List Byte)
  | setLessonFlags (h : CmdHeader) (args : List Byte)
  | saveSettings (h : CmdHeader) (args : List Byte)
  | withdraw (h : CmdHeader) (args : List Byte)
  | setPlaceRetryLimit (h : CmdHeader) (args : List Byte)
  | readStore (h : CmdHeader) (args : List Byte)
  | readLesson (h : CmdHeader) (args : List Byte)
  | readJobs (h : CmdHeader) (args : List Byte)
  | readStatus (h : CmdHeader) (args : List Byte)
  | readCompletions (h : CmdHeader) (args : List Byte)
  | readNotices (h : CmdHeader) (args : List Byte)
  | setNoticeEnables (h : CmdHeader) (args : List Byte)
  | setReach (h : CmdHeader) (args : List Byte)
  | readReach (h : CmdHeader) (args : List Byte)
  | readCounters (h : CmdHeader) (args : List Byte)
  | clearCounters (h : CmdHeader) (args : List Byte)
  | setHalfMasks (h : CmdHeader) (args : List Byte)
  | restart (h : CmdHeader) (args : List Byte)
  | unknownCommand (kind : Byte) (h : CmdHeader) (args : List Byte)
  | powerLoss
deriving DecidableEq, Repr

end Sys2Proof
end

