-- ==== Sys2Proof/Machine/Records.lean ====
section
/-! DEFINITION. The records that the blocks of the E420 hold, with the manual's names: plain data, no meaning. -/

namespace Sys2Proof.Machine

/-! ### Intake and statistics (01) -/

/-- Intake states (01 Table 1-1). -/
inductive IntakeState where
  | waiting | receiving | skipping | discarding | noSignal
deriving DecidableEq, Repr

/-- What the classifier chooses for a tile (02 R17): one of the four profiles, or PASS. -/
inductive Action where
  | p0 | p1 | p2 | p3 | pass
deriving DecidableEq, Repr

/-- What is gathered for a tile while its frame arrives (01 R12, R13): the luminance sum, the luminance sums of the
16 sub-blocks in rows of four, and the count of edge pixels. -/
structure TileAcc where
  sum   : Nat
  subs  : List Nat
  edges : Nat
deriving DecidableEq, Repr

/-- A tile record (01 Table 1-3). -/
structure TileRecord where
  m      : Nat
  w      : Nat
  e      : Nat
  ws     : Nat
  sig    : Nat
  action : Action
  text   : Bool
deriving DecidableEq, Repr

/-- The settled set (01 R15): the 2700 tile records of a good frame, row by row, with that frame's number. -/
structure SettledSet where
  frame : Nat
  tiles : List TileRecord
deriving DecidableEq, Repr

/-! ### The classifier (02) -/

/-- Match kinds (02 R17). -/
inductive MatchKind where
  | range | pair | mask
deriving DecidableEq, Repr

/-- A classifier entry (02 Table 2-1). -/
structure ClassifierEntry where
  enabled : Bool
  kind    : MatchKind
  a       : Nat
  b       : Nat
  action  : Action
  text    : Bool
deriving DecidableEq, Repr

/-- The default action: an action and a text mark (02 R18). -/
structure DefaultAction where
  action : Action
  text   : Bool
deriving DecidableEq, Repr

/-- The classifier table, the default action and the text quorum: what the TCL's frame copy copies (02 R20). -/
structure Classifier where
  entries  : List ClassifierEntry
  fallback : DefaultAction
  quorum   : Nat
deriving DecidableEq, Repr

/-- A page box that is not EMPTY: its four tile bounds, all inclusive (02 R25). -/
structure TileBox where
  c0 : Nat
  c1 : Nat
  r0 : Nat
  r1 : Nat
deriving DecidableEq, Repr

/-! ### Profiles (03) -/

/-- A profile (03 Table 3-1). -/
structure Profile where
  g : Nat
  c : Nat
  s : Nat
  l : Nat
deriving DecidableEq, Repr

/-! ### The slot pool (04) -/

/-- The nine holder kinds that carry no tag (04 Table 4-2); the tenth, STORE, is `PinTag`. -/
inductive HolderKind where
  | intake | latest | displayLeft | displayRight | freeze | page | feed | exported | load
deriving DecidableEq, Repr

/-- The tag of a STORE holder: origin port and marker (04 R47). -/
structure PinTag where
  port   : Port
  marker : Byte
deriving DecidableEq, Repr

/-- A slot's holder set (04 R47). Each untagged kind is there or not; the STORE holders are listed. -/
structure Holders where
  intake       : Bool
  latest       : Bool
  displayLeft  : Bool
  displayRight : Bool
  freeze       : Bool
  page         : Bool
  feed         : Bool
  exported     : Bool
  load         : Bool
  pins         : List PinTag
deriving DecidableEq, Repr

/-- A slot's state, which follows from its holder set (04 R48). -/
inductive SlotState where
  | free | filling | loading | held
deriving DecidableEq, Repr

/-- A slot's content (04 R49). -/
inductive SlotContent where
  | nothing
  | liveFrame (frame : Nat)
  | storedPage (lesson : Nat) (serial : Half)
deriving DecidableEq, Repr

/-- One line of a live frame in a slot: enhanced luminance, and chroma as it arrived (03 R43). -/
structure PictureLine where
  y : List Nat
  c : List Sample
deriving DecidableEq, Repr

/-- The picture data in a slot (04 section 4.1): the lines of a live frame written so far, or the image bytes of a
stored page read so far, in the order of 08 R128. -/
inductive Picture where
  | blank
  | live (lines : List PictureLine)
  | stored (bytes : List Byte)
deriving DecidableEq, Repr

/-- A frame slot (04 R47) with its picture. -/
structure Slot where
  holders : Holders
  content : SlotContent
  picture : Picture
deriving DecidableEq, Repr

/-! ### The view (05) -/

/-- Layouts (05 Table 5-1). -/
inductive Layout where
  | single | split
deriving DecidableEq, Repr

/-- The page shown (05 Table 5-1). -/
structure PageShown where
  slot   : Nat
  lesson : Nat
  serial : Half
deriving DecidableEq, Repr

/-- The zoom commands that a glide watch can record (05 R79). -/
inductive WatchKind where
  | zoom | zoomStep
deriving DecidableEq, Repr

/-- A filled glide watch (05 R79). -/
structure GlideWatch where
  port   : Port
  marker : Byte
  kind   : WatchKind
  target : Nat
deriving DecidableEq, Repr

/-- The current window with its pane, base window, effective centre and scale steps (05 R71 to R73). -/
structure Window where
  pw    : Nat
  ph    : Nat
  baseW : Nat
  baseH : Nat
  ww    : Nat
  wh    : Nat
  x0    : Nat
  y0    : Nat
  cx    : Nat
  cy    : Nat
  sx    : Nat
  sy    : Nat
deriving DecidableEq, Repr

/-! ### The output (06) -/

/-- Raster states (06 Table 6-2). -/
inductive Raster where
  | stopped | restarting | running
deriving DecidableEq, Repr

/-- Fills (06 R96). -/
inductive Fill where
  | grey | white | black
deriving DecidableEq, Repr

/-- A pane latch that is not empty (06 R93). -/
inductive Latch where
  | fill (f : Fill)
  | liveWindow (slot : Nat) (w : Window)
  | pageFit (slot : Nat)
deriving DecidableEq, Repr

/-- How a stored page is fitted into a pane (06 R97), or a crop into a stored page (09 R142). -/
structure Fit where
  fw   : Nat
  fh   : Nat
  left : Nat
  top  : Nat
  sx   : Nat
  sy   : Nat
deriving DecidableEq, Repr

/-- A picture element: luminance and the two chroma components. -/
structure Ycc where
  y  : Nat
  cb : Nat
  cr : Nat
deriving DecidableEq, Repr

/-- What the raster-out pins carry at a place of the raster (06 R87, R92): whether they carry sync, and the tone. -/
structure RasterPins where
  sync : Bool
  tone : Ycc
deriving DecidableEq, Repr

/-- A rectangle of source pixels. -/
structure Rect where
  x0 : Nat
  y0 : Nat
  w  : Nat
  h  : Nat
deriving DecidableEq, Repr

/-! ### The feed link (07) -/

/-- Agreement states (07 Table 7-1). -/
inductive Agreement where
  | offering | ackSeen | noteExchange | feedUp | feedDown | feedFailed
deriving DecidableEq, Repr

/-- A note of the note list (07 R103). -/
inductive Note where
  | null
  | rateLimit (rate : Nat)
  | cropWanted
  | exportAble
deriving DecidableEq, Repr

/-- What one note page of the part carries (07 R103, R105). -/
structure PartPage where
  kind : NoteKind
  code : BitVec 11
deriving DecidableEq, Repr

/-- An agreement page that the part sends (07 R102). -/
inductive AgreementPage where
  | base (offer : BaseOffer)
  | note (page : NotePage)
deriving DecidableEq, Repr

/-- The agreement result (07 R101). -/
structure AgreementResult where
  format    : Nat
  rate      : Nat
  crop      : Bool
  exporting : Bool
deriving DecidableEq, Repr

/-- The feed marks (07 R113). -/
structure FeedMarks where
  high  : Nat
  low   : Nat
  start : Nat
deriving DecidableEq, Repr

/-- A feed line: its index in the frame and its 8-bit values (07 R112, R118). -/
structure FeedLine where
  index : Nat
  y     : List Byte
  cb    : List Byte
  cr    : List Byte
deriving DecidableEq, Repr

/-- The kind of a feed frame (07, section 7.2). -/
inductive FeedKind where
  | live (frame : Nat)
  | exported (lesson : Nat) (serial : Half)
deriving DecidableEq, Repr

/-- The feed frame in flight (07 R111 to R116). `x0`, `y0`, `sx`, `sy` are the source origin and scale steps of a
live frame (R112). `stopped`: production is stopped by the high mark. `sending`: sending of the frame has begun. -/
structure FeedFrame where
  kind     : FeedKind
  slot     : Nat
  width    : Nat
  height   : Nat
  x0       : Nat
  y0       : Nat
  sx       : Nat
  sy       : Nat
  marks    : FeedMarks
  produced : Nat
  sent     : Nat
  stopped  : Bool
  sending  : Bool
  cut      : Bool
deriving DecidableEq, Repr

/-- The export frame (07 R118). -/
structure ExportFrame where
  slot   : Nat
  port   : Port
  marker : Byte
  lesson : Nat
  serial : Half
deriving DecidableEq, Repr

/-! ### Reach, settings and the lesson table (08, 10) -/

/-- A reach window (10 R157). -/
structure ReachWindow where
  enabled   : Bool
  base      : Nat
  mask      : Nat
  showRight : Bool
  saveRight : Bool
  sendRight : Bool
deriving DecidableEq, Repr

/-- The rights of 10 R157. -/
inductive Right where
  | toShow | toSave | toExport
deriving DecidableEq, Repr

/-- The saved settings record (08 Table 8-5). -/
structure SavedSettings where
  classifier    : Classifier
  edge          : Nat
  profiles      : List Profile
  glide         : Nat
  mode          : Nat
  marks         : FeedMarks
  reachRoom     : List ReachWindow
  reachTether   : List ReachWindow
  enablesPanel  : Quad
  enablesRoom   : Quad
  enablesTether : Quad
deriving DecidableEq, Repr

/-- Lesson states (08 Table 8-3). -/
inductive LessonState where
  | empty | opened | closed
deriving DecidableEq, Repr

/-- Page record states (08 Table 8-4). -/
inductive PageState where
  | writing | kept | damaged
deriving DecidableEq, Repr

/-- Crop kinds of a page record (08 Table 8-4). -/
inductive CropKind where
  | view | page | full | fullFallback
deriving DecidableEq, Repr

/-- What the acceptance of a STORE fixes about the picture (09 R139). -/
structure Capture where
  crop  : CropKind
  rect  : Rect
  frame : Nat
  cx    : Nat
  cy    : Nat
  zc    : Nat
deriving DecidableEq, Repr

/-- A page record (08 Table 8-4). `crc` is none until the image is programmed (09 R140, R141). -/
structure PageRecord where
  serial : Half
  place  : Nat
  state  : PageState
  crop   : CropKind
  frame  : Nat
  cx     : Nat
  cy     : Nat
  zc     : Nat
  crc    : Option Quad
deriving DecidableEq, Repr

/-- A lesson record (08 Table 8-3). An absent name is the empty list. -/
structure LessonRecord where
  state : LessonState
  name  : List Byte
  kept  : Bool
  lock  : Bool
  pages : List PageRecord
deriving DecidableEq, Repr

/-- What a catalogue image holds besides its mark, its length and its CRC-32 (08 R130). -/
structure CatalogueImage where
  sequence   : Quad
  lessons    : List LessonRecord
  retired    : List Nat
  nextSerial : Half
  saved      : SavedSettings
deriving DecidableEq, Repr

/-- The fields of a page header other than its mark and its header CRC-32 (08 R128). -/
structure PageHeader where
  serial : Half
  lesson : Nat
  crop   : CropKind
  frame  : Nat
  cx     : Nat
  cy     : Nat
  zc     : Nat
  crc    : Quad
deriving DecidableEq, Repr

/-- Store modes (08 Table 8-6). -/
inductive StoreMode where
  | starting | ready | readOnly
deriving DecidableEq, Repr

/-! ### Store jobs (09) -/

/-- Refusal and failure reasons (10 Table 10-1). -/
inductive Reason where
  | noReason | unknownCommand | badLength | busy | stale | outOfReach | notPanel | queueFull | captureBusy | noFrame
  | notOpen | noSuchLesson | noSuchPage | noSuchJob | lessonKept | exportLocked | storeReadOnly | feedNotReady
  | storeFull | lessonFull | lessonClosed | storeMedia | pageDamaged | feedCut | feedLost
deriving DecidableEq, Repr

/-- The kinds of store job with the arguments fixed at acceptance (09 Table 9-1). -/
inductive JobTask where
  | store (lesson : Nat) (capture : Capture)
  | recall (lesson position : Nat)
  | exportPage (lesson position : Nat)
  | delete (lesson position : Nat)
  | move (lesson position target : Nat)
  | openLesson (lesson : Nat)
  | closeLesson (lesson : Nat)
  | clearLesson (lesson : Nat)
  | nameLesson (lesson : Nat) (name : List Byte)
  | setLessonFlags (lesson : Nat) (kept lock : Bool)
  | saveSettings
deriving DecidableEq, Repr

/-- Job states (09 R137). -/
inductive JobState where
  | queued | waitSlot | running
deriving DecidableEq, Repr

/-- The stage of a STORE run (09 R140, R141). `ending r` is the catalogue write of a failing run (R143). -/
inductive StoreStage where
  | notBegun | record | erase | program | readBack | keep | ending (reason : Reason)
deriving DecidableEq, Repr

/-- A job record (09 R137). `serial`: the page serial fixed at acceptance, or taken by the STORE run.
`pin`: the slot that carries the STORE's pin while it is placed. -/
structure Job where
  task      : JobTask
  port      : Port
  marker    : Byte
  state     : JobState
  withdrawn : Bool
  serial    : Option Half
  pin       : Option Nat
  stage     : StoreStage
  retries   : Nat
deriving DecidableEq, Repr

/-- How work ends (10 Table 10-4, completion record). -/
inductive Ending where
  | done | doneDespiteWithdraw | withdrawn | superseded | failed
deriving DecidableEq, Repr

/-- A completion record (10 Table 10-4). `kind` is the work kind: the code of the command that began the work. -/
structure Completion where
  marker : Byte
  kind   : Byte
  ending : Ending
  reason : Reason
  lesson : Option Nat
  serial : Option Half
  frame  : Nat
deriving DecidableEq, Repr

/-- A flash operation (08 R123). -/
inductive FlashOp where
  | erase (block : Nat)
  | program (block page : Nat) (data : List Byte)
  | read (block page : Nat)
deriving DecidableEq, Repr

/-- Reading the catalogue area at start-up (08 R133): the block and page being read, the bytes of the block's earlier
pages, and the valid image with the highest sequence so far with its block. -/
structure RecoveryRead where
  block : Nat
  page  : Nat
  bytes : List Byte
  best  : Option (Nat × CatalogueImage)
deriving DecidableEq, Repr

/-- Who needs a catalogue write (08 R123). -/
inductive WriteOwner where
  | recovery | afterRestart | job
deriving DecidableEq, Repr

/-- Where an attempt of a catalogue write stands (08 R131). -/
inductive WritePhase where
  | erase
  | program (page : Nat)
  | readBack (page : Nat)
deriving DecidableEq, Repr

/-- A catalogue write (08 R131): the state it stores, the attempt (1 to 4), its block, the bytes of its image. -/
structure CatalogueWrite where
  owner   : WriteOwner
  image   : CatalogueImage
  attempt : Nat
  block   : Nat
  bytes   : List Byte
  phase   : WritePhase
deriving DecidableEq, Repr

/-- A soundness test in progress (08 R129): the place page being read, the CRC register over the image bytes read, and
whether everything so far was sound. -/
structure PageCheck where
  page  : Nat
  crc   : Quad
  sound : Bool
deriving DecidableEq, Repr

/-- What the flash operation in progress belongs to (08 R123). `programming`: place page being programmed, 1 to 2025
and then 0, with the CRC register over the image bytes programmed so far. -/
inductive Activity where
  | idle
  | recovering (r : RecoveryRead)
  | writing (w : CatalogueWrite)
  | erasing (k : Nat)
  | programming (page : Nat) (crc : Quad)
  | readingBack (c : PageCheck)
  | loading (slot : Nat) (c : PageCheck)
deriving DecidableEq, Repr

/-! ### The blocks' states (00 Table 1.2.1) -/

/-- A running timer: what it was started with, and how many of the waiting expiries belong to its run before, which ended when it
was started anew: they do not happen (01 R9; 07 R108, R116). `late` is the model's own (log 58). -/
structure Timer where
  duration : Nat
  late     : Nat
deriving DecidableEq, Repr

/-- Sensor intake unit (01 R2, R3, R9). `timer`: the no-signal timer, in ms, or none while it is stopped. -/
structure Siu where
  intake      : IntakeState
  frameNumber : Nat
  timer       : Option Timer
  lines       : Nat
deriving DecidableEq, Repr

/-- Tile statistics unit (01 R11, R12, R15). -/
structure Tsu where
  threshold     : Nat
  thresholdCopy : Nat
  building      : Option (List TileAcc)
  settled       : Option SettledSet
deriving DecidableEq, Repr

/-- Tile classifier (02). -/
structure Tcl where
  table     : Classifier
  copy      : Option Classifier
  count     : Nat
  box       : Option TileBox
  boxQuorum : Option Nat
deriving DecidableEq, Repr

/-- Page enhancement unit (03). -/
structure Peu where
  profiles  : List Profile
  copy      : Option (List Profile)
  source    : Option Nat
  lineStore : List (List PixelClock)
deriving DecidableEq, Repr

/-- Slot pool manager (04). -/
structure Spm where
  slots   : List Slot
  notices : Nat
deriving DecidableEq, Repr

/-- View controller (05 Table 5-1, R79, R72). -/
structure Vwc where
  zt     : Nat
  zc     : Nat
  glide  : Nat
  tx     : Nat
  ty     : Nat
  freeze : Option Nat
  layout : Layout
  page   : Option PageShown
  gen    : Half
  watch  : Option GlideWatch
  window : Window
deriving DecidableEq, Repr

/-- Display output unit (06). `stale`: how many of the waiting output frame starts belong to a raster that has been stopped since they
arrived, and so do not happen: the model's own field (06 R90; log 50). -/
structure Dou where
  mode        : Nat
  pendingMode : Nat
  raster      : Raster
  blank       : Bool
  left        : Option Latch
  right       : Option Latch
  stale       : Nat
deriving DecidableEq, Repr

/-- Feed link controller (07). The three timers, in ms, are none while they are stopped; `hold` is the hold in force with its timer,
in hold units (R108, R110, R115, R116). `pages` holds the agreement pages that wait for their turn on the link, oldest first: the
model's own field (10 R155; log 23). -/
structure Flc where
  agreement      : Agreement
  started        : Bool
  restartCount   : Nat
  partner        : Option BaseOffer
  result         : Option AgreementResult
  notes          : List Note
  latched        : List Note
  unsent         : List PartPage
  lastPage       : Option NotePage
  pages          : List AgreementPage
  bridgeToggle   : Bool
  expectRate     : Bool
  rateLimit      : Option Nat
  cropAgreed     : Bool
  exportAgreed   : Bool
  pageTimer      : Option Timer
  intervalTimer  : Option Timer
  allowanceTimer : Option Timer
  due            : Bool
  hold           : Option Timer
  marks          : FeedMarks
  buffer         : List FeedLine
  frame          : Option FeedFrame
  exportFrame    : Option ExportFrame
  lastFed        : Nat
deriving DecidableEq, Repr

/-- Lesson store controller (08, 09). -/
structure Lsc where
  mode       : StoreMode
  lessons    : List LessonRecord
  retired    : List Nat
  nextSerial : Half
  saved      : SavedSettings
  catSeq     : Quad
  lastBlock  : Nat
  due        : Bool
  queue      : List Job
  retryLimit : Nat
  activity   : Activity
  flash      : Option FlashOp
deriving DecidableEq, Repr

/-! ### Reports: the result data of the read commands -/

/-- What a view command's reply carries (05 R70). -/
structure ViewFigures where
  gen : Half
  zt  : Nat
  zc  : Nat
  tx  : Nat
  ty  : Nat
  cx  : Nat
  cy  : Nat
deriving DecidableEq, Repr

/-- One slot in the reply of READ_SLOTS (04 R65). -/
structure SlotReport where
  state   : SlotState
  content : SlotContent
  holders : Holders
deriving DecidableEq, Repr

/-- The reply of READ_OUTPUT (06 R100). `leftFit`, `rightFit`: the fit of a PAGE_FIT latch. -/
structure OutputReport where
  mode     : Nat
  pending  : Nat
  raster   : Raster
  blank    : Bool
  left     : Option Latch
  right    : Option Latch
  leftFit  : Option Fit
  rightFit : Option Fit
deriving DecidableEq, Repr

/-- The feed frame in flight as READ_FEED reports it (07 R121). -/
structure FrameReport where
  kind     : FeedKind
  produced : Nat
  sent     : Nat
  cut      : Bool
deriving DecidableEq, Repr

/-- The export frame as READ_FEED reports it (07 R121). -/
structure ExportReport where
  inFlight : Bool
  lesson   : Nat
  serial   : Half
  port     : Port
  marker   : Byte
deriving DecidableEq, Repr

/-- The reply of READ_FEED (07 R121). `holdLeft`: the hold units remaining, when a hold is in force. -/
structure FeedReport where
  agreement    : Agreement
  restartCount : Nat
  partner      : Option BaseOffer
  result       : Option AgreementResult
  interval     : Option Nat
  notes        : List Note
  marks        : FeedMarks
  occupancy    : Nat
  holdLeft     : Option Nat
  frame        : Option FrameReport
  exportFrame  : Option ExportReport
  lastFed      : Nat
  due          : Bool
deriving DecidableEq, Repr

/-- One lesson in the reply of READ_STORE (08 R136). -/
structure LessonSummary where
  state : LessonState
  pages : Nat
  kept  : Bool
  lock  : Bool
deriving DecidableEq, Repr

/-- The reply of READ_STORE once the mode is not STARTING (08 R136). -/
structure StoreReport where
  mode       : StoreMode
  current    : Option Nat
  lessons    : List LessonSummary
  free       : Nat
  retired    : Nat
  assigned   : Nat
  retiredIds : List Nat
  nextSerial : Half
  catSeq     : Quad
  lastBlock  : Nat
  due        : Bool
deriving DecidableEq, Repr

/-- One job in the reply of READ_JOBS (09 R152). `detail`: stage, place and retries of a running STORE. -/
structure JobReport where
  kind      : Byte
  port      : Port
  marker    : Byte
  state     : JobState
  withdrawn : Bool
  serial    : Option Half
  lesson    : Option Nat
  detail    : Option (StoreStage × Option Nat × Nat)
deriving DecidableEq, Repr

/-- The reply of READ_STATUS (10, after Table 10-3: the figures of R16, R23, R37, R65, R86, R100, R121, R136). -/
structure StatusReport where
  intake      : IntakeState
  frameNumber : Nat
  latestFrame : Option Nat
  count       : Nat
  source      : Option Nat
  latestSlot  : Option Nat
  free        : Nat
  gen         : Half
  freeze      : Option Nat
  mode        : Nat
  pending     : Nat
  raster      : Raster
  agreement   : Agreement
  storeMode   : StoreMode
  current     : Option Nat
deriving DecidableEq, Repr

/-- The result data of a reply. -/
inductive ResultData where
  | nothing
  | view (v : ViewFigures)
  | fit (v : ViewFigures) (fallback : Bool)
  | viewRecord (v : Vwc)
  | edgeThreshold (value : Nat)
  | tile (r : Option (TileRecord × Nat))
  | entriesWritten (n : Nat)
  | classifier (entries : List (Nat × ClassifierEntry)) (fallback : DefaultAction) (quorum : Nat)
  | pageBox (box : Option TileBox) (count : Nat) (quorum frame : Option Nat)
  | profiles (l : List Profile)
  | slots (l : List SlotReport) (latest : Option Nat) (free : Nat)
  | outputModes (pending mode : Nat)
  | output (r : OutputReport)
  | feed (r : FeedReport)
  | withdrawal (running : Bool)
  | storeStarting
  | store (r : StoreReport)
  | lesson (r : LessonRecord)
  | jobs (limit : Nat) (l : List JobReport)
  | status (r : StatusReport)
  | completions (l : List Completion) (overflow : Bool)
  | notices (flags enables : Quad)
  | reach (room tether : List ReachWindow)
  | counters (values : List Quad) (flags masks : Byte)
deriving DecidableEq, Repr

/-! ### The command ports (10) -/

/-- The status of a reply (10 Table 10-4). -/
inductive Status where
  | done | accepted | refused
deriving DecidableEq, Repr

/-- A reply (10 Table 10-4). -/
structure Reply where
  kind    : Byte
  marker  : Byte
  status  : Status
  reason  : Reason
  clamped : Bool
  gen     : Half
  data    : ResultData
deriving DecidableEq, Repr

/-- What an owning block answers to a command: the parts of the reply that are not the port interface's own. -/
structure Answer where
  status  : Status
  reason  : Reason
  clamped : Bool
  data    : ResultData
deriving DecidableEq, Repr

/-- A port's command holder, completion queue, overflow flag, notice enables and pending flags (10 R156, R158, R159). -/
structure PortState where
  owed        : Option Reply
  busy        : Option Reply
  completions : List Completion
  overflow    : Bool
  enables     : Quad
  flags       : Quad
deriving DecidableEq, Repr

/-- What a transmitter is sending (10 R158). -/
inductive Sending where
  | reply | completion | notice
deriving DecidableEq, Repr

/-- The Room receiver (10 R154): hunting for a start byte, or taking a frame with the bytes after the start byte. -/
inductive RoomReceiver where
  | hunting
  | taking (bytes : List Byte)
deriving DecidableEq, Repr

/-- The two users of the tether link (10 R155). -/
inductive LinkSide where
  | cpi | flc
deriving DecidableEq, Repr

/-- Command port interface (10). -/
structure Cpi where
  panel       : PortState
  room        : PortState
  tether      : PortState
  reachRoom   : List ReachWindow
  reachTether : List ReachWindow
  counters    : List Quad
  halfFlags   : Byte
  halfMasks   : Byte
  roomTx      : Option Sending
  tetherTx    : Option Sending
  roomRx      : RoomReceiver
  lastSide    : Option LinkSide
deriving DecidableEq, Repr

/-- A packet of the feed link controller (07, packet table). -/
inductive FeedPacket where
  | page (p : AgreementPage)
  | frameStart (kind : FeedKind) (width height : Nat)
  | feedLine (line : FeedLine)
  | frameEnd (cut : Bool)
deriving DecidableEq, Repr

/-- What the part puts on a link or on the Panel's data-out line at an arrival, with its bytes; `feedPacket` also says what the
packet of the feed link controller carries. -/
inductive Emission where
  | panelDataOut (bytes : List Byte)
  | roomFrame (bytes : List Byte)
  | tetherCommand (bytes : List Byte)
  | feedPacket (packet : FeedPacket) (bytes : List Byte)
deriving DecidableEq, Repr

end Sys2Proof.Machine
end

