-- ==== Sys2Proof/Machine/Crc.lean ====
section
/-! DEFINITION. The 32-bit cyclic redundancy check of stored pages and catalogue images (08 R128). -/

namespace Sys2Proof.Machine

/-- The generator 0x04C11DB7 with its bits in reverse order, because the register takes each byte least significant
bit first (08 R128). -/
def crcGenerator : Quad := 0xEDB88320

/-- One bit through the CRC register. -/
def crcBit (r : Quad) : Quad :=
  if r.getLsbD 0 then (r >>> 1) ^^^ crcGenerator else r >>> 1

/-- One byte through the CRC register, least significant bit first. -/
def crcByte (r : Quad) (b : Byte) : Quad :=
  (List.range 8).foldl (fun acc _ => crcBit acc) (r ^^^ b.zeroExtend 32)

/-- The CRC register before the first byte: all ones. -/
def crcStart : Quad := 0xFFFFFFFF

/-- A run of bytes through the CRC register. -/
def crcRun (r : Quad) (bytes : List Byte) : Quad :=
  bytes.foldl crcByte r

/-- The CRC-32 of 08 R128: start with all ones, invert the final value. -/
def crc32 (bytes : List Byte) : Quad :=
  ~~~ (crcRun crcStart bytes)

end Sys2Proof.Machine
end

