-- ==== Sys2Proof/Machine/Ranges.lean ====
section
/-! DEFINITION. The ranges that the manual gives for settings and for the contents of a catalogue image. -/

namespace Sys2Proof.Machine

/-- Operands within 0..4095 (02 Table 2-1). -/
def ClassifierEntry.inRange (e : ClassifierEntry) : Bool :=
  decide (e.a ≤ 4095) && decide (e.b ≤ 4095)

/-- 32 entries in range and a quorum within 1..255 (02 R17, R24). -/
def Classifier.inRange (c : Classifier) : Bool :=
  decide (c.entries.length = 32) && c.entries.all ClassifierEntry.inRange &&
    decide (1 ≤ c.quorum) && decide (c.quorum ≤ 255)

/-- A profile's fields within their ranges (03 Table 3-1). -/
def Profile.inRange (p : Profile) : Bool :=
  decide (p.g ≤ 63) && decide (p.c ≤ 63) && decide (p.s ≤ 16) && decide (p.l ≤ 255)

/-- Four profiles in range (03 R33). -/
def profilesInRange (l : List Profile) : Bool :=
  decide (l.length = 4) && l.all Profile.inRange

/-- The feed marks within their ranges (07 R113). -/
def FeedMarks.inRange (m : FeedMarks) : Bool :=
  decide (2 ≤ m.high) && decide (m.high ≤ 64) && decide (m.low < m.high) && decide (1 ≤ m.start) &&
    decide (m.start ≤ m.high)

/-- A reach window's base and mask within 0..31 (10 R157). -/
def ReachWindow.inRange (w : ReachWindow) : Bool :=
  decide (w.base ≤ 31) && decide (w.mask ≤ 31)

/-- Four reach windows in range (10 R157). -/
def reachInRange (l : List ReachWindow) : Bool :=
  decide (l.length = 4) && l.all ReachWindow.inRange

/-- The events that exist: numbers 0..16 of 10 Table 10-2, one bit each. -/
def eventSet : Quad := 0x1FFFF

/-- A set of enables with numbers 17..31 clear (10 R159). -/
def enablesInRange (e : Quad) : Bool :=
  e &&& eventSet == e

/-- The saved settings within the ranges of the blocks that apply them (08 Table 8-5). -/
def SavedSettings.inRange (s : SavedSettings) : Bool :=
  s.classifier.inRange && decide (s.edge ≤ 255) && profilesInRange s.profiles && decide (s.glide ≤ 255) &&
    decide (s.mode ≤ 3) && s.marks.inRange && reachInRange s.reachRoom && reachInRange s.reachTether &&
    enablesInRange s.enablesPanel && enablesInRange s.enablesRoom && enablesInRange s.enablesTether

/-- The page records of a lesson table, lesson by lesson. -/
def recordsOf (ls : List LessonRecord) : List PageRecord :=
  ls.flatMap (·.pages)

/-- A byte that a lesson's name can hold (08 Table 8-3). -/
def nameByte (b : Byte) : Bool :=
  decide (32 ≤ b.toNat) && decide (b.toNat ≤ 126)

/-- A lesson's name: at most 24 bytes, each within 32..126; an absent name has none (08 Table 8-3). -/
def nameInRange (name : List Byte) : Bool :=
  decide (name.length ≤ 24) && name.all nameByte

/-- What the manual says of the lesson table: 32 lessons, at most one OPEN, no lesson with more than 64 records, an
EMPTY lesson without pages or name, names within their range, serials unique (08 R125, R126). -/
def lessonsInRange (ls : List LessonRecord) : Bool :=
  decide (ls.length = 32) && decide ((ls.filter (·.state == .opened)).length ≤ 1) &&
    ls.all (fun l => decide (l.pages.length ≤ 64) && nameInRange l.name &&
      (l.state != .empty || (l.pages.isEmpty && l.name.isEmpty))) &&
    decide ((recordsOf ls).map (·.serial)).Nodup

/-- What the manual says of the places: every place is FREE, RETIRED, or the place of exactly one page record, and the
retired list has no duplicates (08 R124). -/
def placesInRange (ls : List LessonRecord) (retired : List Nat) : Bool :=
  decide ((recordsOf ls).map (·.place) ++ retired).Nodup &&
    ((recordsOf ls).map (·.place) ++ retired).all (fun p => decide (p < 510))

/-- The largest frame number (01 R3). -/
def lastFrameNumber : Nat := 281474976710655

/-- A page record's fields within their ranges; a record that is not WRITING has its image's CRC-32 (08 Table 8-4; 05 Table
5-1). -/
def PageRecord.inRange (r : PageRecord) : Bool :=
  decide (r.frame ≤ lastFrameNumber) && decide (r.cx ≤ 3839) && decide (r.cy ≤ 2879) && decide (r.zc ≤ 4096) &&
    (r.state == .writing || r.crc.isSome)

/-- A page header's fields within their ranges (08 R128). -/
def PageHeader.inRange (h : PageHeader) : Bool :=
  decide (h.lesson < 32) && decide (h.frame ≤ lastFrameNumber) && decide (h.cx ≤ 3839) && decide (h.cy ≤ 2879) &&
    decide (h.zc ≤ 4096)

/-- The contents of a catalogue image that the part wrote (08 R130, with R124 to R126 and Table 8-5). -/
def CatalogueImage.inRange (i : CatalogueImage) : Bool :=
  lessonsInRange i.lessons && placesInRange i.lessons i.retired && (recordsOf i.lessons).all PageRecord.inRange &&
    i.saved.inRange

end Sys2Proof.Machine
end

