-- ==== Sys2Proof/Machine/Layouts.lean ====
section
/-! DEFINITION. What the manual says of the bytes of a page header (08 R128), of a catalogue image (08 R130, R133) and of the payload
of a packet of the feed link (07 R102, R115). Widths, byte order, marks and places it leaves open: a layout is whatever keeps to
these rules, and the part has one that is a free value (log 7, log 8, log 9). -/

namespace Sys2Proof.Machine

/-! ### Page headers (08 R128, R129) -/

/-- A layout of page headers: the header page of given fields with its header CRC-32, the bytes over which that CRC is taken, which
are those of the page mark and of the given fields, and what a read page holds. -/
structure HeaderLayout where
  /-- The places of the page mark in the header page, with the byte at each. -/
  mark       : List (Nat × Byte)
  /-- The places in the header page over which the header CRC-32 is taken, in the order in which it takes them. -/
  covered    : PageHeader → List Nat
  /-- The bytes at those places: the other fields of the header, the page mark among them. -/
  fieldBytes : PageHeader → List Byte
  /-- The program page with given fields and header CRC-32. -/
  page       : PageHeader → Quad → List Byte
  /-- The fields and the header CRC-32 of a read page; none without the page mark. -/
  read       : List Byte → Option (PageHeader × Quad)
  /-- A header takes one program page (08 Table 8-2). -/
  fillsPage  : ∀ h c, (page h c).length = 2048
  /-- A header page carries the page mark. -/
  marked     : ∀ h c, ∀ m ∈ mark, (page h c)[m.1]? = some m.2
  /-- The page mark tells a header from an erased page, whose bytes are all 0xFF. -/
  telling    : ∃ m ∈ mark, m.2 ≠ 0xFF
  /-- A page without the page mark is no header. -/
  needsMark  : ∀ data x, read data = some x → ∀ m ∈ mark, data[m.1]? = some m.2
  /-- A header page holds the fields and the CRC that it was made of. -/
  readsBack  : ∀ h c, h.inRange = true → read (page h c) = some (h, c)
  /-- The CRC covers bytes of the header page, whatever the CRC itself is. -/
  coversPage : ∀ h c, (covered h).map (fun p => (page h c)[p]?) = (fieldBytes h).map some
  /-- The CRC covers the page mark. -/
  coversMark : ∀ h, ∀ m ∈ mark, m.1 ∈ covered h
  /-- The bytes that the CRC covers hold every field. -/
  coversAll  : ∀ h k, h.inRange = true → k.inRange = true → fieldBytes h = fieldBytes k → h = k

/-! ### Catalogue images (08 R130, R133) -/

/-- How the parts of a catalogue image are laid out as bytes. -/
structure CatalogueParts where
  mark          : List Byte
  lengthField   : Nat → List Byte
  sequenceField : Quad → List Byte
  lessonTable   : List LessonRecord → List Byte
  retiredList   : List Nat → List Byte
  serialField   : Half → List Byte
  settings      : SavedSettings → List Byte
  crcField      : Quad → List Byte

/-- The preamble: mark, image length, sequence number (08 R130). -/
def CatalogueParts.preamble (p : CatalogueParts) (length : Nat) (sequence : Quad) : List Byte :=
  p.mark ++ p.lengthField length ++ p.sequenceField sequence

/-- What stands between the preamble and the CRC-32, in the order of 08 R130: lesson table, retired list, next-serial counter, saved
settings. -/
def CatalogueParts.tables (p : CatalogueParts) (i : CatalogueImage) : List Byte :=
  p.lessonTable i.lessons ++ p.retiredList i.retired ++ p.serialField i.nextSerial ++ p.settings i.saved

/-- The length of an image in bytes: preamble, tables and CRC-32. -/
def CatalogueParts.imageLength (p : CatalogueParts) (i : CatalogueImage) : Nat :=
  (p.preamble 0 i.sequence).length + (p.tables i).length + 4

/-- The bytes of an image that its CRC-32 covers. -/
def CatalogueParts.covered (p : CatalogueParts) (i : CatalogueImage) : List Byte :=
  p.preamble (p.imageLength i) i.sequence ++ p.tables i

/-- The bytes of an image: the covered ones, then their CRC-32 (08 R130). -/
def CatalogueParts.image (p : CatalogueParts) (i : CatalogueImage) : List Byte :=
  p.covered i ++ p.crcField (crc32 (p.covered i))

/-- A layout of catalogue images: the parts, and what read bytes hold. -/
structure CatalogueLayout where
  parts        : CatalogueParts
  /-- The image length that a first program page states. -/
  readLength   : List Byte → Nat
  /-- The CRC-32 at the end of an image's bytes. -/
  readCrc      : List Byte → Quad
  /-- The contents of an image's bytes, where these hold contents that the part writes (log 31). -/
  readContents : List Byte → Option { i : CatalogueImage // i.inRange = true }
  markNotEmpty : parts.mark ≠ []
  /-- The length field has one width. -/
  lengthWidth  : ∀ m n, (parts.lengthField m).length = (parts.lengthField n).length
  /-- The sequence number is a 32-bit number. -/
  sequenceWide : ∀ q, (parts.sequenceField q).length = 4
  /-- The CRC-32 takes four bytes. -/
  crcWide      : ∀ c, (parts.crcField c).length = 4
  /-- The preamble lies in the first program page. -/
  preambleFits : ∀ n q, (parts.preamble n q).length ≤ 2048
  /-- An image always fits in its block of 64 program pages. -/
  imageFits    : ∀ i : CatalogueImage, i.inRange = true → (parts.image i).length ≤ 131072
  /-- A first program page states the length in its preamble. -/
  readsLength  : ∀ n q rest, n ≤ 131072 → readLength ((parts.preamble n q ++ rest).take 2048) = n
  /-- An image ends with its CRC-32. -/
  readsCrc     : ∀ bytes c, readCrc (bytes ++ parts.crcField c) = c
  /-- An image holds what it was made of. -/
  readsBack    : ∀ (i : CatalogueImage) (h : i.inRange = true), readContents (parts.image i) = some ⟨i, h⟩

/-! ### Payloads of the feed link's packets (07 R102, R115) -/

/-- A layout of the payloads that carry a value: the bytes for a value, and the value that bytes hold. -/
structure PayloadLayout (α : Type) where
  bytes     : α → List Byte
  read      : List Byte → Option α
  /-- A payload holds what it was made of. -/
  readsBack : ∀ a, read (bytes a) = some a
  /-- A packet's length, a number of 16-bit words in a word, holds the payload (10 Table 10-6). -/
  fits      : ∀ a, (bytes a).length ≤ 131070

end Sys2Proof.Machine
end

