-- ==== Sys2Proof/Machine/Standard.lean ====
section
/-! DEFINITION. One layout of page headers, one of catalogue images and one of each payload that the bridge sends to the feed link
controller. They show that layouts as 08 R128, R130 and 07 R102, R115 ask for exist, so that the part's own can be free values (log
7, log 8, log 9); no meaning depends on them. -/

namespace Sys2Proof.Machine

/-! ### Writing and reading values -/

/-- A way to write the values that are `ok` as at most `size` bytes, and to read them back from the front of a list of bytes. -/
structure Ser (α : Type) where
  ok    : α → Prop
  put   : α → List Byte
  get   : List Byte → Option (α × List Byte)
  size  : Nat
  back  : ∀ a rest, ok a → get (put a ++ rest) = some (a, rest)
  fits  : ∀ a, ok a → (put a).length ≤ size

/-- The bytes of a number, least significant first. -/
def natPut : Nat → Nat → List Byte
  | 0, _ => []
  | k + 1, n => BitVec.ofNat 8 n :: natPut k (n / 256)

/-- A number from its bytes, least significant first. -/
def natGet : Nat → List Byte → Option (Nat × List Byte)
  | 0, l => some (0, l)
  | _ + 1, [] => none
  | k + 1, b :: l => (natGet k l).map fun x => (b.toNat + 256 * x.1, x.2)

theorem natGet_natPut (k n : Nat) (rest : List Byte) (h : n < 256 ^ k) :
    natGet k (natPut k n ++ rest) = some (n, rest) := by
  induction k generalizing n with
  | zero => simp [natGet, natPut]; omega
  | succ k ih =>
    have h' : n / 256 < 256 ^ k := by rw [Nat.div_lt_iff_lt_mul (by omega)]; simpa [Nat.pow_succ] using h
    simp [natGet, natPut, ih _ h']
    omega

theorem natPut_length (k n : Nat) : (natPut k n).length = k := by
  induction k generalizing n with
  | zero => rfl
  | succ k ih => simp [natPut, ih]

/-- Numbers below 256 ^ k in k bytes. -/
def Ser.nat (k : Nat) : Ser Nat where
  ok n := n < 256 ^ k
  put := natPut k
  get := natGet k
  size := k
  back n rest h := natGet_natPut k n rest h
  fits n _ := (natPut_length k n).le

/-- Two values, one after the other. -/
def Ser.pair {α β : Type} (a : Ser α) (b : Ser β) : Ser (α × β) where
  ok x := a.ok x.1 ∧ b.ok x.2
  put x := a.put x.1 ++ b.put x.2
  get l := (a.get l).bind fun x => (b.get x.2).map fun y => ((x.1, y.1), y.2)
  size := a.size + b.size
  back x rest h := by simp [List.append_assoc, a.back _ _ h.1, b.back _ _ h.2]
  fits x h := by
    have := a.fits _ h.1
    have := b.fits _ h.2
    simp; omega

/-- Values written as other values. -/
def Ser.via {α β : Type} (c : Ser α) (ok : β → Prop) (toRaw : β → α) (ofRaw : α → Option β) (keeps : ∀ b, ok b → c.ok (toRaw b))
    (inverse : ∀ b, ok b → ofRaw (toRaw b) = some b) : Ser β where
  ok := ok
  put b := c.put (toRaw b)
  get l := (c.get l).bind fun x => (ofRaw x.1).map fun b => (b, x.2)
  size := c.size
  back b rest h := by simp [c.back _ rest (keeps b h), inverse b h]
  fits b h := c.fits _ (keeps b h)

/-- Reads as many values as are asked for. -/
def itemsGet {α : Type} (get : List Byte → Option (α × List Byte)) : Nat → List Byte → Option (List α × List Byte)
  | 0, l => some ([], l)
  | n + 1, l => (get l).bind fun x => (itemsGet get n x.2).map fun y => (x.1 :: y.1, y.2)

theorem itemsGet_flatMap {α : Type} (c : Ser α) (items : List α) (rest : List Byte) (h : ∀ a ∈ items, c.ok a) :
    itemsGet c.get items.length (items.flatMap c.put ++ rest) = some (items, rest) := by
  induction items with
  | nil => simp [itemsGet]
  | cons a l ih =>
    have hl := ih fun x hx => h x (List.mem_cons_of_mem a hx)
    simp [itemsGet, List.append_assoc, c.back a _ (h a (List.mem_cons_self ..)), hl]

theorem length_flatMap_put {α : Type} (c : Ser α) (items : List α) (h : ∀ a ∈ items, c.ok a) :
    (items.flatMap c.put).length ≤ items.length * c.size := by
  induction items with
  | nil => simp
  | cons a l ih =>
    have hl := ih fun x hx => h x (List.mem_cons_of_mem a hx)
    have ha := c.fits a (h a (List.mem_cons_self ..))
    simp [Nat.add_mul] at *; omega

/-- A list of at most `n` values, after their number in two bytes. -/
def Ser.list {α : Type} (c : Ser α) (n : Nat) : Ser (List α) where
  ok l := l.length ≤ min n 65535 ∧ ∀ a ∈ l, c.ok a
  put l := natPut 2 l.length ++ l.flatMap c.put
  get l := (natGet 2 l).bind fun x => itemsGet c.get x.1 x.2
  size := 2 + n * c.size
  back l rest h := by
    have hl : l.length < 256 ^ 2 := by omega
    simp [List.append_assoc, natGet_natPut 2 l.length _ hl, itemsGet_flatMap c l rest h.2]
  fits l h := by
    have h1 := length_flatMap_put c l h.2
    have h2 : l.length * c.size ≤ n * c.size := Nat.mul_le_mul_right _ (by omega)
    rw [List.length_append, natPut_length]; omega

/-- Words of a width of at most eight bytes each way. -/
def Ser.word (w k : Nat) (h : 2 ^ w ≤ 256 ^ k) : Ser (BitVec w) :=
  (Ser.nat k).via (fun _ => True) BitVec.toNat (fun n => some (BitVec.ofNat w n))
    (fun b _ => Nat.lt_of_lt_of_le b.isLt h) (fun b _ => by simp)

/-- A truth value in one byte. -/
def Ser.bool : Ser Bool :=
  (Ser.nat 1).via (fun _ => True) Bool.toNat (fun n => some (decide (n = 1)))
    (fun b _ => by show b.toNat < 256 ^ 1; cases b <;> decide) (fun b _ => by cases b <;> rfl)

/-- A value or none: no item or one. -/
def Ser.option {α : Type} (c : Ser α) : Ser (Option α) :=
  (c.list 1).via (fun o => ∀ a ∈ o, c.ok a) Option.toList (fun l => some l.head?)
    (fun o h => by cases o <;> simp_all [Ser.list]) (fun o _ => by cases o <;> rfl)

/-- Names in one byte, by their number in a list of all of them. -/
def Ser.name {α : Type} [DecidableEq α] (all : List α) (h : all.length ≤ 255) (whole : ∀ a, a ∈ all) : Ser α :=
  (Ser.nat 1).via (fun _ => True) (fun a => all.idxOf a) (fun n => all[n]?)
    (fun a _ => by have := List.idxOf_lt_length_of_mem (whole a); show _ < 256 ^ 1; omega)
    (fun a _ => by simp [List.idxOf_lt_length_of_mem (whole a)])

/-! ### The parts of a page header and of a catalogue image -/

/-- Crop kinds. -/
def cropSer : Ser CropKind :=
  Ser.name [.view, .page, .full, .fullFallback] (by decide) (by intro a; cases a <;> decide)

/-- Actions. -/
def actionSer : Ser Action :=
  Ser.name [.p0, .p1, .p2, .p3, .pass] (by decide) (by intro a; cases a <;> decide)

/-- Page records. -/
def recordSer : Ser PageRecord :=
  ((Ser.word 16 2 (by decide)).pair <| (Ser.nat 2).pair <|
    (Ser.name [PageState.writing, .kept, .damaged] (by decide) (by intro a; cases a <;> decide)).pair <| cropSer.pair <|
    (Ser.nat 6).pair <| (Ser.nat 2).pair <| (Ser.nat 2).pair <| (Ser.nat 2).pair (Ser.word 32 4 (by decide)).option).via
    (fun r => r.place < 510 ∧ r.inRange = true)
    (fun r => (r.serial, r.place, r.state, r.crop, r.frame, r.cx, r.cy, r.zc, r.crc))
    (fun x => some { serial := x.1, place := x.2.1, state := x.2.2.1, crop := x.2.2.2.1, frame := x.2.2.2.2.1,
                     cx := x.2.2.2.2.2.1, cy := x.2.2.2.2.2.2.1, zc := x.2.2.2.2.2.2.2.1, crc := x.2.2.2.2.2.2.2.2 })
    (fun r h => by
      simp only [PageRecord.inRange, Bool.and_eq_true, decide_eq_true_eq] at h
      have hf : r.frame ≤ 281474976710655 := h.2.1.1.1.1
      simp [Ser.pair, Ser.word, Ser.nat, Ser.via, Ser.name, cropSer, Ser.option]
      omega)
    (fun r _ => rfl)

/-- Lesson records. -/
def lessonSer : Ser LessonRecord :=
  ((Ser.name [LessonState.empty, .opened, .closed] (by decide) (by intro a; cases a <;> decide)).pair <|
    ((Ser.word 8 1 (by decide)).list 24).pair <| Ser.bool.pair <| Ser.bool.pair (recordSer.list 64)).via
    (fun l => l.name.length ≤ 24 ∧ l.pages.length ≤ 64 ∧ ∀ r ∈ l.pages, recordSer.ok r)
    (fun l => (l.state, l.name, l.kept, l.lock, l.pages))
    (fun x => some { state := x.1, name := x.2.1, kept := x.2.2.1, lock := x.2.2.2.1, pages := x.2.2.2.2 })
    (fun l h => by
      refine ⟨trivial, ⟨?_, fun _ _ => trivial⟩, trivial, trivial, ⟨?_, h.2.2⟩⟩
      · have := h.1; show l.name.length ≤ min 24 65535; omega
      · have := h.2.1; show l.pages.length ≤ min 64 65535; omega)
    (fun l _ => rfl)

/-- Classifier tables. -/
def classifierSer : Ser Classifier :=
  (((Ser.bool.pair <|
      (Ser.name [MatchKind.range, .pair, .mask] (by decide) (by intro a; cases a <;> decide)).pair <|
      (Ser.nat 2).pair <| (Ser.nat 2).pair <| actionSer.pair Ser.bool).via
      (fun e => e.inRange = true)
      (fun e : ClassifierEntry => (e.enabled, e.kind, e.a, e.b, e.action, e.text))
      (fun x => some { enabled := x.1, kind := x.2.1, a := x.2.2.1, b := x.2.2.2.1, action := x.2.2.2.2.1, text := x.2.2.2.2.2 })
      (fun e h => by
        simp [ClassifierEntry.inRange] at h
        simp [Ser.pair, Ser.bool, Ser.nat, Ser.via, Ser.name, actionSer]
        omega)
      (fun e _ => rfl)).list 32).pair (actionSer.pair (Ser.bool.pair (Ser.nat 1))) |>.via
    (fun c => c.inRange = true)
    (fun c => (c.entries, c.fallback.action, c.fallback.text, c.quorum))
    (fun x => some { entries := x.1, fallback := { action := x.2.1, text := x.2.2.1 }, quorum := x.2.2.2 })
    (fun c h => by
      simp [Classifier.inRange] at h
      simp [Ser.pair, Ser.bool, Ser.nat, Ser.via, Ser.name, actionSer, Ser.list]
      exact ⟨⟨by omega, h.1.1.2⟩, by omega⟩)
    (fun c _ => rfl)

/-- Profiles. -/
def profileSer : Ser Profile :=
  ((Ser.nat 1).pair <| (Ser.nat 1).pair <| (Ser.nat 1).pair (Ser.nat 1)).via
    (fun p => p.inRange = true) (fun p => (p.g, p.c, p.s, p.l))
    (fun x => some { g := x.1, c := x.2.1, s := x.2.2.1, l := x.2.2.2 })
    (fun p h => by
      simp [Profile.inRange] at h
      simp [Ser.pair, Ser.nat]
      omega)
    (fun p _ => rfl)

/-- Reach windows. -/
def windowSer : Ser ReachWindow :=
  (Ser.bool.pair <| (Ser.nat 1).pair <| (Ser.nat 1).pair <| Ser.bool.pair <| Ser.bool.pair Ser.bool).via
    (fun w => w.inRange = true) (fun w => (w.enabled, w.base, w.mask, w.showRight, w.saveRight, w.sendRight))
    (fun x => some { enabled := x.1, base := x.2.1, mask := x.2.2.1, showRight := x.2.2.2.1, saveRight := x.2.2.2.2.1,
                     sendRight := x.2.2.2.2.2 })
    (fun w h => by
      simp [ReachWindow.inRange] at h
      simp [Ser.pair, Ser.nat, Ser.bool, Ser.via]
      omega)
    (fun w _ => rfl)

/-- Saved settings records. -/
def settingsSer : Ser SavedSettings :=
  (classifierSer.pair <| (Ser.nat 1).pair <| (profileSer.list 4).pair <| (Ser.nat 1).pair <| (Ser.nat 1).pair <|
    (Ser.nat 1).pair <| (Ser.nat 1).pair <| (Ser.nat 1).pair <| (windowSer.list 4).pair <| (windowSer.list 4).pair <|
    (Ser.word 32 4 (by decide)).pair <| (Ser.word 32 4 (by decide)).pair (Ser.word 32 4 (by decide))).via
    (fun s => s.inRange = true)
    (fun s => (s.classifier, s.edge, s.profiles, s.glide, s.mode, s.marks.high, s.marks.low, s.marks.start, s.reachRoom,
      s.reachTether, s.enablesPanel, s.enablesRoom, s.enablesTether))
    (fun x => some
      { classifier := x.1, edge := x.2.1, profiles := x.2.2.1, glide := x.2.2.2.1, mode := x.2.2.2.2.1,
        marks := { high := x.2.2.2.2.2.1, low := x.2.2.2.2.2.2.1, start := x.2.2.2.2.2.2.2.1 },
        reachRoom := x.2.2.2.2.2.2.2.2.1, reachTether := x.2.2.2.2.2.2.2.2.2.1, enablesPanel := x.2.2.2.2.2.2.2.2.2.2.1,
        enablesRoom := x.2.2.2.2.2.2.2.2.2.2.2.1, enablesTether := x.2.2.2.2.2.2.2.2.2.2.2.2 })
    (fun s h => by
      simp only [SavedSettings.inRange, FeedMarks.inRange, profilesInRange, reachInRange, Bool.and_eq_true, decide_eq_true_eq,
        List.all_eq_true] at h
      obtain ⟨⟨⟨⟨⟨⟨⟨⟨⟨⟨hc, he⟩, hp⟩, hg⟩, hm⟩, hk⟩, hr⟩, ht⟩, -⟩, -⟩, -⟩ := h
      refine ⟨hc, ?_, ⟨?_, hp.2⟩, ?_, ?_, ?_, ?_, ?_, ⟨?_, hr.2⟩, ⟨?_, ht.2⟩, trivial, trivial, trivial⟩ <;>
        simp only [Ser.nat] <;> omega)
    (fun s _ => rfl)

/-- What a catalogue image holds after its length. -/
def imageSer : Ser (Quad × List LessonRecord × List Nat × Half × SavedSettings) :=
  (Ser.word 32 4 (by decide)).pair <| (lessonSer.list 32).pair <| ((Ser.nat 2).list 510).pair <|
    (Ser.word 16 2 (by decide)).pair settingsSer

/-- The fields of a page header after its mark. -/
def headerSer : Ser PageHeader :=
  ((Ser.word 16 2 (by decide)).pair <| (Ser.nat 1).pair <| cropSer.pair <| (Ser.nat 6).pair <| (Ser.nat 2).pair <|
    (Ser.nat 2).pair <| (Ser.nat 2).pair (Ser.word 32 4 (by decide))).via
    (fun h => h.inRange = true)
    (fun h => (h.serial, h.lesson, h.crop, h.frame, h.cx, h.cy, h.zc, h.crc))
    (fun x => some { serial := x.1, lesson := x.2.1, crop := x.2.2.1, frame := x.2.2.2.1, cx := x.2.2.2.2.1,
                     cy := x.2.2.2.2.2.1, zc := x.2.2.2.2.2.2.1, crc := x.2.2.2.2.2.2.2 })
    (fun h hh => by
      simp only [PageHeader.inRange, Bool.and_eq_true, decide_eq_true_eq] at hh
      have hf : h.frame ≤ 281474976710655 := hh.1.1.1.2
      simp [Ser.pair, Ser.word, Ser.nat, Ser.via, Ser.name, cropSer]
      omega)
    (fun h _ => rfl)

theorem headerSer_length (h : PageHeader) : (headerSer.put h).length = 20 := by
  simp [headerSer, cropSer, Ser.via, Ser.pair, Ser.word, Ser.nat, Ser.name, natPut_length]

/-! ### The layouts -/

/-- Bytes that fill a page. -/
def zeros (n : Nat) : List Byte := List.replicate n 0

theorem zeros_length (n : Nat) : (zeros n).length = n := List.length_replicate

theorem take_zeros (m n : Nat) : (zeros n).take m = zeros (min m n) := List.take_replicate

/-- A header page: a mark byte, the fields, the header CRC-32, zeros. -/
def standardPage (h : PageHeader) (c : Quad) : List Byte :=
  0x45 :: (headerSer.put h ++ (natPut 4 c.toNat ++ zeros 2048)).take 2047

theorem bytes_at_front (a b : List Byte) : (List.range a.length).map (fun p => (a ++ b)[p]?) = a.map some := by
  refine List.ext_getElem (by simp) fun i hi _ => ?_
  have h : i < a.length := by simpa using hi
  simp [List.getElem?_append_left h, List.getElem?_eq_getElem h]

/-- What a page laid out so holds. -/
def readStandardPage (data : List Byte) : Option (PageHeader × Quad) :=
  match data with
  | [] => none
  | b :: rest =>
    if b = 0x45 then
      (headerSer.get rest).bind fun x => (natGet 4 x.2).map fun y => (x.1, BitVec.ofNat 32 y.1)
    else none

/-- A layout of page headers. -/
def standardHeader : HeaderLayout where
  mark := [(0, 0x45)]
  covered h := List.range (0x45 :: headerSer.put h).length
  fieldBytes h := 0x45 :: headerSer.put h
  page := standardPage
  read := readStandardPage
  fillsPage h c := by simp [standardPage, natPut_length, zeros_length]
  marked h c m hm := by simp at hm; subst hm; rfl
  telling := ⟨_, List.mem_singleton_self _, by decide⟩
  needsMark data x hx m hm := by
    simp at hm; subst hm
    cases data with
    | nil => simp [readStandardPage] at hx
    | cons b rest =>
      simp only [readStandardPage] at hx
      split at hx
      · next hb => simp [hb]
      · cases hx
  readsBack h c hh := by
    have hs : headerSer.size = 20 := rfl
    have hl := headerSer.fits h hh
    have hc : c.toNat < 256 ^ 4 := c.isLt
    have hn := natPut_length 4 c.toNat
    rw [hs] at hl
    have hcut : (headerSer.put h ++ (natPut 4 c.toNat ++ zeros 2048)).take 2047 =
        headerSer.put h ++ (natPut 4 c.toNat ++ zeros (2047 - (headerSer.put h).length - 4)) := by
      rw [List.take_append, List.take_of_length_le (by omega), List.take_append, List.take_of_length_le (by omega), hn,
        take_zeros]
      congr 3
    simp [standardPage, readStandardPage, hcut, headerSer.back h _ hh, natGet_natPut 4 _ _ hc]
  coversPage h c := by
    have hn := headerSer_length h
    have hp : standardPage h c = (0x45 :: headerSer.put h) ++ (natPut 4 c.toNat ++ zeros 2048).take 2027 := by
      rw [standardPage, List.take_append, List.take_of_length_le (by omega), hn, List.cons_append]
    rw [hp, bytes_at_front]
  coversMark h m hm := by simp at hm; subst hm; simp
  coversAll h k hh hk he := by
    replace he := (List.cons.inj he).2
    have h1 := headerSer.back h [] hh
    have h2 := headerSer.back k [] hk
    rw [he, h2] at h1
    simpa using h1.symm

/-- The parts of a catalogue image. -/
def standardParts : CatalogueParts where
  mark := [0x43]
  lengthField n := natPut 4 n
  sequenceField q := (Ser.word 32 4 (by decide)).put q
  lessonTable := (lessonSer.list 32).put
  retiredList := ((Ser.nat 2).list 510).put
  serialField := (Ser.word 16 2 (by decide)).put
  settings := settingsSer.put
  crcField c := natPut 4 c.toNat

/-- The values of an image in their order. -/
def CatalogueImage.values (i : CatalogueImage) : Quad × List LessonRecord × List Nat × Half × SavedSettings :=
  (i.sequence, i.lessons, i.retired, i.nextSerial, i.saved)

/-- What the bytes of an image laid out so hold. -/
def readStandardImage (bytes : List Byte) : Option { i : CatalogueImage // i.inRange = true } :=
  (imageSer.get (bytes.drop 5)).bind fun x =>
    let i : CatalogueImage :=
      { sequence := x.1.1, lessons := x.1.2.1, retired := x.1.2.2.1, nextSerial := x.1.2.2.2.1, saved := x.1.2.2.2.2 }
    if h : i.inRange = true then some ⟨i, h⟩ else none

theorem nodup_below_length (l : List Nat) (n : Nat) (hn : l.Nodup) (hl : ∀ p ∈ l, p < n) : l.length ≤ n := by
  have h : l.toFinset ⊆ Finset.range n := fun p hp => by simpa using hl p (by simpa using hp)
  simpa [List.toFinset_card_of_nodup hn] using Finset.card_le_card h

theorem imageSer_ok (i : CatalogueImage) (h : i.inRange = true) : imageSer.ok i.values := by
  simp only [CatalogueImage.inRange, lessonsInRange, nameInRange, placesInRange, Bool.and_eq_true, decide_eq_true_eq,
    List.all_eq_true] at h
  obtain ⟨⟨⟨⟨⟨⟨hn, -⟩, hl⟩, -⟩, hp, hb⟩, hr⟩, hs⟩ := h
  refine ⟨trivial, ⟨?_, fun l hm => ⟨(hl l hm).1.2.1, (hl l hm).1.1, fun r hr' => ?_⟩⟩, ⟨?_, fun p hm => ?_⟩, trivial, hs⟩
  · show i.lessons.length ≤ min 32 65535; omega
  · have hmem : r ∈ recordsOf i.lessons := List.mem_flatMap.2 ⟨l, hm, hr'⟩
    exact ⟨hb r.place (List.mem_append_left _ (List.mem_map.2 ⟨r, hmem, rfl⟩)), hr r hmem⟩
  · have := nodup_below_length i.retired 510 (List.nodup_append.1 hp).2.1 fun p hm => hb p (List.mem_append_right _ hm)
    show i.retired.length ≤ min 510 65535; omega
  · have := hb p (List.mem_append_right _ hm)
    show p < 256 ^ 2; omega

theorem standard_covered (i : CatalogueImage) :
    standardParts.covered i = 0x43 :: (natPut 4 (standardParts.imageLength i) ++ imageSer.put i.values) := by
  simp [CatalogueParts.covered, CatalogueParts.preamble, CatalogueParts.tables, standardParts, imageSer, Ser.pair,
    CatalogueImage.values]

/-- A layout of catalogue images. -/
def standardCatalogue : CatalogueLayout where
  parts := standardParts
  readLength bytes := ((natGet 4 (bytes.drop 1)).map (·.1)).getD 0
  readCrc bytes := BitVec.ofNat 32 (((natGet 4 (bytes.drop (bytes.length - 4))).map (·.1)).getD 0)
  readContents := readStandardImage
  markNotEmpty := by simp [standardParts]
  lengthWidth m n := by simp [standardParts, natPut_length]
  sequenceWide q := natPut_length 4 q.toNat
  crcWide c := natPut_length 4 c.toNat
  preambleFits n q := by
    have : ((Ser.word 32 4 (by decide)).put q).length = 4 := natPut_length 4 q.toNat
    simp [CatalogueParts.preamble, standardParts, natPut_length, this]
  imageFits i h := by
    have h1 := imageSer.fits i.values (imageSer_ok i h)
    have h2 : imageSer.size ≤ 131000 := by decide
    have h3 : (standardParts.crcField (crc32 (standardParts.covered i))).length = 4 := natPut_length 4 _
    rw [CatalogueParts.image, List.length_append, h3, standard_covered]
    simp [natPut_length]; omega
  readsLength n q rest hn := by
    have hs : ((Ser.word 32 4 (by decide)).put q).length = 4 := natPut_length 4 q.toNat
    have hn' : n < 256 ^ 4 := by omega
    have hcut : (standardParts.preamble n q ++ rest).take 2048 =
        0x43 :: (natPut 4 n ++ ((Ser.word 32 4 (by decide)).put q ++ rest).take 2043) := by
      simp only [CatalogueParts.preamble, standardParts, List.append_assoc, List.cons_append, List.nil_append]
      rw [List.take_succ_cons, List.take_append, List.take_of_length_le (by rw [natPut_length]; omega), natPut_length]
    simp [hcut, natGet_natPut 4 n _ hn']
  readsCrc bytes c := by
    have hc : c.toNat < 256 ^ 4 := c.isLt
    have h4 : (standardParts.crcField c).length = 4 := natPut_length 4 _
    have hb := natGet_natPut 4 c.toNat [] hc
    rw [List.append_nil] at hb
    simp only [List.length_append, h4, Nat.add_sub_cancel, List.drop_left]
    show BitVec.ofNat 32 (((natGet 4 (natPut 4 c.toNat)).map (·.1)).getD 0) = c
    rw [hb]; simp
  readsBack i h := by
    have hd : (standardParts.image i).drop 5 =
        imageSer.put i.values ++ standardParts.crcField (crc32 (standardParts.covered i)) := by
      have h5 : (0x43 :: natPut 4 (standardParts.imageLength i) : List Byte).length = 5 := by simp [natPut_length]
      rw [CatalogueParts.image, standard_covered, ← List.cons_append, List.append_assoc, ← h5, List.drop_left]
    rw [readStandardImage, hd, imageSer.back _ _ (imageSer_ok i h)]
    simp [CatalogueImage.values, h]

/-- A layout of payloads from a way to write every value. -/
def Ser.payload {α : Type} (c : Ser α) (all : ∀ a, c.ok a) (small : c.size ≤ 131070) : PayloadLayout α where
  bytes := c.put
  read l := (c.get l).map (·.1)
  readsBack a := by
    have h := c.back a [] (all a)
    rw [List.append_nil] at h
    rw [h]; rfl
  fits a := (c.fits a (all a)).trans small

/-- Base offers. -/
def offerSer : Ser BaseOffer :=
  ((Ser.word 8 1 (by decide)).pair <| Ser.bool.pair <| Ser.bool.pair <|
    (Ser.name [OfferFault.noFault, .offline, .refused] (by decide) (by intro a; cases a <;> decide)).pair Ser.bool).via
    (fun _ => True) (fun o => (o.formats, o.nextPage, o.ack, o.fault, o.restart))
    (fun x => some { formats := x.1, nextPage := x.2.1, ack := x.2.2.1, fault := x.2.2.2.1, restart := x.2.2.2.2 })
    (fun _ _ => ⟨trivial, trivial, trivial, trivial, trivial⟩) (fun _ _ => rfl)

/-- Note pages. -/
def noteSer : Ser NotePage :=
  (Ser.bool.pair <| Ser.bool.pair <|
    (Ser.name [NoteKind.message, .plain] (by decide) (by intro a; cases a <;> decide)).pair <| Ser.bool.pair <| Ser.bool.pair
      (Ser.word 11 2 (by decide))).via
    (fun _ => True) (fun p => (p.nextPage, p.ack, p.kind, p.ack2, p.toggle, p.code))
    (fun x => some { nextPage := x.1, ack := x.2.1, kind := x.2.2.1, ack2 := x.2.2.2.1, toggle := x.2.2.2.2.1,
                     code := x.2.2.2.2.2 })
    (fun _ _ => ⟨trivial, trivial, trivial, trivial, trivial, trivial⟩) (fun _ _ => rfl)

/-- A layout of base offers. -/
def standardOffer : PayloadLayout BaseOffer :=
  offerSer.payload (fun _ => trivial) (by decide)

/-- A layout of note pages. -/
def standardNote : PayloadLayout NotePage :=
  noteSer.payload (fun _ => trivial) (by decide)

/-- A layout of hold durations. -/
def standardHold : PayloadLayout Half :=
  (Ser.word 16 2 (by decide)).payload (fun _ => trivial) (by decide)

end Sys2Proof.Machine
end

