-- ==== Sys2Proof/Config.lean ====
section
/-! DEFINITION. What is fixed for the part: the factory values of the manual, and the free values that the manual does
not state (opaque constants without a body: nothing in Lean can evaluate them). -/

namespace Sys2Proof.Config

open Sys2Proof.Machine

/-! ### Factory values -/

/-- The disabled factory entries 4..31 (02 Table 2-2). -/
def unusedEntry : ClassifierEntry :=
  { enabled := false, kind := .range, a := 0, b := 0, action := .pass, text := false }

/-- The factory classifier table with its default action and quorum (02 R19, Table 2-2). -/
def factoryClassifier : Classifier :=
  { entries :=
      [ { enabled := true, kind := .mask, a := 0, b := 3584, action := .pass, text := false },
        { enabled := true, kind := .mask, a := 0, b := 56, action := .p1, text := false },
        { enabled := true, kind := .mask, a := 2048, b := 2048, action := .p1, text := true },
        { enabled := true, kind := .mask, a := 0, b := 0, action := .p2, text := false } ] ++
        List.replicate 28 unusedEntry,
    fallback := { action := .p0, text := false },
    quorum := 4 }

/-- The factory profiles (03 Table 3-2). -/
def factoryProfiles : List Profile :=
  [ { g := 0, c := 0, s := 0, l := 0 }, { g := 40, c := 8, s := 8, l := 64 },
    { g := 12, c := 4, s := 0, l := 32 }, { g := 48, c := 12, s := 16, l := 96 } ]

/-- The factory feed marks (07 R113). -/
def factoryMarks : FeedMarks :=
  { high := 48, low := 16, start := 8 }

/-- A disabled reach window. The manual gives its other fields no value: they decide nothing while it is disabled, and
they are zero here (DESIGN CHOICE, log 41). -/
def closedWindow : ReachWindow :=
  { enabled := false, base := 0, mask := 0, showRight := false, saveRight := false, sendRight := false }

/-- The factory reach table: window 0 enabled with base 0, mask 0 and all rights, windows 1..3 disabled (08 Table 8-5). -/
def factoryReach : List ReachWindow :=
  [ { enabled := true, base := 0, mask := 0, showRight := true, saveRight := true, sendRight := true },
    closedWindow, closedWindow, closedWindow ]

/-- The factory settings (08 Table 8-5; the notice enables of 10 R159: events 0..16 on every port). -/
def factorySettings : SavedSettings :=
  { classifier := factoryClassifier, edge := 40, profiles := factoryProfiles, glide := 16, mode := 2,
    marks := factoryMarks, reachRoom := factoryReach, reachTether := factoryReach,
    enablesPanel := eventSet, enablesRoom := eventSet, enablesTether := eventSet }

/-- An EMPTY lesson (08 R125). -/
def emptyLesson : LessonRecord :=
  { state := .empty, name := [], kept := false, lock := false, pages := [] }

/-- The lesson table of a blank store (08 R125). -/
def blankLessons : List LessonRecord :=
  List.replicate 32 emptyLesson

/-! ### Free values -/

/-- The layout of catalogue images, where it is not the one shown to exist: nothing is known of it but that it is a layout (log
7). -/
opaque freeCatalogue : Option CatalogueLayout

/-- The part's layout of catalogue images: the manual gives the order of the parts, not their widths and bytes (08 R130, R133; log
7). -/
def catalogue : CatalogueLayout :=
  freeCatalogue.getD standardCatalogue

/-- The byte that fills the last program page of an image after its end (08 R130; log 35). -/
opaque imagePadding : Byte

/-- The layout of page headers, where it is not the one shown to exist: nothing is known of it but that it is a layout (log 8). -/
opaque freeHeader : Option HeaderLayout

/-- The part's layout of page headers: the manual lists the fields, not their widths and places (08 R128, R129; log 8). -/
def header : HeaderLayout :=
  freeHeader.getD standardHeader

/-- The bytes of a reply's result data (10 Table 10-4 gives their place only; log 9). -/
opaque resultBytes : ResultData → List Byte

/-- The layouts of the payloads of BASE_OFFER, NOTE_PAGE and HOLD packets, where they are not the ones shown to exist: nothing is
known of them but that they are layouts (log 9). -/
opaque freeOffer : Option (PayloadLayout BaseOffer)
opaque freeNote : Option (PayloadLayout NotePage)
opaque freeHold : Option (PayloadLayout Half)

/-- The payload of a BASE_OFFER packet, in either direction: the manual lists its fields, not their bytes (07 R102; log 9). -/
def offer : PayloadLayout BaseOffer :=
  freeOffer.getD standardOffer

/-- The payload of a NOTE_PAGE packet, in either direction (07 R102; log 9). -/
def note : PayloadLayout NotePage :=
  freeNote.getD standardNote

/-- The payload of a HOLD packet: a duration (07 R115; log 9). -/
def hold : PayloadLayout Half :=
  freeHold.getD standardHold

/-- The payload of a FRAME_START packet: kind with its frame number or its lesson and serial, width, height (07 R114, R118; log
9). -/
opaque frameStartPayload : FeedKind → Nat → Nat → List Byte

/-- The payload of a LINE packet (07 R112, R118; log 9). -/
opaque linePayload : FeedLine → List Byte

/-- The payload of a FRAME_END packet beside the CUT flag of its header (07, packet table; log 9). -/
opaque frameEndPayload : Bool → List Byte

/-- What the raster pins hold at a place while the raster is RESTARTING and carries no sync (06 Table 6-2 says it for STOPPED
alone; log 51). -/
opaque restartingTone : Nat → Nat → Sample × Sample × Sample

/-- What a flag argument above 1 stands for (10 Table 10-5 gives 0 and 1 only; log 10). -/
opaque unstatedFlag : Byte → Bool

/-- Whether a flag argument above 1 is reported as clamped (log 10). -/
opaque unstatedFlagClamped : Byte → Bool

/-- Whether a rights argument with bits beyond SHOW, SAVE and EXPORT is reported as clamped (log 11). -/
opaque unstatedRightsClamped : Byte → Bool

/-- The lesson byte of a completion record without a lesson (10 Table 10-4; log 12). -/
opaque absentLesson : Byte

/-- The serial bytes of a completion record without a serial (10 Table 10-4; log 12). -/
opaque absentSerial : Half

/-- Bits 1..7 of a reply's flags byte (10 Table 10-4; log 13). -/
opaque spareReplyFlags : BitVec 7

/-- Bits 3..7 of a completion record's flags byte (10 Table 10-4; log 13). -/
opaque spareRecordFlags : BitVec 5

/-- Bits 7..2 of a tether header's first word (10 Table 10-6; log 13). -/
opaque spareHeaderBits : BitVec 6

/-- The unused upper byte of the last word of a tether payload that ends in one byte (10 Table 10-6; log 13). -/
opaque oddPadding : Byte

/-- What the Panel's data-out line carries at each byte of a COMMAND transaction while a reply is owed (10 R153 says it for
nothing owed alone; log 55). -/
opaque owedDataOut : Nat → Byte

/-- The elapsed part of a hold, which the untimed model does not know (07 R121; log 14). -/
opaque holdElapsed : Nat → Nat

end Sys2Proof.Config
end

