-- ==== Sys2Proof/Machine/State.lean ====
section
/-! DEFINITION. The state of the E420: its ten blocks (00 Table 1.2.1), whether it is powered, the queue of waiting arrivals
and what it emitted at the last one. Plain data. -/

namespace Sys2Proof.Machine

/-- The reasons the part could stop with a fault: none. The manual describes no condition that stops the part; what it
cannot do it answers with a refusal reply, a failure record or a change of store mode, all of which are next states. -/
inductive Fault where
deriving DecidableEq, Repr

/-- The reasons for which the model gives no meaning. -/
inductive Refusal where
  /-- Raised by the dispatch for a command that has no meaning yet; no arm raises it. Safe: nothing can be proved of the
  command. -/
  | notModelled (mnemonic : String)
deriving DecidableEq, Repr

/-- The whole part. `powered` is clear while power is off or RESET is held asserted (00 sections 1.6.6 and 1.9).
`pending` is the queue of arrivals, first in first out. `emitted` is what the part put on its links and on the Panel's
data-out line at the last arrival (the model's own field, log 6). `freeCount` picks the next free value (the model's
own field, log 14). -/
structure State where
  siu       : Siu
  tsu       : Tsu
  tcl       : Tcl
  peu       : Peu
  spm       : Spm
  vwc       : Vwc
  dou       : Dou
  flc       : Flc
  lsc       : Lsc
  cpi       : Cpi
  powered   : Bool
  emitted   : List Emission
  freeCount : Nat
  pending   : List Instr
deriving DecidableEq, Repr

/-! ### The values right after the release of RESET -/

/-- The SIU at start-up (01 R2, R9). Of its line count the manual gives no value before a frame start: 0 (DESIGN CHOICE, log 60). -/
def resetSiu : Siu :=
  { intake := .waiting, frameNumber := 0, timer := none, lines := 0 }

/-- The TSU at start-up (01 R11, R12, R15); the frame copy of the threshold: DESIGN CHOICE, log 21. -/
def resetTsu : Tsu :=
  { threshold := Config.factorySettings.edge, thresholdCopy := Config.factorySettings.edge, building := none,
    settled := none }

/-- The TCL at start-up (02 R19, R20, R23, R25). -/
def resetTcl : Tcl :=
  { table := Config.factoryClassifier, copy := none, count := 0, box := none, boxQuorum := none }

/-- The PEU at start-up (03 R34, R35, R37). The line store is empty: the manual says only that it is emptied at each frame start
(03 R38; DESIGN CHOICE, log 46). -/
def resetPeu : Peu :=
  { profiles := Config.factoryProfiles, copy := none, source := none, lineStore := [] }

/-- A slot's holder set without holders. -/
def noHolders : Holders :=
  { intake := false, latest := false, displayLeft := false, displayRight := false, freeze := false, page := false,
    feed := false, exported := false, load := false, pins := [] }

/-- A slot after reset: no holder, no content (04 R48, R49, R63). Of its picture data, which no block can read, the manual gives no
value: nothing is in it (DESIGN CHOICE, log 43). -/
def freeSlot : Slot :=
  { holders := noHolders, content := .nothing, picture := .blank }

/-- The pool after reset (04 R63). -/
def resetSpm : Spm :=
  { slots := List.replicate 8 freeSlot, notices := 0 }

/-- The view's window at start-up: 1x at (1920, 1440) in SINGLE layout on a raster of mode 2 (05 R67, R71 to R73,
08 R133). -/
def resetWindow : Window :=
  { pw := 1920, ph := 1080, baseW := 3840, baseH := 2160, ww := 3840, wh := 2160, x0 := 0, y0 := 360,
    cx := 1920, cy := 1440, sx := 131072, sy := 131072 }

/-- The VWC at start-up (05 Table 5-2). -/
def resetVwc : Vwc :=
  { zt := 256, zc := 256, glide := Config.factorySettings.glide, tx := 1920, ty := 1440, freeze := none,
    layout := .single, page := none, gen := 0, watch := none, window := resetWindow }

/-- The DOU at start-up (06 Table 6-3, 08 R133: both modes are 2 until the hand-over; log 50 on `stale`). -/
def resetDou : Dou :=
  { mode := 2, pendingMode := 2, raster := .stopped, blank := false, left := none, right := none,
    stale := 0 }

/-- The FLC at start-up (07 Table 7-4, R103, R106, R111). -/
def resetFlc : Flc :=
  { agreement := .offering, started := false, restartCount := 0, partner := none, result := none, notes := [],
    latched := [], unsent := [], lastPage := none, pages := [], bridgeToggle := false, expectRate := false, rateLimit := none,
    cropAgreed := false, exportAgreed := false, pageTimer := none, intervalTimer := none, allowanceTimer := none,
    due := false, hold := none, marks := Config.factoryMarks, buffer := [], frame := none, exportFrame := none,
    lastFed := 0 }

/-- The LSC at start-up (08 R133, 09 R137, R143): reading the catalogue area from its first page. What adoption will
bring is not known until then; the model's values are a blank store's (DESIGN CHOICE, log 20). -/
def resetLsc : Lsc :=
  { mode := .starting, lessons := Config.blankLessons, retired := [], nextSerial := 0, saved := Config.factorySettings,
    catSeq := 0, lastBlock := 63, due := false, queue := [], retryLimit := 2,
    activity := .recovering { block := 0, page := 0, bytes := [], best := none }, flash := some (.read 0 0) }

/-- A port at start-up: nothing owed, nothing queued, every enable clear (10 R159, R161). -/
def resetPort : PortState :=
  { owed := none, busy := none, completions := [], overflow := false, enables := 0, flags := 0 }

/-- The CPI at start-up (10 R155, R157, R160, R161; 08 R133). -/
def resetCpi : Cpi :=
  { panel := resetPort, room := resetPort, tether := resetPort, reachRoom := Config.factoryReach,
    reachTether := Config.factoryReach, counters := List.replicate 8 0, halfFlags := 0, halfMasks := 0,
    roomTx := none, tetherTx := none, roomRx := .hunting, lastSide := none }

/-- The part right after the release of RESET (00 section 1.9: start-up begins when RESET is released). -/
def State.reset : State :=
  { siu := resetSiu, tsu := resetTsu, tcl := resetTcl, peu := resetPeu, spm := resetSpm, vwc := resetVwc,
    dou := resetDou, flc := resetFlc, lsc := resetLsc, cpi := resetCpi, powered := true, emitted := [],
    freeCount := 0, pending := [] }

end Sys2Proof.Machine
end

