-- ==== Sys2Proof/Machine/Ops.lean ====
section
/-! DEFINITION. The named operations over the state: replacing one block, emitting on a link, and the slot pool's own
operations on holders (04). -/

namespace Sys2Proof.Machine

/-! ### Replacing one block -/

/-- The state with another SIU. -/
def State.withSiu (s : State) (x : Siu) : State := { s with siu := x }
/-- The state with another TSU. -/
def State.withTsu (s : State) (x : Tsu) : State := { s with tsu := x }
/-- The state with another TCL. -/
def State.withTcl (s : State) (x : Tcl) : State := { s with tcl := x }
/-- The state with another PEU. -/
def State.withPeu (s : State) (x : Peu) : State := { s with peu := x }
/-- The state with another SPM. -/
def State.withSpm (s : State) (x : Spm) : State := { s with spm := x }
/-- The state with another VWC. -/
def State.withVwc (s : State) (x : Vwc) : State := { s with vwc := x }
/-- The state with another DOU. -/
def State.withDou (s : State) (x : Dou) : State := { s with dou := x }
/-- The state with another FLC. -/
def State.withFlc (s : State) (x : Flc) : State := { s with flc := x }
/-- The state with another LSC. -/
def State.withLsc (s : State) (x : Lsc) : State := { s with lsc := x }
/-- The state with another CPI. -/
def State.withCpi (s : State) (x : Cpi) : State := { s with cpi := x }
/-- The state with another power state. -/
def State.withPower (s : State) (x : Bool) : State := { s with powered := x }
/-- The state with another record of what was emitted. -/
def State.withEmitted (s : State) (x : List Emission) : State := { s with emitted := x }
/-- The state with another count of free values used. -/
def State.withFreeCount (s : State) (x : Nat) : State := { s with freeCount := x }
/-- The state with another queue of arrivals. -/
def State.withPending (s : State) (x : List Instr) : State := { s with pending := x }

/-- The number of output frame starts that wait in the queue of arrivals (06 R90; log 50). -/
def State.waitingFrameStarts (s : State) : Nat :=
  s.pending.count .outputFrameStart

/-- A timer started, anew where it runs: the expiries that wait are not of this run (01 R9; 07 R108; log 58). -/
def State.startTimer (s : State) (duration : Nat) (expiry : Instr) : Option Timer :=
  some { duration := duration, late := s.pending.count expiry }

/-- The expiry of a timer: a stopped timer does not expire (log 3), an expiry from before the timer was started anew does not happen
and is no longer waiting, any other has its effect (01 R9; 07 R108; log 58). `put` gives the timer its new value. -/
def State.expires (s : State) (timer : Option Timer) (put : Option Timer → State) (effect : State) : State :=
  match timer with
  | none => s
  | some t => if t.late = 0 then effect else put (some { t with late := t.late - 1 })

/-- Puts one more thing on a link or line at this arrival. -/
def State.emit (s : State) (e : Emission) : State :=
  s.withEmitted (s.emitted ++ [e])

/-- The value limited to lo..hi (00 section 1.6.2). -/
def limit (lo hi x : Nat) : Nat :=
  max lo (min hi x)

/-- An integer limited to 0..hi (00 section 1.6.2). -/
def limitInt (hi : Nat) (x : Int) : Nat :=
  min hi x.toNat

/-! ### Holder sets (04 R47, R48) -/

/-- Whether a holder set holds the kind. -/
def Holders.has (h : Holders) : HolderKind → Bool
  | .intake => h.intake
  | .latest => h.latest
  | .displayLeft => h.displayLeft
  | .displayRight => h.displayRight
  | .freeze => h.freeze
  | .page => h.page
  | .feed => h.feed
  | .exported => h.exported
  | .load => h.load

/-- The holder set with the kind placed (true) or taken out (false). -/
def Holders.put (h : Holders) (k : HolderKind) (b : Bool) : Holders :=
  match k with
  | .intake => { h with intake := b }
  | .latest => { h with latest := b }
  | .displayLeft => { h with displayLeft := b }
  | .displayRight => { h with displayRight := b }
  | .freeze => { h with freeze := b }
  | .page => { h with page := b }
  | .feed => { h with feed := b }
  | .exported => { h with exported := b }
  | .load => { h with load := b }

/-- Whether a holder set is empty. -/
def Holders.isEmpty (h : Holders) : Bool :=
  h == noHolders

/-- A slot's state, from its holder set (04 R48). -/
def Slot.state (s : Slot) : SlotState :=
  if s.holders.isEmpty then .free
  else if s.holders.intake then .filling
  else if s.holders.load then .loading
  else .held

/-- The slot with every holder and its content gone, and so FREE; the picture data is not cleared (04 R50, R63). -/
def Slot.freed (s : Slot) : Slot :=
  { s with holders := noHolders, content := .nothing }

/-! ### The pool (04) -/

/-- The record of slot n. -/
def Spm.slot (p : Spm) (n : Nat) : Slot :=
  p.slots.getD n freeSlot

/-- The FREE count (04 R47). -/
def Spm.freeCount (p : Spm) : Nat :=
  p.slots.countP (·.holders.isEmpty)

/-- The lowest-numbered FREE slot (04 R51, R59). -/
def Spm.lowestFree (p : Spm) : Option Nat :=
  p.slots.findIdx? (·.holders.isEmpty)

/-- The slot that carries a holder of the kind; `find .latest` is the LATEST designation (04 R52). -/
def Spm.find (p : Spm) (k : HolderKind) : Option Nat :=
  p.slots.findIdx? (·.holders.has k)

/-- The number of capture pins in the pool (04 R56). -/
def Spm.pinCount (p : Spm) : Nat :=
  (p.slots.map (·.holders.pins.length)).sum

/-- The frame number of the LATEST slot's content (04 R52). -/
def Spm.latestFrame (p : Spm) : Option Nat :=
  match p.find .latest with
  | none => none
  | some n =>
    match (p.slot n).content with
    | .liveFrame f => some f
    | _ => none

/-- Takes a FREE slot for INTAKE or LOAD with its content and an empty picture of that kind (04 R49, R51, R59). -/
def Spm.take (p : Spm) (n : Nat) (k : HolderKind) (content : SlotContent) (picture : Picture) : Spm :=
  { p with slots := p.slots.modify n fun _ => { holders := noHolders.put k true, content := content, picture := picture } }

/-- Places a holder on a slot that keeps its other holders (04 R50). -/
def Spm.place (p : Spm) (n : Nat) (k : HolderKind) : Spm :=
  { p with slots := p.slots.modify n fun s => { s with holders := s.holders.put k true } }

/-- Gives slot n what a removal leaves of its holder set. An empty set makes it FREE with no content and gives a
slot-freed notice (04 R50); nothing clears its picture. -/
def Spm.leave (p : Spm) (n : Nat) (h : Holders) : Spm :=
  if h.isEmpty then { slots := p.slots.modify n Slot.freed, notices := p.notices + 1 }
  else { p with slots := p.slots.modify n fun s => { s with holders := h } }

/-- Removes the kind from slot n, where it is (04 R50). -/
def Spm.remove (p : Spm) (n : Nat) (k : HolderKind) : Spm :=
  if (p.slot n).holders.has k then p.leave n ((p.slot n).holders.put k false) else p

/-- Removes the kind from the slot that carries it, if any does. -/
def Spm.removeKind (p : Spm) (k : HolderKind) : Spm :=
  match p.find k with
  | none => p
  | some n => p.remove n k

/-- One holder takes the place of another on slot n; the slot does not pass through FREE (04 R50). -/
def Spm.replace (p : Spm) (n : Nat) (old new : HolderKind) : Spm :=
  { p with slots := p.slots.modify n fun s => { s with holders := (s.holders.put old false).put new true } }

/-- Removes the kind from the slot `old`, unless that is where it now belongs. -/
def Spm.removeOld (p : Spm) (old : Option Nat) (target : Option Nat) (k : HolderKind) : Spm :=
  match old with
  | none => p
  | some o => if target = some o then p else p.remove o k

/-- Moves the kind to the target slot, or to no slot, at one arrival: placed first, then removed from the slot that
carried it, unless that is the target (04 R50, R53, R54). -/
def Spm.move (p : Spm) (k : HolderKind) (target : Option Nat) : Spm :=
  match target with
  | none => p.removeKind k
  | some n => (p.place n k).removeOld (p.find k) (some n) k

/-- INTAKE or LOAD on slot n becomes the kind, which leaves the slot that carried it before (04 R52, R55). -/
def Spm.succeed (p : Spm) (n : Nat) (old new : HolderKind) : Spm :=
  (p.replace n old new).removeOld (p.find new) (some n) new

/-- Places a capture pin on slot n (04 R56). -/
def Spm.pin (p : Spm) (n : Nat) (t : PinTag) : Spm :=
  { p with slots := p.slots.modify n fun s => { s with holders := { s.holders with pins := s.holders.pins ++ [t] } } }

/-- Removes one capture pin with the tag from slot n, where there is one (04 R47, R56). -/
def Spm.unpin (p : Spm) (n : Nat) (t : PinTag) : Spm :=
  if (p.slot n).holders.pins.contains t then
    p.leave n { (p.slot n).holders with pins := (p.slot n).holders.pins.erase t }
  else p

/-- Writes to the picture of slot n (04 R48: while the slot is FILLING or LOADING). -/
def Spm.draw (p : Spm) (n : Nat) (f : Picture → Picture) : Spm :=
  { p with slots := p.slots.modify n fun s => { s with picture := f s.picture } }

end Sys2Proof.Machine
end

