-- ==== Sys2Proof/Machine/Flags.lean ====
section
/-! DEFINITION. Events and pending notice flags (10 R159), counters and half-range flags (10 R160), completion queues and
overflow flags (10 R158). -/

namespace Sys2Proof.Machine

/-- The events of 10 Table 10-2. -/
inductive Event where
  | intakeBroken | noSignal | signalBack | pageBoxChanged | viewChanged | outputRestarted | feedUp | feedDown | feedFailed
  | feedRemoteRestart | noCommonFormat | storeReady | storeBlank | pageDroppedAtStart | placeRetired | storeReadOnly
  | counterHalf
deriving DecidableEq, Repr

/-- Event numbers (10 Table 10-2). -/
def Event.number : Event → Nat
  | .intakeBroken => 0
  | .noSignal => 1
  | .signalBack => 2
  | .pageBoxChanged => 3
  | .viewChanged => 4
  | .outputRestarted => 5
  | .feedUp => 6
  | .feedDown => 7
  | .feedFailed => 8
  | .feedRemoteRestart => 9
  | .noCommonFormat => 10
  | .storeReady => 11
  | .storeBlank => 12
  | .pageDroppedAtStart => 13
  | .placeRetired => 14
  | .storeReadOnly => 15
  | .counterHalf => 16

/-- The set with one event in it. -/
def Event.bit (e : Event) : Quad :=
  1#32 <<< e.number

/-- The port's own state. -/
def Cpi.port (c : Cpi) : Port → PortState
  | .panel => c.panel
  | .room => c.room
  | .tether => c.tether

/-- The CPI with another state of one port. -/
def Cpi.setPort (c : Cpi) (p : Port) (x : PortState) : Cpi :=
  match p with
  | .panel => { c with panel := x }
  | .room => { c with room := x }
  | .tether => { c with tether := x }

/-- Sets the event's pending flag where the port enables it (10 R159). -/
def PortState.raised (p : PortState) (e : Event) : PortState :=
  if p.enables.getLsbD e.number then { p with flags := p.flags ||| e.bit } else p

/-- Raises an event: its pending flag is set on every port that enables it (10 R159). -/
def Cpi.raise (c : Cpi) (e : Event) : Cpi :=
  { c with panel := c.panel.raised e, room := c.room.raised e, tether := c.tether.raised e }

/-- Raises an event (10 R159). -/
def State.raise (s : State) (e : Event) : State :=
  s.withCpi (s.cpi.raise e)

/-- Replaces a port's enables; clearing an enable clears that event's pending flag (10 R159). -/
def PortState.enable (p : PortState) (e : Quad) : PortState :=
  { p with enables := e, flags := p.flags &&& e }

/-- The counters of 10 R160. -/
inductive Counter where
  | framesIn | framesSkipped | framesBroken | feedFramesSent | feedFramesCut | feedFramesPassedOver | storeRetries
  | catalogueWrites
deriving DecidableEq, Repr

/-- Counter numbers (10 R160). -/
def Counter.number : Counter → Nat
  | .framesIn => 0
  | .framesSkipped => 1
  | .framesBroken => 2
  | .feedFramesSent => 3
  | .feedFramesCut => 4
  | .feedFramesPassedOver => 5
  | .storeRetries => 6
  | .catalogueWrites => 7

/-- The value from which an increment sets the half-range flag (10 R160). -/
def halfRange : Quad := 2147483647

/-- What a counter holds. -/
def Cpi.counter (c : Cpi) (k : Counter) : Quad :=
  c.counters.getD k.number 0

/-- Increments a counter: it wraps to 0; passing half range sets its half-range flag and raises COUNTER_HALF unless the
counter's half mask is set (10 R160). -/
def Cpi.count (c : Cpi) (k : Counter) : Cpi :=
  let counted := { c with counters := c.counters.set k.number (c.counter k + 1) }
  if c.counter k = halfRange then
    let flagged := { counted with halfFlags := c.halfFlags ||| (1#8 <<< k.number) }
    if c.halfMasks.getLsbD k.number then flagged else flagged.raise .counterHalf
  else counted

/-- Increments a counter (10 R160). -/
def State.count (s : State) (k : Counter) : State :=
  s.withCpi (s.cpi.count k)

/-- Gives a completion record to a port's queue of at most 8; a record too many is discarded and sets the overflow flag
(10 R158). -/
def PortState.give (p : PortState) (r : Completion) : PortState :=
  if p.completions.length < 8 then { p with completions := p.completions ++ [r] } else { p with overflow := true }

/-- Gives a completion record to the origin port (10 R158). -/
def State.give (s : State) (p : Port) (r : Completion) : State :=
  s.withCpi (s.cpi.setPort p ((s.cpi.port p).give r))

/-- The Panel notice line: asserted while the Panel completion queue is not empty or a Panel notice flag is pending
(10 R158). -/
def Cpi.noticeLine (c : Cpi) : Bool :=
  !c.panel.completions.isEmpty || c.panel.flags != 0

end Sys2Proof.Machine
end

