-- ==== Sys2Proof/Machine/Operands.lean ====
section
/-! DEFINITION. The arguments of commands: their layouts (10 Table 10-7), their encodings (10 Table 10-5) and their clamping.
A layout function answers none exactly when the argument length is one that Table 10-7 does not allow, or a count in the
arguments lies outside its range (BAD_LENGTH, 10 R156). A clamping function answers the value used and whether clamping
took place. -/

namespace Sys2Proof.Machine

/-! ### Layouts (10 Table 10-7) -/

/-- No arguments. -/
def noArgs : List Byte → Option Unit
  | [] => some ()
  | _ => none

/-- One byte. -/
def oneByte : List Byte → Option Byte
  | [a] => some a
  | _ => none

/-- Two bytes. -/
def twoBytes : List Byte → Option (Byte × Byte)
  | [a, b] => some (a, b)
  | _ => none

/-- Three bytes. -/
def threeBytes : List Byte → Option (Byte × Byte × Byte)
  | [a, b, c] => some (a, b, c)
  | _ => none

/-- One unsigned two-byte field. -/
def oneHalf : List Byte → Option Nat
  | [a, b] => some (half a b)
  | _ => none

/-- Two unsigned two-byte fields (CENTRE). -/
def twoHalves : List Byte → Option (Nat × Nat)
  | [a, b, c, d] => some (half a b, half c d)
  | _ => none

/-- Two signed two-byte fields (PAN). -/
def twoSigned : List Byte → Option (Int × Int)
  | [a, b, c, d] => some (signedHalf a b, signedHalf c d)
  | _ => none

/-- Four bytes as a set of 32 events (SET_NOTICE_ENABLES). -/
def oneQuad : List Byte → Option Quad
  | [a, b, c, d] => some (quadWord a b c d)
  | _ => none

/-- ZOOM: target, completion wanted, and a rate when the length includes it. -/
def zoomArgs : List Byte → Option (Nat × Byte × Option Nat)
  | [a, b, w] => some (half a b, w, none)
  | [a, b, w, c, d] => some (half a b, w, some (half c d))
  | _ => none

/-- ZOOM_STEP: signed delta and completion wanted. -/
def stepArgs : List Byte → Option (Int × Byte)
  | [a, b, w] => some (signedHalf a b, w)
  | _ => none

/-- READ_CLASSIFIER: first index and a count within 1..8 (02 R31). -/
def rangeArgs : List Byte → Option (Byte × Nat)
  | [a, n] => if 1 ≤ n.toNat ∧ n.toNat ≤ 8 then some (a, n.toNat) else none
  | _ => none

/-- NAME_LESSON: a lesson and all the remaining bytes as the name. -/
def nameArgs : List Byte → Option (Byte × List Byte)
  | l :: name => some (l, name)
  | [] => none

/-- SET_REACH: port, window index, enabled, base, mask, rights. -/
def reachArgs : List Byte → Option (Byte × Byte × Byte × Byte × Byte × Byte)
  | [p, i, e, b, m, r] => some (p, i, e, b, m, r)
  | _ => none

/-! ### Clamping and encodings -/

/-- A value limited from above. -/
def clampTop (hi x : Nat) : Nat × Bool :=
  (min hi x, decide (hi < x))

/-- A value limited on both sides. -/
def clampBetween (lo hi x : Nat) : Nat × Bool :=
  (limit lo hi x, decide (x < lo) || decide (hi < x))

/-- The completion-wanted argument of a view command: 0 or 1 (10 Table 10-5), a value above 1 clamped to 1 (05 R70, 00 section
1.6.2). -/
def wantedArg (b : Byte) : Bool × Bool :=
  (decide ((clampTop 1 b.toNat).1 = 1), (clampTop 1 b.toNat).2)

/-- A flag argument: 0 clear, 1 set (10 Table 10-5). The rules of the commands that carry one do not name it among the arguments
that they clamp: what other encodings give are free values (log 10). -/
def flagArg (b : Byte) : Bool × Bool :=
  if b = 0 then (false, false)
  else if b = 1 then (true, false)
  else (Config.unstatedFlag b, Config.unstatedFlagClamped b)

/-- A match kind; an encoding that names none becomes MASK (02 R27). -/
def matchArg (b : Byte) : MatchKind × Bool :=
  if b = 0 then (.range, false)
  else if b = 1 then (.pair, false)
  else (.mask, b != 2)

/-- An action; an encoding that names none becomes PASS (02 R27, R30). -/
def actionArg (b : Byte) : Action × Bool :=
  if b = 0 then (.p0, false)
  else if b = 1 then (.p1, false)
  else if b = 2 then (.p2, false)
  else if b = 3 then (.p3, false)
  else (.pass, b != 4)

/-- A layout; an encoding that names neither becomes SINGLE (05 R84). -/
def layoutArg (b : Byte) : Layout × Bool :=
  if b = 1 then (.split, false) else (.single, b != 0)

/-- A blank state; an encoding that names neither becomes off (06 R98). -/
def blankArg (b : Byte) : Bool × Bool :=
  if b = 1 then (true, false) else (false, b != 0)

/-- The crop kinds that a STORE can ask for (09 Table 9-1). -/
inductive CropAsked where
  | view | page | full
deriving DecidableEq, Repr

/-- A crop kind asked; an encoding that names none becomes FULL (09 R139). -/
def cropArg (b : Byte) : CropAsked × Bool :=
  if b = 0 then (.view, false)
  else if b = 1 then (.page, false)
  else (.full, b != 2)

/-- Whether a port argument of SET_REACH names the Room port; an encoding that names neither Room nor Tether becomes
Tether (10 R157). -/
def reachPortArg (b : Byte) : Bool × Bool :=
  if b = 1 then (true, false) else (false, b != 2)

/-- An entry of the classifier table, 8 bytes (10 R162), clamped as 02 R27 states. -/
def entryArg (en kind a0 a1 b0 b1 action text : Byte) : ClassifierEntry × Bool :=
  ({ enabled := (flagArg en).1, kind := (matchArg kind).1, a := (clampTop 4095 (half a0 a1)).1,
     b := (clampTop 4095 (half b0 b1)).1, action := (actionArg action).1, text := (flagArg text).1 },
   (flagArg en).2 || (matchArg kind).2 || (clampTop 4095 (half a0 a1)).2 || (clampTop 4095 (half b0 b1)).2 ||
     (actionArg action).2 || (flagArg text).2)

/-- SET_CLASSIFIER_ENTRY: index and entry (10 Table 10-7). -/
def indexedEntryArgs : List Byte → Option (Byte × (ClassifierEntry × Bool))
  | [i, en, k, a0, a1, b0, b1, ac, t] => some (i, entryArg en k a0 a1 b0 b1 ac t)
  | _ => none

/-- A list of whole entries; none when bytes are left over. -/
def entryList : List Byte → Option (List (ClassifierEntry × Bool))
  | [] => some []
  | en :: k :: a0 :: a1 :: b0 :: b1 :: ac :: t :: rest =>
    match entryList rest with
    | some l => some (entryArg en k a0 a1 b0 b1 ac t :: l)
    | none => none
  | _ => none

/-- SET_CLASSIFIER_ENTRIES: first index and 1..8 entries (02 R28). -/
def entriesArgs : List Byte → Option (Byte × List (ClassifierEntry × Bool))
  | [] => none
  | i :: rest =>
    match entryList rest with
    | some l => if 1 ≤ l.length ∧ l.length ≤ 8 then some (i, l) else none
    | none => none

/-- A profile, 5 bytes (10 R162), clamped as 03 R44 states. -/
def profileArg (g c s l0 l1 : Byte) : Profile × Bool :=
  ({ g := (clampTop 63 g.toNat).1, c := (clampTop 63 c.toNat).1, s := (clampTop 16 s.toNat).1,
     l := (clampTop 255 (half l0 l1)).1 },
   (clampTop 63 g.toNat).2 || (clampTop 63 c.toNat).2 || (clampTop 16 s.toNat).2 || (clampTop 255 (half l0 l1)).2)

/-- SET_PROFILE: index and profile. -/
def indexedProfileArgs : List Byte → Option (Byte × (Profile × Bool))
  | [i, g, c, s, l0, l1] => some (i, profileArg g c s l0 l1)
  | _ => none

/-- A list of whole profiles; none when bytes are left over. -/
def profileList : List Byte → Option (List (Profile × Bool))
  | [] => some []
  | g :: c :: s :: l0 :: l1 :: rest =>
    match profileList rest with
    | some l => some (profileArg g c s l0 l1 :: l)
    | none => none
  | _ => none

/-- SET_PROFILES: exactly four profiles (03 R45). -/
def profilesArgs (args : List Byte) : Option (List (Profile × Bool)) :=
  match profileList args with
  | some l => if l.length = 4 then some l else none
  | none => none

/-- A note of SET_FEED_NOTES: a code outside 1..4 becomes NULL, and the rate of a RATE_LIMIT note is limited to 1..60
(07 R103). The rate byte of another note is not used (10 Table 10-7). -/
def noteArg (code rate : Byte) : Note × Bool :=
  if code = 2 then (.rateLimit (clampBetween 1 60 rate.toNat).1, (clampBetween 1 60 rate.toNat).2)
  else if code = 3 then (.cropWanted, false)
  else if code = 4 then (.exportAble, false)
  else (.null, code != 1)

/-- A list of whole notes; none when a byte is left over. -/
def noteList : List Byte → Option (List (Note × Bool))
  | [] => some []
  | c :: r :: rest =>
    match noteList rest with
    | some l => some (noteArg c r :: l)
    | none => none
  | _ => none

/-- SET_FEED_NOTES: 0..4 notes (07 R103). -/
def notesArgs (args : List Byte) : Option (List (Note × Bool)) :=
  match noteList args with
  | some l => if l.length ≤ 4 then some l else none
  | none => none

/-- SET_FEED_MARKS: the high mark is limited first, then the low mark by it, then the start mark (07 R113). -/
def marksArg (high low start : Byte) : FeedMarks × Bool :=
  let h := clampBetween 2 64 high.toNat
  let l := clampTop (h.1 - 1) low.toNat
  let st := clampBetween 1 h.1 start.toNat
  ({ high := h.1, low := l.1, start := st.1 }, h.2 || l.2 || st.2)

/-- A NAME_LESSON name: the first 24 bytes, a byte outside 32..126 replaced by 32 (09 R147). -/
def nameArg (name : List Byte) : List Byte × Bool :=
  let kept := name.take 24
  (kept.map fun b => if 32 ≤ b.toNat ∧ b.toNat ≤ 126 then b else 32,
   decide (24 < name.length) || kept.any fun b => !(decide (32 ≤ b.toNat) && decide (b.toNat ≤ 126)))

/-- A reach window's fields, limited as 10 R157 states; bits 3..7 of the rights name no right (log 11). -/
def reachWindowArg (en base mask rights : Byte) : ReachWindow × Bool :=
  ({ enabled := (flagArg en).1, base := (clampTop 31 base.toNat).1, mask := (clampTop 31 mask.toNat).1,
     showRight := rights.getLsbD 0, saveRight := rights.getLsbD 1, sendRight := rights.getLsbD 2 },
   (flagArg en).2 || (clampTop 31 base.toNat).2 || (clampTop 31 mask.toNat).2 ||
     (rights.toNat ≥ 8 && Config.unstatedRightsClamped rights))

end Sys2Proof.Machine
end

