-- ==== Sys2Proof/Machine/Ports.lean ====
section
/-! DEFINITION. The command port interface (10): body layouts and wrappings (section 10.6), the Room receiver (R154), the
transmitters and the tether link's turns (R155, R158), and what commands are answered (R156). -/

namespace Sys2Proof.Machine

/-! ### Codes (10 Tables 10-1, 10-4) -/

/-- Reason codes (10 Table 10-1). -/
def Reason.code : Reason → Byte
  | .noReason => 0
  | .unknownCommand => 1
  | .badLength => 2
  | .busy => 3
  | .stale => 4
  | .outOfReach => 5
  | .notPanel => 6
  | .queueFull => 7
  | .captureBusy => 8
  | .noFrame => 9
  | .notOpen => 10
  | .noSuchLesson => 11
  | .noSuchPage => 12
  | .noSuchJob => 13
  | .lessonKept => 14
  | .exportLocked => 15
  | .storeReadOnly => 16
  | .feedNotReady => 17
  | .storeFull => 18
  | .lessonFull => 19
  | .lessonClosed => 20
  | .storeMedia => 21
  | .pageDamaged => 22
  | .feedCut => 23
  | .feedLost => 24

/-- Reply status codes (10 Table 10-4). -/
def Status.code : Status → Byte
  | .done => 0
  | .accepted => 1
  | .refused => 2

/-- Completion outcome codes (10 Table 10-4). -/
def Ending.code : Ending → Byte
  | .done => 0
  | .doneDespiteWithdraw => 1
  | .withdrawn => 2
  | .superseded => 3
  | .failed => 4

/-! ### Bodies (10 Table 10-4) -/

/-- The bytes of result data: none for a reply without any; else not stated (log 9). -/
def ResultData.bytes : ResultData → List Byte
  | .nothing => []
  | d => Config.resultBytes d

/-- A reply's body. -/
def Reply.bytes (r : Reply) : List Byte :=
  [2, r.kind, r.marker, r.status.code, r.reason.code, Config.spareReplyFlags ++ BitVec.ofBool r.clamped] ++
    halfBytes r.gen.toNat ++ r.data.bytes

/-- A completion record's body; `lost`: records were lost before this one. -/
def Completion.bytes (r : Completion) (lost : Bool) : List Byte :=
  [3, r.marker, r.kind, r.ending.code, r.reason.code,
    Config.spareRecordFlags ++ BitVec.ofBool lost ++ BitVec.ofBool r.serial.isSome ++ BitVec.ofBool r.lesson.isSome,
    (r.lesson.map (BitVec.ofNat 8)).getD Config.absentLesson] ++
    halfBytes (r.serial.getD Config.absentSerial).toNat ++ frameBytes r.frame

/-- A notice's body. -/
def noticeBytes (flags : Quad) : List Byte :=
  4 :: quadBytes flags.toNat

/-- A command's body (10 Table 10-4). -/
def commandBody (kind : Byte) (h : CmdHeader) (args : List Byte) : List Byte :=
  [1, kind, h.marker, h.flags] ++ halfBytes h.expected.toNat ++ args

/-- The command kind, header and arguments of a body from a port; none where the body is shorter than the six-byte header or its type
byte is not COMMAND (10 R155, Table 10-4). -/
def readBody (p : Port) : List Byte → Option (Byte × CmdHeader × List Byte)
  | type :: kind :: marker :: flags :: e0 :: e1 :: args =>
    if type = 1 then some (kind, { port := p, marker := marker, flags := flags, expected := halfWord e0 e1 }, args) else none
  | _ => none

/-! ### Wrappings (10 Table 10-6) -/

/-- The sum of bytes modulo 256. -/
def byteSum (l : List Byte) : Byte :=
  l.foldl (· + ·) 0

/-- The Room port's wrapping: start byte, length, body, and the checksum that makes the byte sum 0 (10 R154). -/
def roomWrap (body : List Byte) : List Byte :=
  let covered := halfBytes body.length ++ body
  0xC3 :: covered ++ [-byteSum covered]

/-- A packet of the tether link: header word 0 with the kind, the odd-length bit and the CUT bit, header word 1 with the
payload length in words, then the payload; lower byte of each word first (10 Table 10-6). -/
def tetherWrap (kind : Byte) (cut : Bool) (payload : List Byte) : List Byte :=
  let odd := decide (payload.length % 2 = 1)
  [Config.spareHeaderBits ++ BitVec.ofBool odd ++ BitVec.ofBool cut, kind] ++ halfBytes ((payload.length + 1) / 2) ++
    payload ++ (if odd then [Config.oddPadding] else [])

/-- A packet as the tether link's receiver reads it: kind, CUT bit and payload. -/
structure TetherPacket where
  kind    : Byte
  cut     : Bool
  payload : List Byte
deriving DecidableEq, Repr

/-- The packet that bytes from the bridge are: header word 0 has the kind in its upper byte, in its lower byte the CUT bit and the bit
that says that the payload's last word holds one byte, its lower one; header word 1 has the payload's length in words (10 R155,
Table 10-6). None where the bytes are not one whole packet; the other bits of word 0 are not looked at (log 63). -/
def readPacket : List Byte → Option TetherPacket
  | flags :: kind :: lo :: hi :: words =>
    if words.length = 2 * half lo hi then
      some { kind := kind, cut := flags.getLsbD 0, payload := if flags.getLsbD 1 then words.dropLast else words }
    else none
  | _ => none

/-- Who takes a packet from the bridge: COMMAND is the CPI's, the agreement, hold and frame kinds are the feed link controller's, any
other kind names neither (10 R155, Table 10-6). -/
def packetOwner (kind : Byte) : Option LinkSide :=
  if kind = 1 then some .cpi
  else if [8, 9, 10, 12, 13, 14].contains kind then some .flc
  else none

/-- The tether packet kind of what the CPI sends (10 Table 10-6). -/
def Sending.packetKind : Sending → Byte
  | .reply => 2
  | .completion => 3
  | .notice => 4

/-- The state byte and reply that a READ transaction clocks out on the Panel port (10 R153). -/
def PortState.dataOut (p : PortState) : List Byte :=
  match p.owed with
  | none => [0]
  | some r => 1 :: halfBytes r.bytes.length ++ r.bytes

/-- What the part drives on the Panel's data-out line at the `n` bytes of a COMMAND transaction, the kind byte among them: the nothing-owed
value while nothing is owed; the manual states nothing for the other case (10 R153; log 55). -/
def Cpi.panelDataOut (c : Cpi) (n : Nat) : List Byte :=
  match c.panel.owed with
  | none => List.replicate n 0
  | some _ => (List.range n).map Config.owedDataOut

/-- What a transaction of the Panel port carries (10 R153). -/
inductive PanelTransaction where
  | command (body : List Byte)
  | read (clocked : Nat)
  | ignored
deriving DecidableEq, Repr

/-- The Panel port's wrapping of a command body: the transaction kind COMMAND, then the body (10 R153, Table 10-6). -/
def panelWrap (body : List Byte) : List Byte :=
  0x01 :: body

/-- A READ transaction of the Panel port that clocks out `clocked` bytes: the transaction kind READ, then one byte for each of them,
whose value is not looked at (10 R153, Table 10-6). -/
def panelRead (clocked : Nat) : List Byte :=
  0x02 :: List.replicate clocked 0

/-- The transaction that the controller's bytes make: its first byte is the transaction kind, 0x01 COMMAND or 0x02 READ; one with any
other first byte is ignored (10 R153, Table 10-6). -/
def readTransaction : List Byte → PanelTransaction
  | [] => .ignored
  | kind :: rest =>
    if kind = 0x01 then .command rest
    else if kind = 0x02 then .read rest.length
    else .ignored

/-! ### The Room receiver (10 R154) -/

/-- Feeds a receiver that has dropped a frame the bytes it has to hunt in: it starts at the first start byte. -/
def huntIn : List Byte → RoomReceiver
  | [] => .hunting
  | b :: rest => if b = 0xC3 then .taking rest else huntIn rest

/-- Whether a frame's bytes after its start byte make the byte sum of length, body and checksum 0 (10 R154). -/
def checksumHolds (bytes : List Byte) : Bool :=
  byteSum bytes == 0

/-- What the receiver makes of the bytes after a start byte, once one more has come, with the body that it takes, if it takes one (10
R154). A length outside 1..2048 drops the frame when its second byte is taken, and the hunt resumes at the byte after the start
byte. A whole frame is taken where its checksum holds and dropped otherwise; the receiver then hunts from the byte after the checksum
byte. -/
def judgeFrame (bytes : List Byte) : RoomReceiver × List (List Byte) :=
  match bytes with
  | lo :: hi :: body =>
    if half lo hi = 0 ∨ 2048 < half lo hi then (if body.isEmpty then huntIn bytes else .hunting, [])
    else if half lo hi < body.length then (.hunting, if checksumHolds bytes then [body.dropLast] else [])
    else (.taking bytes, [])
  | _ => (.taking bytes, [])

/-- One byte from the Room line, with the body that it completes, if it completes one (10 R154). -/
def RoomReceiver.take (r : RoomReceiver) (b : Byte) : RoomReceiver × List (List Byte) :=
  match r with
  | .hunting => (if b = 0xC3 then .taking [] else .hunting, [])
  | .taking bytes => judgeFrame (bytes ++ [b])

/-- Bytes from the Room line, with the bodies that the receiver takes from them, in order (10 R154). -/
def RoomReceiver.takeAll (r : RoomReceiver) : List Byte → RoomReceiver × List (List Byte)
  | [] => (r, [])
  | b :: rest => (((r.take b).1.takeAll rest).1, (r.take b).2 ++ ((r.take b).1.takeAll rest).2)

/-! ### Transmitters (10 R158) -/

/-- What a free transmitter chooses: the owed reply, otherwise the oldest completion record, otherwise a notice when any
flag is pending (10 R158). -/
def PortState.choice (p : PortState) : Option Sending :=
  if p.owed.isSome then some .reply
  else if !p.completions.isEmpty then some .completion
  else if p.flags != 0 then some .notice
  else none

/-- The body of what is chosen. -/
def PortState.body (p : PortState) : Sending → List Byte
  | .reply => (p.owed.map Reply.bytes).getD []
  | .completion => (p.completions.head?.map fun r => r.bytes p.overflow).getD []
  | .notice => noticeBytes p.flags

/-- What the beginning of a sending changes: a completion frame carries the overflow flag, which is then cleared (log
22); a notice frame carries the pending flags, which are cleared at that arrival (10 R158, R159). -/
def PortState.begun (p : PortState) : Sending → PortState
  | .reply => p
  | .completion => { p with overflow := false }
  | .notice => { p with flags := 0 }

/-- The owed reply leaves the port, and a waiting BUSY refusal becomes the owed reply (10 R156). -/
def PortState.replyLeaves (p : PortState) : PortState :=
  { p with owed := p.busy, busy := none }

/-- What the end of a sending changes (10 R156, R158). -/
def PortState.ended (p : PortState) : Sending → PortState
  | .reply => p.replyLeaves
  | .completion => { p with completions := p.completions.tail }
  | .notice => p

/-- Starts the Room transmitter where it is free and has something to send (10 R158). -/
def State.startRoom (s : State) : State :=
  match s.cpi.roomTx, s.cpi.room.choice with
  | none, some k =>
    (s.withCpi { s.cpi with room := s.cpi.room.begun k, roomTx := some k }).emit (.roomFrame (roomWrap (s.cpi.room.body k)))
  | _, _ => s

/-- Whether the feed link controller has a line ready to send: sending has begun, the buffer holds a line, no hold is in
force (07 R114). -/
def Flc.lineReady (f : Flc) : Bool :=
  match f.frame with
  | none => false
  | some fr => fr.sending && !fr.cut && !f.buffer.isEmpty && f.hold.isNone

/-- Whether a FRAME_END packet with CUT waits and no hold keeps it (07 R116). -/
def Flc.cutReady (f : Flc) : Bool :=
  match f.frame with
  | none => false
  | some fr => fr.cut && f.hold.isNone

/-- Whether the feed link controller has a packet ready to send: an agreement page, a FRAME_END with CUT, or a line (10 R155). -/
def Flc.ready (f : Flc) : Bool :=
  !f.pages.isEmpty || f.cutReady || f.lineReady

/-- Whether the tether link takes a packet of the feed link controller now: no command-channel packet is being sent, and the CPI has
none ready or sent the last one (10 R155; log 23). -/
def Cpi.linkTakesFeed (c : Cpi) : Bool :=
  c.tetherTx.isNone && (c.tether.choice.isNone || c.lastSide == some .cpi)

/-- Starts the next command-channel packet on the tether link, unless the feed link controller has a packet ready and it is
its turn (10 R155; log 23). -/
def State.startTether (s : State) : State :=
  match s.cpi.tetherTx, s.cpi.tether.choice with
  | none, some k =>
    if s.flc.ready && s.cpi.lastSide == some .cpi then s
    else
      (s.withCpi { s.cpi with tether := s.cpi.tether.begun k, tetherTx := some k, lastSide := some .cpi }).emit
        (.tetherCommand (tetherWrap k.packetKind false (s.cpi.tether.body k)))
  | _, _ => s

/-- What follows every arrival: free transmitters with something to send begin (10 R155, R158). -/
def State.transmit (s : State) : State :=
  s.startRoom.startTether

/-- The tether packet kind of a packet of the feed link controller (10 Table 10-6). -/
def FeedPacket.kind : FeedPacket → Byte
  | .page (.base _) => 8
  | .page (.note _) => 9
  | .frameStart _ _ _ => 12
  | .feedLine _ => 13
  | .frameEnd _ => 14

/-- The CUT bit of the header, which FRAME_END uses (10 Table 10-6). -/
def FeedPacket.cut : FeedPacket → Bool
  | .page _ => false
  | .frameStart _ _ _ => false
  | .feedLine _ => false
  | .frameEnd cut => cut

/-- The payload of a packet of the feed link controller: not stated (log 9). -/
def FeedPacket.payload : FeedPacket → List Byte
  | .page (.base o) => Config.offer.bytes o
  | .page (.note p) => Config.note.bytes p
  | .frameStart k w h => Config.frameStartPayload k w h
  | .feedLine l => Config.linePayload l
  | .frameEnd cut => Config.frameEndPayload cut

/-- The bytes of a packet of the feed link controller on the link (10 Table 10-6). -/
def FeedPacket.bytes (p : FeedPacket) : List Byte :=
  tetherWrap p.kind p.cut p.payload

/-- The feed link controller puts a packet of its own on the tether link (10 R155). -/
def State.sendPacket (s : State) (p : FeedPacket) : State :=
  (s.withCpi { s.cpi with lastSide := some .flc }).emit (.feedPacket p p.bytes)

/-- Agreement pages go, oldest first, as long as the link takes them; the others wait (10 R155; log 23). -/
def State.sendPages (s : State) : List AgreementPage → State
  | [] => s.withFlc { s.flc with pages := [] }
  | p :: rest =>
    if s.cpi.linkTakesFeed then (s.sendPacket (.page p)).sendPages rest
    else s.withFlc { s.flc with pages := p :: rest }

/-- The waiting agreement pages go as the link takes them (10 R155; log 23). -/
def State.servePages (s : State) : State :=
  s.sendPages s.flc.pages

/-! ### Arrivals and commands -/

/-- An arrival at the part: it clears the record of the last arrival's emissions, has its effect, and then lets free
transmitters begin. While the part is not powered nothing has an effect (log 2). -/
def arrive (s : State) (f : State → State) : Host.Outcome State Fault Refusal :=
  if s.powered then .next (f (s.withEmitted [])).transmit else .next s

/-- DONE with result data. -/
def doneWith (clamped : Bool) (d : ResultData) : Answer :=
  { status := .done, reason := .noReason, clamped := clamped, data := d }

/-- DONE without result data. -/
def done (clamped : Bool) : Answer :=
  doneWith clamped .nothing

/-- ACCEPTED. -/
def accepted (clamped : Bool) (d : ResultData) : Answer :=
  { status := .accepted, reason := .noReason, clamped := clamped, data := d }

/-- REFUSED with a reason, after an argument that decides the refusal was clamped or not (10 R156; log 52). -/
def refusal (r : Reason) (clamped : Bool) : Answer :=
  { status := .refused, reason := r, clamped := clamped, data := .nothing }

/-- REFUSED with a reason, with no argument clamped. -/
def refuse (r : Reason) : Answer :=
  refusal r false

/-- The reply to a command: the answer of its block with the command's kind and marker and the view generation after
the command (10 R156). -/
def Answer.reply (a : Answer) (kind : Byte) (h : CmdHeader) (gen : Half) : Reply :=
  { kind := kind, marker := h.marker, status := a.status, reason := a.reason, clamped := a.clamped, gen := gen,
    data := a.data }

/-- The reply becomes the owed reply of its port (10 R156). -/
def State.owe (s : State) (p : Port) (r : Reply) : State :=
  s.withCpi (s.cpi.setPort p { s.cpi.port p with owed := some r })

/-- The BUSY refusal waits behind the owed reply (10 R156). -/
def State.refuseBusy (s : State) (p : Port) (r : Reply) : State :=
  s.withCpi (s.cpi.setPort p { s.cpi.port p with busy := some r })

/-- The length check: BAD_LENGTH where the layout does not fit, else the block's own checks and effect (10 R156). -/
def parsed {α : Type} (layout : Option α) (f : α → State → State × Answer) (s : State) : State × Answer :=
  match layout with
  | none => (s, refuse .badLength)
  | some a => f a s

/-- A table edit: replaces the state and answers DONE with the clamped flag. -/
def edited (s : State) (clamped : Bool) : State × Answer :=
  (s, done clamped)

/-- A read: changes nothing and answers DONE with result data. -/
def reported (s : State) (d : ResultData) : State × Answer :=
  (s, doneWith false d)

end Sys2Proof.Machine
end

