-- ==== Sys2Proof/Decode.lean ====
section
/-! DEFINITION. The command that a word spells by the opcode table's bits, and the command that a command body spells (10 R162). -/

namespace Sys2Proof

open Sys2Proof.Machine

/-- spec/opcode_table.json gives no row any bits: a word spells no command. -/
def decodeTableWord (_nbits _w : Nat) : Option Instr :=
  none

/-- The command of a kind with its header and argument bytes (10 Table 10-7); a kind that the table does not name is an unknown
command (10 R156). -/
def commandOf (kind : Byte) (h : CmdHeader) (args : List Byte) : Instr :=
  match kind.toNat with
  | 1 => .zoom h args
  | 2 => .zoomStep h args
  | 3 => .pan h args
  | 4 => .centre h args
  | 5 => .fitPage h args
  | 6 => .freeze h args
  | 7 => .unfreeze h args
  | 8 => .layout h args
  | 9 => .showLive h args
  | 10 => .setGlide h args
  | 11 => .readView h args
  | 12 => .setEdgeThreshold h args
  | 13 => .readEdgeThreshold h args
  | 14 => .readTile h args
  | 15 => .setClassifierEntry h args
  | 16 => .setClassifierEntries h args
  | 17 => .setEntryEnable h args
  | 18 => .setDefaultAction h args
  | 19 => .setTextQuorum h args
  | 20 => .readClassifier h args
  | 21 => .readPageBox h args
  | 22 => .setProfile h args
  | 23 => .setProfiles h args
  | 24 => .readProfiles h args
  | 25 => .readSlots h args
  | 26 => .setOutputMode h args
  | 27 => .outputRestart h args
  | 28 => .blank h args
  | 29 => .readOutput h args
  | 30 => .setFeedNotes h args
  | 31 => .setFeedMarks h args
  | 32 => .feedRestart h args
  | 33 => .readFeed h args
  | 34 => .store h args
  | 35 => .recall h args
  | 36 => .exportPage h args
  | 37 => .delete h args
  | 38 => .move h args
  | 39 => .openLesson h args
  | 40 => .closeLesson h args
  | 41 => .clearLesson h args
  | 42 => .nameLesson h args
  | 43 => .setLessonFlags h args
  | 44 => .saveSettings h args
  | 45 => .withdraw h args
  | 46 => .setPlaceRetryLimit h args
  | 47 => .readStore h args
  | 48 => .readLesson h args
  | 49 => .readJobs h args
  | 50 => .readStatus h args
  | 51 => .readCompletions h args
  | 52 => .readNotices h args
  | 53 => .setNoticeEnables h args
  | 54 => .setReach h args
  | 55 => .readReach h args
  | 56 => .readCounters h args
  | 57 => .clearCounters h args
  | 58 => .setHalfMasks h args
  | 59 => .restart h args
  | _ => .unknownCommand kind h args

/-- The command that the bytes of a body from a port spell (10 Tables 10-4, 10-7); none where they are no command body (10 R155). -/
def decodeBody (p : Port) (bytes : List Byte) : Option Instr :=
  (readBody p bytes).map fun x => commandOf x.1 x.2.1 x.2.2

end Sys2Proof
end

