-- ==== Sys2Proof/Machine/ViewOps.lean ====
section
/-! DEFINITION. The view controller's arithmetic and operations (05): panes, base window, window, scale steps, glide, glide
watch, view generation. -/

namespace Sys2Proof.Machine

/-! ### Window (05 R71 to R73) -/

/-- The raster of an output mode (06 Table 6-1). -/
def rasterSize : Nat → Nat × Nat
  | 0 => (1024, 768)
  | 1 => (1280, 800)
  | 2 => (1920, 1080)
  | _ => (3840, 2160)

/-- The live pane (05 R71). -/
def livePane (mode : Nat) (layout : Layout) : Nat × Nat :=
  match layout with
  | .single => rasterSize mode
  | .split => ((rasterSize mode).1 / 2, (rasterSize mode).2)

/-- The base window: the largest rectangle of the pane's aspect that fits in the frame (05 R71). -/
def baseWindow (pw ph : Nat) : Nat × Nat :=
  if ph * 3840 ≤ pw * 2880 then (3840, 3840 * ph / pw) else (2880 * pw / ph, 2880)

/-- An edge of the window: the target less half the size, limited to 0..room (05 R72). -/
def windowEdge (target size span : Nat) : Nat :=
  min (target - size / 2) (span - size)

/-- The window with its scale steps, from the pane, the current zoom and the target centre (05 R71 to R73). -/
def windowOf (mode : Nat) (layout : Layout) (zc tx ty : Nat) : Window :=
  let pane := livePane mode layout
  let base := baseWindow pane.1 pane.2
  let ww := base.1 * 256 / zc
  let wh := base.2 * 256 / zc
  let x0 := windowEdge tx ww 3840
  let y0 := windowEdge ty wh 2880
  { pw := pane.1, ph := pane.2, baseW := base.1, baseH := base.2, ww := ww, wh := wh, x0 := x0, y0 := y0,
    cx := x0 + ww / 2, cy := y0 + wh / 2, sx := ww * 65536 / pane.1, sy := wh * 65536 / pane.2 }

/-- The view record with its window worked out anew for an output mode (05 R72). -/
def Vwc.rework (v : Vwc) (mode : Nat) : Vwc :=
  { v with window := windowOf mode v.layout v.zc v.tx v.ty }

/-- Works out the window anew for the output mode in force (05 R72). -/
def State.rework (s : State) : State :=
  s.withVwc (s.vwc.rework s.dou.mode)

/-! ### Glide (05 R78, R79) -/

/-- One glide step of the current zoom (05 R78). -/
def glideStep (zt zc rate : Nat) : Nat :=
  if rate = 0 then zt
  else if zc < zt then min (zc + rate) zt
  else max (zc - rate) zt

/-- Takes the glide step of an output frame start, and works out the window anew when the zoom has changed (05 R78). -/
def State.glide (s : State) : State :=
  if glideStep s.vwc.zt s.vwc.zc s.vwc.glide = s.vwc.zc then s
  else (s.withVwc { s.vwc with zc := glideStep s.vwc.zt s.vwc.zc s.vwc.glide }).rework

/-- The work kind of a watched command: its command kind (10 R162). -/
def WatchKind.code : WatchKind → Byte
  | .zoom => 1
  | .zoomStep => 2

/-- The completion record of a watched zoom (05 R79). -/
def GlideWatch.record (w : GlideWatch) (e : Ending) (frame : Nat) : Completion :=
  { marker := w.marker, kind := w.kind.code, ending := e, reason := .noReason, lesson := none, serial := none,
    frame := frame }

/-- Ends a filled glide watch with an outcome; the record goes to its origin port (05 R79). -/
def State.endWatch (s : State) (e : Ending) : State :=
  match s.vwc.watch with
  | none => s
  | some w => (s.withVwc { s.vwc with watch := none }).give w.port (w.record e s.siu.frameNumber)

/-- The test of the glide watch at an output frame start (05 R79). -/
def State.testWatch (s : State) : State :=
  if s.vwc.zc = s.vwc.zt then s.endWatch .done else s

/-! ### Changes of the view (05 R68 to R70) -/

/-- Advances the view generation and raises VIEW_CHANGED (05 R68). -/
def State.viewChanged (s : State) : State :=
  (s.withVwc { s.vwc with gen := s.vwc.gen + 1 }).raise .viewChanged

/-- The figures that the reply to an accepted view command carries (05 R70). -/
def Vwc.figures (v : Vwc) : ViewFigures :=
  { gen := v.gen, zt := v.zt, zc := v.zc, tx := v.tx, ty := v.ty, cx := v.window.cx, cy := v.window.cy }

/-- Whether a command carries an expected generation that differs from the view generation: bit 0 of its flags
says whether it carries one; bits 1 to 7 have no meaning (05 R69; 10 Table 10-4; DESIGN CHOICE, log 54). -/
def staleHeader (h : CmdHeader) (gen : Half) : Bool :=
  h.flags.getLsbD 0 && h.expected != gen

/-- A view-changing command (05 R68 to R70): refused STALE, else carried out, and the generation advances. -/
def viewCommand (h : CmdHeader) (s : State) (change : State → State) (clamped : Bool) : State × Answer :=
  if staleHeader h s.vwc.gen then (s, refuse .stale)
  else ((change s).viewChanged, doneWith clamped (.view (change s).viewChanged.vwc.figures))

/-- A zoom command (05 R75, R76, R79): the change, the end of a watch in force, and a new watch with its answer ACCEPTED
when completion is wanted. -/
def zoomCommand (h : CmdHeader) (s : State) (kind : WatchKind) (zt glide : Nat) (wanted clamped : Bool) :
    State × Answer :=
  if staleHeader h s.vwc.gen then (s, refuse .stale)
  else
    let ended := s.endWatch .superseded
    let watch : Option GlideWatch := if wanted then some { port := h.port, marker := h.marker, kind := kind, target := zt } else none
    let t := (ended.withVwc { ended.vwc with zt := zt, glide := glide, watch := watch }).viewChanged
    (t, if wanted then accepted clamped (.view t.vwc.figures) else doneWith clamped (.view t.vwc.figures))

/-! ### FIT_PAGE (05 R81) -/

/-- The first and last source pixel of a run of tiles grown by one tile on each side and clipped to the frame. -/
def grown (t0 t1 span : Nat) : Nat × Nat :=
  (64 * (t0 - 1), min (span - 1) (64 * (t1 + 1) + 63))

/-- The middle of a run of tiles in source pixels. -/
def middle (t0 t1 : Nat) : Nat :=
  64 * t0 + 32 * (t1 - t0 + 1)

/-- The largest zoom at which the window holds the grown page box, limited to 256..4096 (05 R81). -/
def fitZoom (w : Window) (b : TileBox) : Nat :=
  let gx := grown b.c0 b.c1 3840
  let gy := grown b.r0 b.r1 2880
  limit 256 4096 (min (w.baseW * 256 / (gx.2 - gx.1 + 1)) (w.baseH * 256 / (gy.2 - gy.1 + 1)))

/-- What FIT_PAGE aims at: target zoom and target centre, and whether it is the fallback (05 R81). -/
def fitTarget (w : Window) (box : Option TileBox) : Nat × Nat × Nat × Bool :=
  match box with
  | none => (256, 1920, 1440, true)
  | some b => (fitZoom w b, middle b.c0 b.c1, middle b.r0 b.r1, false)

/-! ### The page shown (05 R85) -/

/-- A RECALL success puts a page on the screen (05 R85). -/
def State.showPage (s : State) (p : PageShown) : State :=
  (s.withVwc { s.vwc with page := some p }).viewChanged

end Sys2Proof.Machine
end

