-- ==== Sys2Proof/Machine/Pixels.lean ====
section
/-! DEFINITION. The picture arithmetic that reads slots: bilinear sampling (05 R74), page fitting and the raster (06 R95 to
R97), feed lines (07 R112, R118) and the scaling of a capture into a stored page (09 R142). -/

namespace Sys2Proof.Machine

/-! ### Reading a slot's picture -/

/-- The luminance at (x, y) of a live frame. -/
def Picture.liveY (p : Picture) (x y : Nat) : Nat :=
  match p with
  | .live ls => ((ls[y]?.map (·.y)).getD []).getD x 0
  | _ => 0

/-- The Cb of column pair k in row y of a live frame: the even places of the chroma lane (01, the pixel bus). -/
def Picture.liveCb (p : Picture) (k y : Nat) : Nat :=
  match p with
  | .live ls => (((ls[y]?.map (·.c)).getD []).getD (2 * k) 0).toNat
  | _ => 0

/-- The Cr of column pair k in row y of a live frame: the odd places of the chroma lane. -/
def Picture.liveCr (p : Picture) (k y : Nat) : Nat :=
  match p with
  | .live ls => (((ls[y]?.map (·.c)).getD []).getD (2 * k + 1) 0).toNat
  | _ => 0

/-- Byte b of a stored page's image (08 R128). -/
def Picture.byte (p : Picture) (b : Nat) : Byte :=
  match p with
  | .stored bytes => bytes.getD b 0
  | _ => 0

/-- The stored luminance at (x, y) (08 R128). -/
def Picture.storedY (p : Picture) (x y : Nat) : Byte := p.byte (1920 * y + x)
/-- The stored Cb at chroma column x and row y (08 R128). -/
def Picture.storedCb (p : Picture) (x y : Nat) : Byte := p.byte (2764800 + 960 * y + x)
/-- The stored Cr at chroma column x and row y (08 R128). -/
def Picture.storedCr (p : Picture) (x y : Nat) : Byte := p.byte (3456000 + 960 * y + x)

/-! ### Bilinear sampling (05 R74) -/

/-- A 16.16 position as a whole part and an 8-bit fraction, rounded half up (05 R74, step 1). -/
def splitPosition (p : Nat) : Nat × Nat :=
  let f := (p % 65536 + 128) / 256
  if f = 256 then (p / 65536 + 1, 0) else (p / 65536, f)

/-- The weighted mean of the four neighbours, rounded half up, with columns beyond `lastX` and rows beyond `lastY`
replaced by the last (05 R74, steps 2 to 4). -/
def bilinear (src : Nat → Nat → Nat) (lastX lastY p q : Nat) : Nat :=
  let x := splitPosition p
  let y := splitPosition q
  let x1 := min x.1 lastX
  let x2 := min (x.1 + 1) lastX
  let y1 := min y.1 lastY
  let y2 := min (y.1 + 1) lastY
  (src x1 y1 * ((256 - x.2) * (256 - y.2)) + src x2 y1 * (x.2 * (256 - y.2)) +
    src x1 y2 * ((256 - x.2) * y.2) + src x2 y2 * (x.2 * y.2) + 32768) / 65536

/-- A live frame sampled at a 16.16 position: chroma has one pair for each two columns, at half the horizontal position
(05 R74; log 42 on the half position's fraction). -/
def Picture.sampleLive (p : Picture) (px py : Nat) : Ycc :=
  { y := bilinear p.liveY 3839 2879 px py,
    cb := bilinear p.liveCb 1919 2879 (px / 2) py,
    cr := bilinear p.liveCr 1919 2879 (px / 2) py }

/-- A stored page sampled at a 16.16 position, each 8-bit value taken as four times itself (06 R97). -/
def Picture.sampleStored (p : Picture) (px py : Nat) : Ycc :=
  { y := bilinear (fun x y => 4 * (p.storedY x y).toNat) 1919 1439 px py,
    cb := bilinear (fun x y => 4 * (p.storedCb x y).toNat) 959 719 (px / 2) (py / 2),
    cr := bilinear (fun x y => 4 * (p.storedCr x y).toNat) 959 719 (px / 2) (py / 2) }

/-- A picture of sw x sh source pixels scaled to fit an area of aw x ah, its aspect kept, centred (06 R97, 09 R142). -/
def fitInto (sw sh aw ah : Nat) : Fit :=
  let fw := if ah * sw ≤ aw * sh then sw * ah / sh else aw
  let fh := if ah * sw ≤ aw * sh then ah else sh * aw / sw
  { fw := fw, fh := fh, left := (aw - fw) / 2, top := (ah - fh) / 2, sx := sw * 65536 / fw, sy := sh * 65536 / fh }

/-- The fit of a stored page in a page pane (06 R97). -/
def storedPageFit (pw ph : Nat) : Fit :=
  fitInto 1920 1440 pw ph

/-! ### The raster (06 R92 to R97) -/

/-- The tone of a fill (06 R96). -/
def Fill.tone : Fill → Ycc
  | .grey => { y := 512, cb := 512, cr := 512 }
  | .white => { y := 1023, cb := 512, cr := 512 }
  | .black => { y := 0, cb := 512, cr := 512 }

/-- What a latch draws at (i, j) of a pane of pw x ph (06 R95 to R97). -/
def Latch.draw (l : Latch) (spm : Spm) (pw ph i j : Nat) : Ycc :=
  match l with
  | .fill f => f.tone
  | .liveWindow n w => (spm.slot n).picture.sampleLive (w.x0 * 65536 + i * w.sx) (w.y0 * 65536 + j * w.sy)
  | .pageFit n =>
    let f := storedPageFit pw ph
    if f.left ≤ i ∧ i < f.left + f.fw ∧ f.top ≤ j ∧ j < f.top + f.fh then
      (spm.slot n).picture.sampleStored ((i - f.left) * f.sx) ((j - f.top) * f.sy)
    else Fill.black.tone

/-- The width of the left or single pane and of the right pane, from the latches of the output frame (06 R92: the right
latch is empty in SINGLE layout). -/
def Dou.paneWidth (d : Dou) : Nat :=
  if d.right.isSome then (rasterSize d.mode).1 / 2 else (rasterSize d.mode).1

/-- The pixel at column i and row j of the output frame being drawn: none outside the raster, and none while the raster is not RUNNING
(06 R87, R92 to R97; log 39). -/
def State.rasterPixel (s : State) (i j : Nat) : Option Ycc :=
  match s.dou.raster with
  | .running =>
    let size := rasterSize s.dou.mode
    let pw := s.dou.paneWidth
    if i < size.1 ∧ j < size.2 then
      if i < pw then s.dou.left.map fun l => l.draw s.spm pw size.2 i j
      else s.dou.right.map fun l => l.draw s.spm pw size.2 (i - pw) j
    else none
  | .restarting => none
  | .stopped => none

/-- What the raster-out pins carry at column i and row j of the raster: in STOPPED no sync and black; in RESTARTING no sync, and a tone
that is not stated (log 51); in RUNNING sync and the output frame's pixels (06 R87, Table 6-2). -/
def State.rasterPins (s : State) (i j : Nat) : Option RasterPins :=
  match s.dou.raster with
  | .stopped => some { sync := false, tone := Fill.black.tone }
  | .restarting =>
    let tone := Config.restartingTone i j
    some { sync := false, tone := { y := tone.1.toNat, cb := tone.2.1.toNat, cr := tone.2.2.toNat } }
  | .running => (s.rasterPixel i j).map fun p => { sync := true, tone := p }

/-! ### Feed lines (07 R112, R118) -/

/-- The feed formats: width, height and greatest rate (07 Table 7-2). -/
def feedFormat : Nat → Nat × Nat × Nat
  | 0 => (640, 480, 15)
  | 1 => (640, 480, 30)
  | 2 => (1280, 720, 30)
  | 3 => (1920, 1080, 15)
  | 4 => (1920, 1080, 30)
  | 5 => (1920, 1440, 15)
  | 6 => (2560, 1920, 10)
  | _ => (3840, 2160, 15)

/-- The source rectangle of a live feed frame of fw x fh in a region (07 R112). -/
def feedSource (region : Rect) (fw fh : Nat) : Rect :=
  let sw := if region.h * fw ≤ region.w * fh then region.h * fw / fh else region.w
  let sh := if region.h * fw ≤ region.w * fh then region.h else region.w * fh / fw
  { x0 := region.x0 + (region.w - sw) / 2, y0 := region.y0 + (region.h - sh) / 2, w := sw, h := sh }

/-- A 10-bit value sent or stored as an 8-bit value (07 R112, 09 R142). -/
def toByte (v : Nat) : Byte :=
  BitVec.ofNat 8 (v / 4)

/-- Line j of a feed frame: a live frame sampled through its source rectangle, with the chroma of a pair of pixels taken
at the pair's first pixel (log 15), or a stored page as it is stored (07 R112, R118). -/
def FeedFrame.line (f : FeedFrame) (p : Picture) (j : Nat) : FeedLine :=
  match f.kind with
  | .live _ =>
    let sampled := fun i => p.sampleLive (f.x0 * 65536 + i * f.sx) (f.y0 * 65536 + j * f.sy)
    { index := j, y := (List.range f.width).map fun i => toByte (sampled i).y,
      cb := (List.range (f.width / 2)).map fun k => toByte (sampled (2 * k)).cb,
      cr := (List.range (f.width / 2)).map fun k => toByte (sampled (2 * k)).cr }
  | .exported _ _ =>
    { index := j, y := (List.range 1920).map fun i => p.storedY i j,
      cb := (List.range 960).map fun k => p.storedCb k (j / 2),
      cr := (List.range 960).map fun k => p.storedCr k (j / 2) }

/-! ### A capture as a stored page (09 R142) -/

/-- Whether a page pixel lies in the fitted area. -/
def Fit.covers (f : Fit) (x y : Nat) : Bool :=
  decide (f.left ≤ x) && decide (x < f.left + f.fw) && decide (f.top ≤ y) && decide (y < f.top + f.fh)

/-- The source sample of a page pixel of the fitted area. -/
def captureSample (p : Picture) (r : Rect) (f : Fit) (x y : Nat) : Ycc :=
  p.sampleLive (r.x0 * 65536 + (x - f.left) * f.sx) (r.y0 * 65536 + (y - f.top) * f.sy)

/-- The stored luminance of page pixel (x, y): 255 in the margins (09 R142). -/
def captureY (p : Picture) (r : Rect) (x y : Nat) : Byte :=
  let f := fitInto r.w r.h 1920 1440
  if f.covers x y then toByte (captureSample p r f x y).y else 255

/-- The stored Cb at chroma column x and row y, taken at page pixel (2x, 2y): 128 in the margins (09 R142). -/
def captureCb (p : Picture) (r : Rect) (x y : Nat) : Byte :=
  let f := fitInto r.w r.h 1920 1440
  if f.covers (2 * x) (2 * y) then toByte (captureSample p r f (2 * x) (2 * y)).cb else 128

/-- The stored Cr at chroma column x and row y, taken at page pixel (2x, 2y): 128 in the margins (09 R142). -/
def captureCr (p : Picture) (r : Rect) (x y : Nat) : Byte :=
  let f := fitInto r.w r.h 1920 1440
  if f.covers (2 * x) (2 * y) then toByte (captureSample p r f (2 * x) (2 * y)).cr else 128

/-- Byte b of the image run of a capture (08 R128, 09 R142). -/
def captureByte (p : Picture) (r : Rect) (b : Nat) : Byte :=
  if b < 2764800 then captureY p r (b % 1920) (b / 1920)
  else if b < 3456000 then captureCb p r ((b - 2764800) % 960) ((b - 2764800) / 960)
  else captureCr p r ((b - 3456000) % 960) ((b - 3456000) / 960)

/-- Place page k, for k = 1..2025, of a capture's image (08 R128). -/
def capturePage (p : Picture) (r : Rect) (k : Nat) : List Byte :=
  (List.range 2048).map fun n => captureByte p r (2048 * (k - 1) + n)

end Sys2Proof.Machine
end

