-- ==== Sys2Proof/Machine/Statistics.lean ====
section
/-! DEFINITION. The tile statistics unit's arithmetic (01 R11 to R15): gathering a line, the figures of a tile, smoothed white
levels and signatures. Tiles are listed row by row: tile number 60 * row + column. -/

namespace Sys2Proof.Machine

/-- The luminance of a line. -/
def lineLuminance (line : List PixelClock) : List Nat :=
  line.map (·.y.toNat)

/-- Whether the step from one pixel to its right-hand neighbour counts as an edge (01 R13). -/
def isEdge (threshold a b : Nat) : Bool :=
  decide (threshold < max a b - min a b)

/-- The edge pixels of a run of luminance; the last of the run has no neighbour in it and is not tested (01 R13). -/
def edgeCount (threshold : Nat) : List Nat → Nat
  | a :: b :: rest => (isEdge threshold a b).toNat + edgeCount threshold (b :: rest)
  | _ => 0

/-- The part of a line that tile column `col` gathers: its 64 pixels and the right-hand neighbour of the last, where
there is one (01 R13). -/
def tileRun (line : List Nat) (col : Nat) : List Nat :=
  (line.drop (64 * col)).take 65

/-- Adds a run to a tile: row `v` of the tile, 0..63 (01 R12, R13). -/
def TileAcc.gather (t : TileAcc) (threshold v : Nat) (run : List Nat) : TileAcc :=
  { sum := t.sum + (run.take 64).sum,
    subs := t.subs.mapIdx fun i sub =>
      if i / 4 = v / 16 then sub + (((run.take 64).drop (16 * (i % 4))).take 16).sum else sub,
    edges := t.edges + edgeCount threshold run }

/-- A building set with all its sums and counts at zero (01 R12). -/
def openSet : List TileAcc :=
  List.replicate 2700 { sum := 0, subs := List.replicate 16 0, edges := 0 }

/-- Adds accepted line y to the building set (01 R12, R13). -/
def gatherLine (threshold y : Nat) (line : List Nat) (set : List TileAcc) : List TileAcc :=
  set.mapIdx fun i t => if i / 60 = y / 64 then t.gather threshold (y % 64) (tileRun line (i % 60)) else t

/-- Mean luminance of a tile (01 R12). -/
def TileAcc.mean (t : TileAcc) : Nat := t.sum / 4096

/-- White level of a tile: the largest sub-block mean (01 R12). -/
def TileAcc.white (t : TileAcc) : Nat := (t.subs.map (· / 256)).foldl max 0

/-- Edge figure of a tile (01 R13). -/
def TileAcc.edge (t : TileAcc) : Nat := min 63 (t.edges / 64)

/-- The tile and its existing horizontal and vertical neighbours (01 R14). -/
def nearTiles (i : Nat) : List Nat :=
  [i] ++ (if i % 60 = 0 then [] else [i - 1]) ++ (if i % 60 = 59 then [] else [i + 1]) ++
    (if i / 60 = 0 then [] else [i - 60]) ++ (if i / 60 = 44 then [] else [i + 60])

/-- The smoothed white level of a tile, from the white levels of its set (01 R14). -/
def smoothedWhite (whites : List Nat) (i : Nat) : Nat :=
  ((nearTiles i).map fun k => whites.getD k 0).sum / (nearTiles i).length

/-- The signature (01 R14). -/
def signature (m e : Nat) : Nat := 64 * (m / 16) + e

end Sys2Proof.Machine
end

