-- ==== Sys2Proof/Machine/Classify.lean ====
section
/-! DEFINITION. The tile classifier's decisions (02 R17 to R26): matching, the deciding entry, the settled set, the text map
count and the page box. -/

namespace Sys2Proof.Machine

/-- Whether an entry's test holds of a signature (02 R17). -/
def ClassifierEntry.fits (e : ClassifierEntry) (sig : Nat) : Bool :=
  match e.kind with
  | .range => decide (e.a ≤ sig) && decide (sig ≤ e.b)
  | .pair => sig == e.a || sig == e.b
  | .mask => sig &&& e.b == e.a &&& e.b

/-- What decides a tile: the first enabled entry that matches, otherwise the default action (02 R18). -/
def Classifier.decision (c : Classifier) (sig : Nat) : DefaultAction :=
  match c.entries.find? fun e => e.enabled && e.fits sig with
  | some e => { action := e.action, text := e.text }
  | none => c.fallback

/-- A tile's complete record (01 Table 1-3, R14; 02 R21). -/
def tileRecord (c : Classifier) (whites : List Nat) (i : Nat) (t : TileAcc) : TileRecord :=
  { m := t.mean, w := t.white, e := t.edge, ws := smoothedWhite whites i, sig := signature t.mean t.edge,
    action := (c.decision (signature t.mean t.edge)).action, text := (c.decision (signature t.mean t.edge)).text }

/-- The building set completed and classified (01 R14, 02 R21). -/
def classified (c : Classifier) (set : List TileAcc) : List TileRecord :=
  set.mapIdx (tileRecord c (set.map TileAcc.white))

/-- The numbers of the tiles marked as text. -/
def markedTiles (tiles : List TileRecord) : List Nat :=
  (List.range tiles.length).filter fun i => ((tiles[i]?).map (·.text)).getD false

/-- The text map count (02 R23). -/
def textCount (tiles : List TileRecord) : Nat :=
  tiles.countP (·.text)

/-- The smallest rectangle of tiles around the marked ones (02 R25). -/
def boxAround : List Nat → Option TileBox
  | [] => none
  | i :: rest => some
      { c0 := (rest.map (· % 60)).foldl min (i % 60), c1 := (rest.map (· % 60)).foldl max (i % 60),
        r0 := (rest.map (· / 60)).foldl min (i / 60), r1 := (rest.map (· / 60)).foldl max (i / 60) }

/-- The page box of a settled set (02 R25). -/
def formBox (tiles : List TileRecord) (quorum : Nat) : Option TileBox :=
  if textCount tiles < quorum then none else boxAround (markedTiles tiles)

/-- The pixel rectangle of a page box (02 R25). -/
def TileBox.rect (b : TileBox) : Rect :=
  { x0 := 64 * b.c0, y0 := 64 * b.r0, w := 64 * (b.c1 - b.c0 + 1), h := 64 * (b.r1 - b.r0 + 1) }

/-- The classifier that judges the frame in progress: the frame copy (02 R20). -/
def Tcl.judging (t : Tcl) : Classifier :=
  t.copy.getD t.table

/-- The settled set replaced at a good frame end: the tiles are completed and classified, the text map count and the page
box follow (01 R8 steps 3 to 5, R14, R15; 02 R21, R23, R25). -/
def State.settle (s : State) : State :=
  match s.tsu.building with
  | none => s
  | some set =>
    let tiles := classified s.tcl.judging set
    (s.withTsu { s.tsu with building := none, settled := some { frame := s.siu.frameNumber, tiles := tiles } }).withTcl
      { s.tcl with count := textCount tiles, box := formBox tiles s.tcl.judging.quorum,
                   boxQuorum := some s.tcl.judging.quorum }

/-- Raises PAGE_BOX_CHANGED when the page box differs from the one before (02 R26). -/
def State.boxNotice (s : State) (before : Option TileBox) : State :=
  if s.tcl.box = before then s else s.raise .pageBoxChanged

end Sys2Proof.Machine
end

