-- ==== Sys2Proof/Machine/Enhance.lean ====
section
/-! DEFINITION. The page enhancement unit's arithmetic (03 R38 to R43). -/

namespace Sys2Proof.Machine

/-! ### One pixel (03 R40 to R43) -/

/-- The whitening offset (03 R40). -/
def whiteningOffset (p : Profile) (ws : Nat) : Nat := p.s * (1023 - ws) / 16

/-- The whitened value (03 R40). -/
def whitened (p : Profile) (ws y : Nat) : Nat := min 1023 (y + whiteningOffset p ws)

/-- Coring (03 R42). -/
def cored (c : Nat) (d : Int) : Int :=
  if d > c then d - c else if d < -(c : Int) then d + c else 0

/-- The detail step: gain truncated toward zero, then the clip (03 R42). -/
def detailStep (p : Profile) (d : Int) : Int :=
  max (-(p.l : Int)) (min p.l (Int.tdiv (cored p.c d * p.g) 16))

/-- The enhanced luminance of a pixel with box mean b (03 R40 to R43). -/
def enhanced (p : Profile) (ws y b : Nat) : Nat :=
  limitInt 1023 (whitened p ws y + detailStep p ((y : Int) - b))

/-- The profile that an action names; none for PASS (03 R39). -/
def Action.profile (a : Action) (profiles : List Profile) : Option Profile :=
  match a with
  | .p0 => profiles[0]?
  | .p1 => profiles[1]?
  | .p2 => profiles[2]?
  | .p3 => profiles[3]?
  | .pass => none

/-- The output luminance of a pixel whose tile has this record in the tile reference, none while the reference is EMPTY
(03 R39). -/
def pixelOut (profiles : List Profile) (tile : Option TileRecord) (y b : Nat) : Nat :=
  match tile with
  | none => y
  | some t =>
    match t.action.profile profiles with
    | none => y
    | some p => enhanced p t.ws y b

/-! ### One line (03 R38, R41) -/

/-- The sum of three adjacent columns, with the columns outside the line replaced by the nearest (03 R41). -/
def rowSum (line : List Nat) (x : Nat) : Nat :=
  line.getD (x - 1) 0 + line.getD x 0 + line.getD (min (x + 1) (line.length - 1)) 0

/-- The box mean at column x of `mid` (03 R41). -/
def boxMean (above mid below : List Nat) (x : Nat) : Nat :=
  (rowSum above x + rowSum mid x + rowSum below x) / 9

/-- Line y of the enhanced picture, from the line, the one above it and the one below it (03 R38 to R43). -/
def finishLine (profiles : List Profile) (tiles : Option (List TileRecord)) (y : Nat) (above mid below : List PixelClock) :
    PictureLine :=
  { y := (lineLuminance mid).mapIdx fun x v =>
      pixelOut profiles (tiles.bind fun ts => ts[60 * (y / 64) + x / 64]?) v
        (boxMean (lineLuminance above) (lineLuminance mid) (lineLuminance below) x),
    c := mid.map (·.c) }

/-- One more line of a live picture. -/
def Picture.addLine (p : Picture) (l : PictureLine) : Picture :=
  match p with
  | .live lines => .live (lines ++ [l])
  | .blank => .live [l]
  | .stored _ => .live [l]

/-- The profiles that enhance the frame in progress: the frame copy (03 R35). -/
def Peu.enhancing (p : Peu) : List Profile :=
  p.copy.getD p.profiles

/-- The tile reference: the settled set in force, which stays in force for the whole frame (03 R36). -/
def Tsu.reference (t : Tsu) : Option (List TileRecord) :=
  t.settled.map (·.tiles)

/-- The PEU finishes line y and writes it into the frame's slot (03 R38). -/
def State.finish (s : State) (y : Nat) (above mid below : List PixelClock) : State :=
  match s.spm.find .intake with
  | none => s
  | some n =>
    s.withSpm (s.spm.draw n fun p =>
      p.addLine (finishLine s.peu.enhancing s.tsu.reference y above mid below))

/-- The line store with one more line: it holds up to three (03 R38). -/
def storeLine (store : List (List PixelClock)) (line : List PixelClock) : List (List PixelClock) :=
  (store ++ [line]).drop (store.length + 1 - 3)

/-- What the PEU does as it accepts line y: it holds the line, and finishes the line before it (03 R38). -/
def State.enhanceAccepted (s : State) (y : Nat) (line : List PixelClock) : State :=
  let held := s.withPeu { s.peu with lineStore := storeLine s.peu.lineStore line }
  match held.peu.lineStore with
  | [mid, below] => held.finish (y - 1) mid mid below
  | [above, mid, below] => held.finish (y - 1) above mid below
  | _ => held

/-- What the PEU does within the good frame end: it finishes line 2879, with that line repeated below (03 R38). -/
def State.enhanceLast (s : State) : State :=
  match s.peu.lineStore with
  | [_, above, mid] => s.finish 2879 above mid mid
  | _ => s

end Sys2Proof.Machine
end

