-- ==== Sys2Proof/Machine/FeedOps.lean ====
section
/-! DEFINITION. The feed link controller's agreement (07 R101 to R108): base offers, note pages, what a bridge page says, and the
resolution. -/

namespace Sys2Proof.Machine

/-! ### Pages of the part (07 R102, R103, R105) -/

/-- The note pages that send a note (07 R103). -/
def Note.pages : Note → List PartPage
  | .null => [{ kind := .message, code := 1 }]
  | .rateLimit r => [{ kind := .message, code := 2 }, { kind := .plain, code := BitVec.ofNat 11 r }]
  | .cropWanted => [{ kind := .message, code := 3 }]
  | .exportAble => [{ kind := .message, code := 4 }]

/-- The part's own base offer (07 R102). -/
def Flc.offer (f : Flc) (ack : Bool) (fault : OfferFault) : BaseOffer :=
  { formats := 0xFF, nextPage := !f.latched.isEmpty, ack := ack, fault := fault, restart := false }

/-- Gives an agreement page to the link, where it waits for its turn behind the pages before it (10 R155; log 23). -/
def State.queuePage (s : State) (p : AgreementPage) : State :=
  s.withFlc { s.flc with pages := s.flc.pages ++ [p] }

/-- Starts the page timer, which every page sent during an agreement starts anew (07 R108). -/
def State.startPageTimer (s : State) : State :=
  s.withFlc { s.flc with pageTimer := s.startTimer 20 .pageTimerExpiry }

/-- Sends the part's base offer and starts the page timer anew (07 R104, R108). -/
def State.sendOffer (s : State) (ack : Bool) : State :=
  (s.queuePage (.base (s.flc.offer ack .noFault))).startPageTimer

/-- The progress of the note exchange at its beginning: every page of the latched notes unsent, nothing kept of the bridge's
pages (07 R104, R105). -/
def Flc.freshExchange (f : Flc) : Flc :=
  { f with unsent := f.latched.flatMap Note.pages, lastPage := none, bridgeToggle := false, expectRate := false }

/-- What the start of an agreement clears and latches: the note list is latched, the rate limits and both agreed flags are
cleared (07 R103, R106). -/
def Flc.freshAgreement (f : Flc) : Flc :=
  { f.freshExchange with latched := f.notes, unsent := f.notes.flatMap Note.pages, rateLimit := none, cropAgreed := false,
                         exportAgreed := false, result := none }

/-- Entry to OFFERING: the base offer is sent with the acknowledge flag clear, and the page timer is started (07 R104,
R108). -/
def State.beginAgreement (s : State) : State :=
  (s.withFlc { s.flc.freshAgreement with agreement := .offering, partner := none }).sendOffer false

/-- What the part's next note page carries: its next unsent note page, or NULL (07 R105). -/
def Flc.nextNote (f : Flc) : PartPage :=
  f.unsent.headD { kind := .message, code := 1 }

/-- The part's next note page (07 R105). -/
def Flc.buildPage (f : Flc) (ack2 : Bool) : NotePage :=
  { nextPage := !f.unsent.tail.isEmpty, ack := true, kind := f.nextNote.kind, ack2 := ack2,
    toggle := match f.lastPage with
      | none => true
      | some p => !p.toggle,
    code := f.nextNote.code }

/-- Sends the part's next note page (07 R105). -/
def State.sendNote (s : State) (ack2 : Bool) : State :=
  (s.withFlc { s.flc with unsent := s.flc.unsent.tail, lastPage := some (s.flc.buildPage ack2) }).queuePage
    (.note (s.flc.buildPage ack2))

/-! ### What a bridge page says (07 R106) -/

/-- Records a rate limit; only the smallest counts (07 R107; log 37). -/
def Flc.limitRate (f : Flc) (r : Nat) : Flc :=
  { f with rateLimit := some (match f.rateLimit with
      | none => r
      | some q => min q r) }

/-- What the bridge's ack2 agrees: the note on the part's page before it (07 R106). -/
def Flc.agree (f : Flc) (p : NotePage) : Flc :=
  match p.kind with
  | .plain => f.limitRate p.code.toNat
  | .message =>
    if p.code = 3 then { f with cropAgreed := true }
    else if p.code = 4 then { f with exportAgreed := true }
    else f

/-- The answer of a new bridge page to the part's page before it (07 R106). -/
def Flc.hear (f : Flc) (ack2 : Bool) : Flc :=
  match f.lastPage with
  | none => f
  | some p => if ack2 then f.agree p else f

/-- The contents of a new bridge page: what they change, and the ack2 of the part's answer (07 R106). -/
def Flc.takeNote (f : Flc) (p : NotePage) : Flc × Bool :=
  match p.kind with
  | .message =>
    if p.code = 1 then ({ f with expectRate := false }, true)
    else if p.code = 2 then ({ f with expectRate := true }, true)
    else if p.code = 3 then ({ f with expectRate := false, cropAgreed := true }, true)
    else if p.code = 4 then ({ f with expectRate := false, exportAgreed := true }, true)
    else ({ f with expectRate := false }, false)
  | .plain =>
    if f.expectRate ∧ 1 ≤ p.code.toNat ∧ p.code.toNat ≤ 60 then
      (({ f with expectRate := false } : Flc).limitRate p.code.toNat, true)
    else ({ f with expectRate := false }, false)

/-! ### Resolution (07 R107) -/

/-- The highest format of a base offer: the part's own offer holds all eight (07 R107). -/
def BaseOffer.highest (o : BaseOffer) : Option Nat :=
  [7, 6, 5, 4, 3, 2, 1, 0].find? fun n => o.formats.getLsbD n

/-- The feed rate of a format, lowered to the smallest rate limit (07 R107). -/
def Flc.rateOf (f : Flc) (format : Nat) : Nat :=
  match f.rateLimit with
  | none => (feedFormat format).2.2
  | some r => min (feedFormat format).2.2 r

/-- The feed interval in milliseconds (07 R110). -/
def AgreementResult.interval (r : AgreementResult) : Nat :=
  (1000 + r.rate - 1) / r.rate

/-- The allowance in milliseconds (07 R116). -/
def AgreementResult.allowance (r : AgreementResult) : Nat :=
  4 * r.interval

/-- The agreement is resolved to FEED_UP with a format (07 R107). -/
def State.feedUp (s : State) (format : Nat) : State :=
  (s.withFlc { s.flc with
      agreement := .feedUp,
      result := some { format := format, rate := s.flc.rateOf format, crop := s.flc.cropAgreed,
                       exporting := s.flc.exportAgreed },
      restartCount := 0, pageTimer := none, due := true, intervalTimer := none }).raise .feedUp

/-- No common format: a base offer with fault REFUSED is sent and the state becomes FEED_DOWN (07 R107; its acknowledge flag:
log 17). -/
def State.noCommonFormat (s : State) : State :=
  ((s.withFlc { s.flc with agreement := .feedDown, pageTimer := none, result := none }).queuePage
    (.base (s.flc.offer true .refused))).raise .noCommonFormat

/-- Resolves the agreement (07 R107). -/
def State.resolve (s : State) : State :=
  match s.flc.partner.bind BaseOffer.highest with
  | some format => s.feedUp format
  | none => s.noCommonFormat

/-- The base exchange is complete: the first note page is sent, or the agreement is resolved (07 R104). -/
def State.baseComplete (s : State) : State :=
  if !s.flc.latched.isEmpty || (s.flc.partner.map (·.nextPage)).getD false then
    ((s.withFlc { s.flc.freshExchange with agreement := .noteExchange }).sendNote false).startPageTimer
  else s.resolve

/-- A base offer taken and answered with an acknowledging offer (07 R104, R105, R109). -/
def State.takeOffer (s : State) (o : BaseOffer) : State :=
  let answered := (s.withFlc { s.flc with partner := some o }).sendOffer true
  if o.ack then answered.baseComplete
  else answered.withFlc { answered.flc.freshExchange with agreement := .ackSeen }

/-- A new note page of the bridge in NOTE_EXCHANGE (07 R105). -/
def State.newNote (s : State) (p : NotePage) : State :=
  let taken := (s.flc.hear p.ack2).takeNote p
  let kept := s.withFlc { taken.1 with bridgeToggle := p.toggle }
  if !p.nextPage && !(kept.flc.buildPage taken.2).nextPage then (kept.sendNote taken.2).resolve
  else (kept.sendNote taken.2).startPageTimer

/-- A duplicate of the bridge's last page: the part's last page again (07 R105). -/
def State.repeatNote (s : State) : State :=
  match s.flc.lastPage with
  | none => s
  | some p => (s.queuePage (.note p)).startPageTimer

end Sys2Proof.Machine
end

