-- ==== Sys2Proof/Machine/Lessons.lean ====
section
/-! DEFINITION. The lesson table and the place map (08 R124 to R127), reach (10 R157), and where a place lies on the flash (08
R122). -/

namespace Sys2Proof.Machine

/-! ### Finding records (08 R125, R126) -/

/-- The lesson record with a number. -/
def lessonAt (ls : List LessonRecord) (l : Nat) : LessonRecord :=
  ls.getD l Config.emptyLesson

/-- The page record at a position of a lesson's page list, when it is not in WRITING state (09 R138). -/
def pageAt (ls : List LessonRecord) (l p : Nat) : Option PageRecord :=
  ((lessonAt ls l).pages[p]?).filter fun r => r.state != .writing

/-- The record with a serial. -/
def recordWith (ls : List LessonRecord) (serial : Half) : Option PageRecord :=
  (recordsOf ls).find? (·.serial == serial)

/-- The lesson that holds the record with a serial. -/
def holderOf (ls : List LessonRecord) (serial : Half) : Option Nat :=
  ls.findIdx? fun l => l.pages.any (·.serial == serial)

/-- The current lesson: the OPEN one (08 R125). -/
def currentLesson (ls : List LessonRecord) : Option Nat :=
  ls.findIdx? (·.state == .opened)

/-! ### Changing records -/

/-- The table with the record of a serial changed. -/
def changeRecord (ls : List LessonRecord) (serial : Half) (f : PageRecord → PageRecord) : List LessonRecord :=
  ls.map fun l => { l with pages := l.pages.map fun r => if r.serial = serial then f r else r }

/-- The table without the record of a serial; the other records keep their order (09 R146). -/
def removeRecord (ls : List LessonRecord) (serial : Half) : List LessonRecord :=
  ls.map fun l => { l with pages := l.pages.filter fun r => r.serial != serial }

/-- The table without the records in WRITING state (08 R134). -/
def dropWriting (ls : List LessonRecord) : List LessonRecord :=
  ls.map fun l => { l with pages := l.pages.filter fun r => r.state != .writing }

/-- The table with a record appended to a lesson's page list (09 R140). -/
def appendRecord (ls : List LessonRecord) (l : Nat) (r : PageRecord) : List LessonRecord :=
  ls.modify l fun rec => { rec with pages := rec.pages ++ [r] }

/-- A page list with the record of a serial put at a position, limited to the list's last (09 R146). -/
def movePage (pages : List PageRecord) (serial : Half) (target : Nat) : List PageRecord :=
  match pages.find? (·.serial == serial) with
  | none => pages
  | some r =>
    let rest := pages.filter fun q => q.serial != serial
    rest.take target ++ [r] ++ rest.drop target

/-! ### Places and serials (08 R124, R127) -/

/-- The places that are not FREE: assigned or RETIRED (08 R124). -/
def takenPlaces (ls : List LessonRecord) (retired : List Nat) : List Nat :=
  (recordsOf ls).map (·.place) ++ retired

/-- The lowest-numbered FREE place (08 R124). -/
def freePlace (ls : List LessonRecord) (retired : List Nat) : Option Nat :=
  (List.range 510).find? fun p => !(takenPlaces ls retired).contains p

/-- The first serial from the next-serial counter on that no record holds; one more than the number of records are tried, so
that one of them is free (08 R127). -/
def freeSerial (ls : List LessonRecord) (next : Half) : Half :=
  (((List.range ((recordsOf ls).length + 1)).map fun n => next + BitVec.ofNat 16 n).find? fun q =>
    !((recordsOf ls).map (·.serial)).contains q).getD next

/-! ### The LSC's table state and its due flag (08 R130) -/

/-- A changed lesson table, which sets the catalogue due flag. -/
def Lsc.withLessons (l : Lsc) (ls : List LessonRecord) : Lsc :=
  { l with lessons := ls, due := true }

/-- A lesson table as an edit leaves it: the catalogue due flag is set where the edit changed something (09 R147, R148;
log 26). -/
def Lsc.editLessons (l : Lsc) (ls : List LessonRecord) : Lsc :=
  if ls = l.lessons then l else l.withLessons ls

/-- Retires a place (08 R124). -/
def Lsc.retire (l : Lsc) (p : Nat) : Lsc :=
  { l with retired := l.retired ++ [p], due := true }

/-! ### Flash addresses (08 R122) -/

/-- The erase block of place p's place page k. -/
def placeBlock (p k : Nat) : Nat := 64 + 32 * p + k / 64

/-- The program page of place page k within its block. -/
def placePage (k : Nat) : Nat := k % 64

/-! ### Reach (10 R157) -/

/-- Whether a lesson is in a window. -/
def ReachWindow.contains (w : ReachWindow) (lesson : Nat) : Bool :=
  w.enabled && (lesson &&& w.mask == w.base &&& w.mask)

/-- Whether a window carries a right. -/
def ReachWindow.grants (w : ReachWindow) : Right → Bool
  | .toShow => w.showRight
  | .toSave => w.saveRight
  | .toExport => w.sendRight

/-- Whether a port holds a right on a lesson: the Panel port holds all; the others hold the union of their windows' rights
(10 R157). -/
def Cpi.allows (c : Cpi) (p : Port) (lesson : Nat) (r : Right) : Bool :=
  match p with
  | .panel => true
  | .room => c.reachRoom.any fun w => w.contains lesson && w.grants r
  | .tether => c.reachTether.any fun w => w.contains lesson && w.grants r

end Sys2Proof.Machine
end

