-- ==== Sys2Proof/Machine/Catalogue.lean ====
section
/-! DEFINITION. Flash operations, stored page images and catalogue images (08 R123, R128 to R131): their bytes, the soundness test
and the attempts of a catalogue write. -/

namespace Sys2Proof.Machine

/-! ### Flash operations (08 R123) -/

/-- Issues a flash operation for a user. -/
def State.issue (s : State) (op : FlashOp) (a : Activity) : State :=
  s.withLsc { s.lsc with flash := some op, activity := a }

/-- No flash operation is in progress. -/
def State.quiet (s : State) : State :=
  s.withLsc { s.lsc with flash := none, activity := .idle }

/-! ### Stored pages (08 R128, R129) -/

/-- The header of a record's page (08 R128). -/
def PageRecord.header (r : PageRecord) (lesson : Nat) (crc : Quad) : PageHeader :=
  { serial := r.serial, lesson := lesson, crop := r.crop, frame := r.frame, cx := r.cx, cy := r.cy, zc := r.zc, crc := crc }

/-- The program page of a header with its header CRC-32, taken over the other fields, the page mark among them (08 R128). -/
def PageHeader.page (h : PageHeader) : List Byte :=
  Config.header.page h (crc32 (Config.header.fieldBytes h))

/-- Whether a read page is the header of a record: the page mark, the header CRC-32 and the serial (08 R129 items 2, 3). -/
def headerAgrees (data : List Byte) (serial : Half) : Bool :=
  match Config.header.read data with
  | none => false
  | some (h, c) => crc32 (Config.header.fieldBytes h) == c && h.serial == serial

/-- A soundness test at its beginning (08 R129). -/
def PageCheck.start : PageCheck :=
  { page := 0, crc := crcStart, sound := true }

/-- What the result of reading the test's page makes of the test (08 R129 items 1 to 3, and the CRC of item 4). -/
def PageCheck.take (c : PageCheck) (r : FlashResult) (serial : Half) : PageCheck :=
  match r with
  | .fail => { c with sound := false }
  | .pass data =>
    if c.page = 0 then { c with sound := c.sound && headerAgrees data serial }
    else { c with crc := crcRun c.crc data }

/-- Whether the image is sound once every page has been read (08 R129; log 18). -/
def PageCheck.verdict (c : PageCheck) (expected : Option Quad) : Bool :=
  c.sound && expected == some (~~~ c.crc)

/-! ### Catalogue images (08 R130, R131) -/

/-- The catalogue image of the LSC's table state (08 R130). -/
def Lsc.image (l : Lsc) : CatalogueImage :=
  { sequence := l.catSeq, lessons := l.lessons, retired := l.retired, nextSerial := l.nextSerial, saved := l.saved }

/-- The bytes of a catalogue image: the preamble, the tables in their order, the CRC-32 of all the bytes before it (08 R130; log
7). -/
def CatalogueImage.bytes (i : CatalogueImage) : List Byte :=
  Config.catalogue.parts.image i

/-- The number of program pages that an image length takes. -/
def imagePages (length : Nat) : Nat :=
  max 1 ((length + 2047) / 2048)

/-- Program page k of an image's bytes; the last page is filled up (08 R130; log 35). -/
def imagePage (bytes : List Byte) (k : Nat) : List Byte :=
  let part := (bytes.drop (2048 * k)).take 2048
  part ++ List.replicate (2048 - part.length) Config.imagePadding

/-- Begins an attempt of a catalogue write on a block: the sequence is increased, the image is built with it, the block's
erase is issued. None when the sequence has no further number (08 R131; log 27). -/
def State.attempt (s : State) (owner : WriteOwner) (image : CatalogueImage) (attempt block : Nat) : Option State :=
  if s.lsc.catSeq = 0xFFFFFFFF then none
  else
    let numbered := { image with sequence := s.lsc.catSeq + 1 }
    some ((s.withLsc { s.lsc with catSeq := s.lsc.catSeq + 1 }).issue (.erase block)
      (.writing { owner := owner, image := numbered, attempt := attempt, block := block, bytes := numbered.bytes,
                  phase := .erase }))

/-- The catalogue block after another (08 R131). -/
def nextBlock (b : Nat) : Nat := (b + 1) % 64

/-- Begins a catalogue write of the current state (08 R131). -/
def State.beginWrite (s : State) (owner : WriteOwner) : Option State :=
  s.attempt owner s.lsc.image 1 (nextBlock s.lsc.lastBlock)

/-- What the failure of a write does to the store (08 R131). -/
def State.readOnly (s : State) : State :=
  ((s.quiet).withLsc { s.quiet.lsc with mode := .readOnly }).raise .storeReadOnly

/-- What the passing of a write does to the store (08 R131). -/
def State.written (s : State) (block : Nat) : State :=
  ((s.quiet).withLsc { s.quiet.lsc with lastBlock := block, due := false }).count .catalogueWrites

/-- What the completion of a flash operation makes of a catalogue write. -/
inductive WriteStep where
  | goesOn (op : FlashOp) (w : CatalogueWrite)
  | passed
  | failed
deriving DecidableEq, Repr

/-- The step of an attempt after program page k is programmed: the next page, or the first page read back (08 R131). -/
def CatalogueWrite.programmed (w : CatalogueWrite) (k : Nat) : WriteStep :=
  if k < imagePages w.bytes.length then .goesOn (.program w.block k (imagePage w.bytes k)) { w with phase := .program k }
  else .goesOn (.read w.block 0) { w with phase := .readBack 0 }

/-- The step of an attempt when page k is to be read back, or every page has been (08 R131). -/
def CatalogueWrite.compared (w : CatalogueWrite) (k : Nat) : WriteStep :=
  if k < imagePages w.bytes.length then .goesOn (.read w.block k) { w with phase := .readBack k } else .passed

/-- The step of an attempt at the completion of its operation (08 R131). -/
def CatalogueWrite.step (w : CatalogueWrite) (r : FlashResult) : WriteStep :=
  match r with
  | .fail => .failed
  | .pass data =>
    match w.phase with
    | .erase => w.programmed 0
    | .program k => w.programmed (k + 1)
    | .readBack k => if data = imagePage w.bytes k then w.compared (k + 1) else .failed

/-! ### Reading the catalogue area (08 R133) -/

/-- The image length that a block's first program page states (08 R130, R133). -/
def imageLength (bytes : List Byte) : Nat :=
  Config.catalogue.readLength (bytes.take 2048)

/-- The contents of a block's image when the block is valid, from the bytes of the pages its length covers (08 R133). -/
def validImage (bytes : List Byte) : Option CatalogueImage :=
  let image := bytes.take (imageLength bytes)
  if crc32 (image.take (imageLength bytes - 4)) = Config.catalogue.readCrc image then
    (Config.catalogue.readContents image).map (·.val)
  else none

/-- The better of two valid images: the higher sequence, or the one found first (08 R133). -/
def betterImage (best : Option (Nat × CatalogueImage)) (block : Nat) (found : Option CatalogueImage) :
    Option (Nat × CatalogueImage) :=
  match best, found with
  | b, none => b
  | none, some i => some (block, i)
  | some (n, b), some i => if b.sequence < i.sequence then some (block, i) else some (n, b)

/-- What the reading of a page makes of a block's bytes: none when the block is known to be invalid (08 R133). -/
def RecoveryRead.grown (r : RecoveryRead) (result : FlashResult) : Option (List Byte) :=
  match result with
  | .fail => none
  | .pass data =>
    if r.page = 0 then
      if Config.catalogue.parts.mark.isPrefixOf data && decide (imageLength data ≤ 131072) then some data else none
    else some (r.bytes ++ data)

/-- What the reading of a page makes of the reading of the area: the next page of the block, the next block, or the end with
the image to adopt (08 R133; log 19). -/
inductive RecoveryStep where
  | readsOn (r : RecoveryRead)
  | ended (best : Option (Nat × CatalogueImage))
deriving DecidableEq, Repr

/-- The step to the next block (08 R133). -/
def RecoveryRead.leave (r : RecoveryRead) (best : Option (Nat × CatalogueImage)) : RecoveryStep :=
  if r.block < 63 then .readsOn { block := r.block + 1, page := 0, bytes := [], best := best } else .ended best

/-- The step of the reading at the completion of a read (08 R133). -/
def RecoveryRead.step (r : RecoveryRead) (result : FlashResult) : RecoveryStep :=
  match r.grown result with
  | none => r.leave r.best
  | some bytes =>
    if r.page + 1 < imagePages (imageLength bytes) then .readsOn { r with page := r.page + 1, bytes := bytes }
    else r.leave (betterImage r.best r.block (validImage bytes))

end Sys2Proof.Machine
end

