-- ==== Sys2Proof/Machine/StoreOps.lean ====
section
/-! DEFINITION. The store job queue and the running job (09), and the recovery and the hand-over at start-up (08 R133, R134).
A function that runs the head job answers with how the job ended at this arrival: none while it goes on, `noReason` for a success. -/

namespace Sys2Proof.Machine

/-! ### Jobs (09 R137) -/

/-- The work kind of a job: the code of its command (10 R162). -/
def JobTask.code : JobTask → Byte
  | .store _ _ => 34
  | .recall _ _ => 35
  | .exportPage _ _ => 36
  | .delete _ _ => 37
  | .move _ _ _ => 38
  | .openLesson _ => 39
  | .closeLesson _ => 40
  | .clearLesson _ => 41
  | .nameLesson _ _ => 42
  | .setLessonFlags _ _ _ => 43
  | .saveSettings => 44

/-- The lesson of a job, where it has one. -/
def JobTask.lesson : JobTask → Option Nat
  | .store l _ => some l
  | .recall l _ => some l
  | .exportPage l _ => some l
  | .delete l _ => some l
  | .move l _ _ => some l
  | .openLesson l => some l
  | .closeLesson l => some l
  | .clearLesson l => some l
  | .nameLesson l _ => some l
  | .setLessonFlags l _ _ => some l
  | .saveSettings => none

/-- Whether a kind changes the table or the saved settings record (09 Table 9-1, R144; log 45). -/
def JobTask.changes : JobTask → Bool
  | .recall _ _ => false
  | .exportPage _ _ => false
  | _ => true

/-- The tag of a job's pin (04 R47). -/
def Job.tag (j : Job) : PinTag :=
  { port := j.port, marker := j.marker }

/-- A job as its acceptance makes it (09 R137). -/
def newJob (h : CmdHeader) (task : JobTask) (serial : Option Half) (pin : Option Nat) : Job :=
  { task := task, port := h.port, marker := h.marker, state := .queued, withdrawn := false, serial := serial, pin := pin,
    stage := .notBegun, retries := 0 }

/-- The queue with its head replaced. -/
def State.setHead (s : State) (j : Job) : State :=
  s.withLsc { s.lsc with queue := j :: s.lsc.queue.tail }

/-- The state with another job queue. -/
def State.withQueue (s : State) (q : List Job) : State :=
  s.withLsc { s.lsc with queue := q }

/-- The completion record of a job: its lesson is the one that its command named (09 R149; log 47). -/
def Job.record (j : Job) (e : Ending) (r : Reason) (frame : Nat) : Completion :=
  { marker := j.marker, kind := j.task.code, ending := e, reason := r, lesson := j.task.lesson, serial := j.serial,
    frame := frame }

/-- The outcome of a job that ends (09 Table 9-4). -/
def Job.ending (j : Job) (r : Reason) : Ending :=
  if r != .noReason then .failed
  else if j.withdrawn then .doneDespiteWithdraw
  else .done

/-- The head job leaves the queue with its completion record (09 R149). -/
def State.finishHead (s : State) (r : Reason) : State :=
  match s.lsc.queue with
  | [] => s
  | j :: rest => (s.withQueue rest).give j.port (j.record (j.ending r) r s.siu.frameNumber)

/-- Removes a job's pin, where it is placed (04 R56). -/
def State.dropPin (s : State) (j : Job) : State :=
  match j.pin with
  | none => s
  | some n => s.withSpm (s.spm.unpin n j.tag)

/-! ### Catalogue writes of jobs (09 R140 to R148) -/

/-- What the failure of a job's catalogue write does, and the reason the job ends with: STORE_MEDIA, whatever its reason was
before (09 R144, R145, R148). -/
def State.writeLost (s : State) (j : Job) : State × Reason :=
  match j.task, j.stage with
  | .store _ _, .record =>
    (match j.serial with
     | none => s.dropPin j
     | some q => (s.withLsc (s.lsc.withLessons (removeRecord s.lsc.lessons q))).dropPin j, .storeMedia)
  | _, _ => (s, .storeMedia)

/-- The head job makes a catalogue write (08 R131); with no sequence number left the write fails at once. -/
def State.jobWrite (s : State) (j : Job) : State × Option Reason :=
  match (s.setHead j).beginWrite .job with
  | some t => (t, none)
  | none => (((s.setHead j).readOnly.writeLost j).1, some ((s.setHead j).readOnly.writeLost j).2)

/-! ### The STORE run (09 R140 to R144) -/

/-- The record that a STORE run appends (08 R126, 09 R139, R140). -/
def Capture.record (c : Capture) (serial : Half) (place : Nat) : PageRecord :=
  { serial := serial, place := place, state := .writing, crop := c.crop, frame := c.frame, cx := c.cx, cy := c.cy, zc := c.zc,
    crc := none }

/-- Stages 1 to 3 of a STORE run (09 R140). -/
def State.beginStore (s : State) (j : Job) (lesson : Nat) (c : Capture) : State × Option Reason :=
  if (lessonAt s.lsc.lessons lesson).state ≠ .opened then (s.dropPin j, some .lessonClosed)
  else if 64 ≤ (lessonAt s.lsc.lessons lesson).pages.length then (s.dropPin j, some .lessonFull)
  else
    match freePlace s.lsc.lessons s.lsc.retired with
    | none => (s.dropPin j, some .storeFull)
    | some p =>
      let q := freeSerial s.lsc.lessons s.lsc.nextSerial
      (s.withLsc { s.lsc.withLessons (appendRecord s.lsc.lessons lesson (c.record q p)) with nextSerial := q + 1 }).jobWrite
        { j with state := .running, serial := some q, stage := .record }

/-- A failing STORE run ends: its record and its pin are removed, and a catalogue write carries it (09 R143). -/
def State.endStore (s : State) (j : Job) (q : Half) (r : Reason) : State × Option Reason :=
  ((s.dropPin j).withLsc (s.lsc.withLessons (removeRecord s.lsc.lessons q))).jobWrite
    { j with pin := none, stage := .ending r }

/-- An attempt of a STORE run has failed on place p: the place is retired, and the record moves to a new place or the run
fails (09 R143). -/
def State.attemptFailed (s : State) (j : Job) (q : Half) (p : Nat) : State × Option Reason :=
  let retired := (s.quiet.withLsc (s.quiet.lsc.retire p)).raise .placeRetired
  if j.retries < s.lsc.retryLimit then
    let counted := retired.count .storeRetries
    let again := { j with retries := j.retries + 1 }
    match freePlace counted.lsc.lessons counted.lsc.retired with
    | none => counted.endStore again q .storeFull
    | some n =>
      (counted.withLsc (counted.lsc.withLessons
        (changeRecord counted.lsc.lessons q fun r => { r with place := n, crc := none }))).jobWrite
          { again with stage := .record }
  else retired.endStore j q .storeMedia

/-- Erases block k of the place (09 R141 stage 4). -/
def State.eraseBlock (s : State) (p k : Nat) : State :=
  s.issue (.erase (64 + 32 * p + k)) (.erasing k)

/-- The image data of place page k: the pinned slot's picture through the fixed crop (09 R141 stage 5, R142). -/
def State.pageData (s : State) (j : Job) (c : Capture) (k : Nat) : List Byte :=
  capturePage (s.spm.slot (j.pin.getD 0)).picture c.rect k

/-- Programs image page k of the place; the CRC register takes its bytes (09 R141 stage 5). -/
def State.programImage (s : State) (j : Job) (c : Capture) (p k : Nat) (crc : Quad) : State :=
  s.issue (.program (placeBlock p k) (placePage k) (s.pageData j c k)) (.programming k (crcRun crc (s.pageData j c k)))

/-- The image is programmed: the record takes its CRC-32, and the header is programmed (08 R126, 09 R141 stage 5). -/
def State.programHeader (s : State) (lesson : Nat) (r : PageRecord) (crc : Quad) : State :=
  (s.withLsc (s.lsc.withLessons (changeRecord s.lsc.lessons r.serial fun x => { x with crc := some (~~~ crc) }))).issue
    (.program (placeBlock r.place 0) 0 (r.header lesson (~~~ crc)).page) (.programming 0 crc)

/-- Reads place page k for the read-back check (09 R141 stage 6). -/
def State.readBack (s : State) (p : Nat) (c : PageCheck) : State :=
  s.issue (.read (placeBlock p c.page) (placePage c.page)) (.readingBack c)

/-- The read-back is sound: the pin is removed, the record is set KEPT and written (09 R141 stages 6, 7). -/
def State.keep (s : State) (j : Job) (q : Half) : State × Option Reason :=
  ((s.quiet.dropPin j).withLsc
    (s.quiet.lsc.withLessons (changeRecord s.quiet.lsc.lessons q fun r => { r with state := .kept }))).jobWrite
      { j with pin := none, stage := .keep }

/-- The completion of an erase of the place (09 R141 stage 4, R143). -/
def State.erased (s : State) (j : Job) (c : Capture) (r : PageRecord) (k : Nat) (result : FlashResult) :
    State × Option Reason :=
  match result with
  | .fail => s.attemptFailed j r.serial r.place
  | .pass _ =>
    if k < 31 then (s.eraseBlock r.place (k + 1), none)
    else ((s.setHead { j with stage := .program }).programImage { j with stage := .program } c r.place 1 crcStart, none)

/-- The completion of the programming of place page k (09 R141 stage 5, R143). -/
def State.programmed (s : State) (j : Job) (lesson : Nat) (c : Capture) (r : PageRecord) (k : Nat) (crc : Quad)
    (result : FlashResult) : State × Option Reason :=
  match result with
  | .fail => s.attemptFailed j r.serial r.place
  | .pass _ =>
    if k = 0 then ((s.setHead { j with stage := .readBack }).readBack r.place .start, none)
    else if k < 2025 then (s.programImage j c r.place (k + 1) crc, none)
    else (s.programHeader lesson r crc, none)

/-- The completion of a read of the read-back check (09 R141 stage 6, R143). -/
def State.checked (s : State) (j : Job) (r : PageRecord) (c : PageCheck) (result : FlashResult) : State × Option Reason :=
  let taken := c.take result r.serial
  if c.page < 2025 then (s.readBack r.place { taken with page := c.page + 1 }, none)
  else if taken.verdict r.crc then s.keep j r.serial
  else s.attemptFailed j r.serial r.place

/-! ### RECALL and EXPORT (09 R145, 04 R59, R60) -/

/-- Whether the feed takes export frames: FEED_UP with EXPORT_ABLE agreed (07 R118). -/
def Flc.exportReady (f : Flc) : Bool :=
  f.agreement == .feedUp && (f.result.map (·.exporting)).getD false

/-- Reads place page k into slot n (09 R145). -/
def State.loadPage (s : State) (n p : Nat) (c : PageCheck) : State :=
  s.issue (.read (placeBlock p c.page) (placePage c.page)) (.loading n c)

/-- The lesson of the page that a RECALL or EXPORT reads: the one that holds the record with the job's serial, which need not be the
one that its command named (04 R49; 05 R85; 07 R118). -/
def Lsc.lessonOf (l : Lsc) (q : Half) : Nat :=
  (holderOf l.lessons q).getD 0

/-- The head job tests the job reserve: with two slots FREE it takes the lowest-numbered and begins its load, otherwise it
waits (04 R59). The slot's content names the lesson and serial of the page that the job reads (04 R49). -/
def State.testReserve (s : State) (j : Job) (r : PageRecord) : State :=
  match s.spm.lowestFree with
  | some n =>
    if 2 ≤ s.spm.freeCount then
      ((s.withSpm (s.spm.take n .load (.storedPage (s.lsc.lessonOf r.serial) r.serial) (.stored []))).setHead { j with state := .running }).loadPage
        n r.place .start
    else s.setHead { j with state := .waitSlot }
  | none => s.setHead { j with state := .waitSlot }

/-- The record that a RECALL or EXPORT follows: the one with the serial fixed at acceptance (09 R138, R145). -/
def State.followed (s : State) (j : Job) : Option PageRecord :=
  j.serial.bind (recordWith s.lsc.lessons)

/-- Whether the lesson that holds a record is export-locked (09 R145). -/
def exportLocked (ls : List LessonRecord) (serial : Half) : Bool :=
  ((holderOf ls serial).map fun l => (lessonAt ls l).lock).getD false

/-- The run of a RECALL begins (09 R145). -/
def State.beginRecall (s : State) (j : Job) : State × Option Reason :=
  match s.followed j with
  | none => (s, some .noSuchPage)
  | some r => (s.testReserve j r, none)

/-- The run of an EXPORT begins (09 R145). -/
def State.beginExport (s : State) (j : Job) : State × Option Reason :=
  match s.followed j with
  | none => (s, some .noSuchPage)
  | some r =>
    if exportLocked s.lsc.lessons r.serial then (s, some .exportLocked)
    else if s.flc.exportReady then (s.testReserve j r, none)
    else (s, some .feedLost)

/-- A load has proved unsound: LOAD is removed, the record becomes DAMAGED, and in READY mode a catalogue write follows (09
R145). -/
def State.damaged (s : State) (j : Job) (n : Nat) (q : Half) : State × Option Reason :=
  let t := (s.quiet.withSpm (s.spm.remove n .load)).withLsc
    (s.quiet.lsc.withLessons (changeRecord s.lsc.lessons q fun r => { r with state := .damaged }))
  if s.lsc.mode = .readOnly then (t, some .pageDamaged) else t.jobWrite j

/-- A sound load of a RECALL: LOAD becomes PAGE and the page is shown (09 R145, 04 R55, 05 R85). -/
def State.recalled (s : State) (n : Nat) (q : Half) : State :=
  (s.quiet.withSpm (s.spm.succeed n .load .page)).showPage { slot := n, lesson := s.lsc.lessonOf q, serial := q }

/-- A sound load of an EXPORT: LOAD becomes EXPORT, and the slot is handed to the feed link controller, which ends the sending
at once when it does not take export frames (09 R145, 07 R118, 04 R58). -/
def State.handExport (s : State) (j : Job) (n : Nat) (q : Half) : State × Option Reason :=
  let t := s.quiet.withSpm (s.spm.replace n .load .exported)
  if s.flc.exportReady then
    let frame : ExportFrame := { slot := n, port := j.port, marker := j.marker, lesson := s.lsc.lessonOf q, serial := q }
    (t.withFlc { t.flc with exportFrame := some frame }, none)
  else (t.withSpm (t.spm.removeKind .exported), some .feedLost)

/-- A read page of a load goes into the slot's picture; a failed read gives no data (08 R123, 09 R145). -/
def Picture.addBytes (p : Picture) (k : Nat) (r : FlashResult) : Picture :=
  match p, r with
  | .stored bytes, .pass data => if k = 0 then .stored bytes else .stored (bytes ++ data)
  | q, _ => q

/-- The success of a load, by the job's kind (09 R145). -/
def State.loadSound (s : State) (j : Job) (n : Nat) (q : Half) : State × Option Reason :=
  match j.task with
  | .exportPage _ _ => s.handExport j n q
  | _ => (s.recalled n q, some .noReason)

/-- The completion of a read of a load (09 R145, 08 R129). -/
def State.loaded (s : State) (j : Job) (r : PageRecord) (n : Nat) (c : PageCheck) (result : FlashResult) :
    State × Option Reason :=
  let taken := c.take result r.serial
  let drawn := s.withSpm (s.spm.draw n fun p => p.addBytes c.page result)
  if c.page < 2025 then (drawn.loadPage n r.place { taken with page := c.page + 1 }, none)
  else if taken.verdict r.crc then drawn.loadSound j n r.serial
  else drawn.damaged j n r.serial

/-! ### Edits (09 R146 to R148) -/

/-- The saved settings record with the settings in force (08 Table 8-5, 09 R148). -/
def State.settingsInForce (s : State) : SavedSettings :=
  { classifier := s.tcl.table, edge := s.tsu.threshold, profiles := s.peu.profiles, glide := s.vwc.glide,
    mode := s.dou.pendingMode, marks := s.flc.marks, reachRoom := s.cpi.reachRoom, reachTether := s.cpi.reachTether,
    enablesPanel := s.cpi.panel.enables, enablesRoom := s.cpi.room.enables, enablesTether := s.cpi.tether.enables }

/-- OPEN_LESSON's effect on the table (09 R147). -/
def openedTable (ls : List LessonRecord) (l : Nat) : List LessonRecord :=
  ls.mapIdx fun i r =>
    if i = l then
      match r.state with
      | .empty => { r with state := .opened, name := [], pages := [] }
      | .closed => { r with state := .opened }
      | .opened => r
    else
      match r.state with
      | .opened => { r with state := .closed }
      | .empty => r
      | .closed => r

/-- CLOSE_LESSON's effect on a lesson (09 R147). -/
def LessonRecord.closed (r : LessonRecord) : LessonRecord :=
  match r.state with
  | .opened => { r with state := .closed }
  | .empty => r
  | .closed => r

/-- CLEAR_LESSON's effect on a lesson (09 R147). -/
def LessonRecord.cleared (r : LessonRecord) : LessonRecord :=
  if r.state = .empty then r else Config.emptyLesson

/-- NAME_LESSON's effect on a lesson (09 R147). -/
def LessonRecord.named (r : LessonRecord) (name : List Byte) : LessonRecord :=
  if r.state = .empty then r else { r with name := name }

/-- SET_LESSON_FLAGS's effect on a lesson (09 R147). -/
def LessonRecord.flagged (r : LessonRecord) (kept lock : Bool) : LessonRecord :=
  if r.state = .empty then r else { r with kept := kept, lock := lock }

/-- The effect of an edit on the lesson table, or the reason it fails (09 R146, R147). -/
def JobTask.edit (t : JobTask) (serial : Option Half) (ls : List LessonRecord) : Except Reason (List LessonRecord) :=
  match t with
  | .delete _ _ =>
    match serial.bind fun q => (holderOf ls q).map fun l => (q, l) with
    | none => .error .noSuchPage
    | some (q, l) => if (lessonAt ls l).kept then .error .lessonKept else .ok (removeRecord ls q)
  | .move _ _ target =>
    match serial.bind fun q => (holderOf ls q).map fun l => (q, l) with
    | none => .error .noSuchPage
    | some (q, l) => .ok (ls.modify l fun r => { r with pages := movePage r.pages q target })
  | .openLesson l => .ok (openedTable ls l)
  | .closeLesson l => .ok (ls.modify l LessonRecord.closed)
  | .clearLesson l => if (lessonAt ls l).kept then .error .lessonKept else .ok (ls.modify l LessonRecord.cleared)
  | .nameLesson l name => .ok (ls.modify l fun r => r.named name)
  | .setLessonFlags l kept lock => .ok (ls.modify l fun r => r.flagged kept lock)
  | .store _ _ => .ok ls
  | .recall _ _ => .ok ls
  | .exportPage _ _ => .ok ls
  | .saveSettings => .ok ls

/-- The effects of an edit are made; a catalogue write follows where the due flag is set (09 R148). -/
def State.edited (s : State) (j : Job) : State × Option Reason :=
  if s.lsc.due then s.jobWrite { j with state := .running } else (s, some .noReason)

/-- The run of an edit begins (09 R146 to R148). -/
def State.beginEdit (s : State) (j : Job) : State × Option Reason :=
  match j.task.edit j.serial s.lsc.lessons with
  | .error r => (s, some r)
  | .ok ls => (s.withLsc (s.lsc.editLessons ls)).edited j

/-- The run of a SAVE_SETTINGS begins (09 R148). -/
def State.beginSave (s : State) (j : Job) : State × Option Reason :=
  (s.withLsc { s.lsc with saved := s.settingsInForce, due := true }).edited j

/-! ### The head of the queue (09 R137) -/

/-- The run of the head job begins. A job whose kind changes the table fails at once in READ_ONLY mode, and a STORE that ends
this way has its pin removed (09 R137, R144). -/
def State.beginRun (s : State) (j : Job) : State × Option Reason :=
  if s.lsc.mode = .readOnly ∧ j.task.changes then (s.dropPin j, some .storeMedia)
  else
    match j.task with
    | .store lesson c => s.beginStore j lesson c
    | .recall _ _ => s.beginRecall j
    | .exportPage _ _ => s.beginExport j
    | .saveSettings => s.beginSave j
    | _ => s.beginEdit j

/-- The head begins its run; while heads end at this arrival, the next ones do (09 R137). `fuel` is the queue's length. -/
def State.advance : Nat → State → State
  | 0, s => s
  | fuel + 1, s =>
    match s.lsc.queue with
    | [] => s
    | j :: _ =>
      match s.beginRun j with
      | (t, none) => t
      | (t, some r) => State.advance fuel (t.finishHead r)

/-- The next head begins its run. -/
def State.runNext (s : State) : State :=
  State.advance s.lsc.queue.length s

/-- Whether the LSC is making the catalogue write that follows RESTART, or any other flash work (09 R137). -/
def Lsc.resting (l : Lsc) : Bool :=
  l.activity == .idle

/-- The head job ends with a reason: its record is given and the next head begins (09 R137, R149). -/
def State.endHead (s : State) (r : Reason) : State :=
  (s.finishHead r).runNext

/-- What follows the work of the head job at this arrival. -/
def State.settleHead (x : State × Option Reason) : State :=
  match x.2 with
  | none => x.1
  | some r => x.1.endHead r

/-- An accepted job joins the tail of the queue, and begins at once when it is the head and no restart write is being made (09
R137). -/
def State.enqueue (s : State) (j : Job) : State :=
  if s.lsc.queue.isEmpty && s.lsc.resting then (s.withQueue [j]).runNext
  else s.withQueue (s.lsc.queue ++ [j])

/-! ### Recovery and hand-over (08 R133, R134) -/

/-- The saved settings reach the blocks that apply them; the window is worked out anew, the raster is started and the first
base offer is sent (08 R133). The note list is latched here, so that notes written before the hand-over belong to the first agreement
(07 R103, R120; DEDUCED, log 48). -/
def State.handOver (s : State) : State :=
  let v := s.lsc.saved
  let applied := ((((((s.withTcl { s.tcl with table := v.classifier }).withTsu { s.tsu with threshold := v.edge }).withPeu
    { s.peu with profiles := v.profiles }).withVwc { s.vwc with glide := v.glide }).withDou
    { s.dou with mode := v.mode, pendingMode := v.mode, raster := .restarting, stale := s.waitingFrameStarts }).withFlc
    { s.flc with marks := v.marks, started := true }).withCpi
    { s.cpi with reachRoom := v.reachRoom, reachTether := v.reachTether, panel := s.cpi.panel.enable v.enablesPanel,
                 room := s.cpi.room.enable v.enablesRoom, tether := s.cpi.tether.enable v.enablesTether }
  applied.rework.beginAgreement

/-- What the LSC takes from the adopted image, or on a blank store (08 R133). -/
def Lsc.adopt (l : Lsc) (best : Option (Nat × CatalogueImage)) : Lsc :=
  match best with
  | some (block, i) =>
    { l with lessons := i.lessons, retired := i.retired, nextSerial := i.nextSerial, saved := i.saved, catSeq := i.sequence,
             lastBlock := block, due := false }
  | none =>
    { l with lessons := Config.blankLessons, retired := [], nextSerial := 0, saved := Config.factorySettings, catSeq := 0,
             lastBlock := 63, due := false }

/-- Recovery ends in READY mode (08 R134). -/
def State.ready (s : State) : State :=
  (s.quiet.withLsc { s.quiet.lsc with mode := .ready }).raise .storeReady

/-- The records in WRITING state are removed, with a catalogue write when there is any (08 R134). -/
def State.dropUnfinished (s : State) : State :=
  if (recordsOf s.lsc.lessons).any (·.state == .writing) then
    let dropped := (s.withLsc (s.lsc.withLessons (dropWriting s.lsc.lessons))).raise .pageDroppedAtStart
    match dropped.beginWrite .recovery with
    | some t => t
    | none => dropped.readOnly
  else s.ready

/-- The end of the reading of the catalogue area: adoption or a blank store, the hand-over, the rest of the recovery (08 R133,
R134). -/
def State.recovered (s : State) (best : Option (Nat × CatalogueImage)) : State :=
  let handed := (s.quiet.withLsc (s.quiet.lsc.adopt best)).handOver
  (match best with
   | none => handed.raise .storeBlank
   | some _ => handed).dropUnfinished.servePages

/-- The completion of a read of the catalogue area (08 R133). -/
def State.recovering (s : State) (r : RecoveryRead) (result : FlashResult) : State :=
  match r.step result with
  | .readsOn next => s.issue (.read next.block next.page) (.recovering next)
  | .ended best => s.recovered best

/-! ### The completion of a flash operation (08 R123) -/

/-- A job's catalogue write has passed: how the job goes on (09 R140, R141, R143, R145, R148). -/
def State.jobWritten (s : State) (j : Job) : State × Option Reason :=
  match j.task, j.stage with
  | .store _ _, .record =>
    match s.followed j with
    | some r => ((s.setHead { j with stage := .erase }).eraseBlock r.place 0, none)
    | none => (s, some .storeMedia)
  | .store _ _, .ending r => (s, some r)
  | .recall _ _, _ => (s, some .pageDamaged)
  | .exportPage _ _, _ => (s, some .pageDamaged)
  | _, _ => (s, some .noReason)

/-- A catalogue write has passed (08 R131, R134, R135). -/
def State.writePassed (s : State) (owner : WriteOwner) : State :=
  match owner with
  | .recovery => s.ready
  | .afterRestart => s.runNext
  | .job =>
    match s.lsc.queue with
    | [] => s
    | j :: _ => State.settleHead (s.jobWritten j)

/-- A catalogue write has failed, after the store has become READ_ONLY (08 R131, R134, R135). -/
def State.writeFailed (s : State) (owner : WriteOwner) : State :=
  match owner with
  | .recovery => s
  | .afterRestart => s.runNext
  | .job =>
    match s.lsc.queue with
    | [] => s
    | j :: _ => (s.writeLost j).1.endHead (s.writeLost j).2

/-- The completion of an operation of a catalogue write (08 R131). -/
def State.writing (s : State) (w : CatalogueWrite) (result : FlashResult) : State :=
  match w.step result with
  | .goesOn op next => s.issue op (.writing next)
  | .passed => (s.written w.block).writePassed w.owner
  | .failed =>
    if w.attempt < 4 then
      match s.attempt w.owner w.image (w.attempt + 1) (nextBlock w.block) with
      | some t => t
      | none => s.readOnly.writeFailed w.owner
    else s.readOnly.writeFailed w.owner

/-- The completion of an operation of the running job on its place (09 R141, R145). -/
def State.onPlace (s : State) (result : FlashResult) (j : Job) (r : PageRecord) : State × Option Reason :=
  match s.lsc.activity, j.task with
  | .erasing k, .store _ c => s.erased j c r k result
  | .programming k crc, .store lesson c => s.programmed j lesson c r k crc result
  | .readingBack c, .store _ _ => s.checked j r c result
  | .loading n c, _ => s.loaded j r n c result
  | _, _ => (s, none)

/-- The completion of the flash operation in progress, by what it belongs to (08 R123). -/
def State.flashDone (s : State) (result : FlashResult) : State :=
  match s.lsc.activity with
  | .idle => s
  | .recovering r => s.recovering r result
  | .writing w => s.writing w result
  | _ =>
    match s.lsc.queue with
    | [] => s
    | j :: _ =>
      match s.followed j with
      | none => s
      | some r => State.settleHead (s.onPlace result j r)

end Sys2Proof.Machine
end

