-- ==== Sys2Proof/Machine/FeedLink.lean ====
section
/-! DEFINITION. The feed link's frames (07 R109 to R118): leaving FEED_UP, the start of a feed frame, production, sending, holds
and cuts, and the end of an export frame's sending. -/

namespace Sys2Proof.Machine

/-! ### The end of an export frame's sending (07 R118) -/

/-- The sending of the export frame ends: EXPORT is removed, the EXPORT job's record is given and the job leaves the queue (07
R118, 04 R58). -/
def State.endExport (s : State) (r : Reason) : State :=
  match s.flc.exportFrame with
  | none => s
  | some _ =>
    ((s.withFlc { s.flc with exportFrame := none }).withSpm (s.spm.removeKind .exported)).endHead r

/-! ### Leaving FEED_UP (07 R117) -/

/-- Counts a frame in flight as cut when the feed leaves FEED_UP, unless it had already been cut (07 R117). -/
def State.countDropped (s : State) : State :=
  match s.flc.frame with
  | none => s
  | some f => if f.cut then s else s.count .feedFramesCut

/-- The FLC with the effects of leaving FEED_UP: nothing in flight, the buffer empty, timers stopped, nothing due, no
agreement result (07 R101, R117). -/
def Flc.left (f : Flc) (a : Agreement) : Flc :=
  { f with agreement := a, result := none, frame := none, buffer := [], intervalTimer := none, allowanceTimer := none,
           due := false }

/-- The feed leaves FEED_UP for another agreement state (07 R117). -/
def State.leaveUp (s : State) (a : Agreement) : State :=
  let dropped := (s.countDropped.withFlc (s.countDropped.flc.left a)).withSpm (s.countDropped.spm.removeKind .feed)
  dropped.endExport .feedLost

/-- A base offer with a fault brings the feed to FEED_DOWN (07 R109). -/
def State.feedFault (s : State) : State :=
  let t := if s.flc.agreement = .feedUp then s.leaveUp .feedDown else s
  (t.withFlc { t.flc with agreement := .feedDown, pageTimer := none, result := none }).raise .feedDown

/-- A remote restart (07 R109). -/
def State.remoteRestart (s : State) (o : BaseOffer) : State :=
  let t := (s.leaveUp .ackSeen).raise .feedRemoteRestart
  (t.withFlc { t.flc.freshAgreement with agreement := .ackSeen }).takeOffer o

/-- A base offer in ACK_SEEN without fault (07 R104). -/
def State.offerAgain (s : State) (o : BaseOffer) : State :=
  if o.ack then (s.withFlc { s.flc with partner := some o }).baseComplete else s.takeOffer o

/-- A base offer from the bridge (07 R104, R105, R109). -/
def State.baseOffer (s : State) (o : BaseOffer) : State :=
  match s.flc.agreement with
  | .feedDown => s
  | .feedFailed => s
  | .offering => if o.fault = .noFault then s.takeOffer o else s.feedFault
  | .noteExchange => if o.fault = .noFault then s.takeOffer o else s.feedFault
  | .ackSeen => if o.fault = .noFault then s.offerAgain o else s.feedFault
  | .feedUp =>
    if o.fault = .noFault then (if o.restart then s.remoteRestart o else s) else s.feedFault

/-- A note page from the bridge (07 R104, R105, R109). -/
def State.notePage (s : State) (p : NotePage) : State :=
  match s.flc.agreement with
  | .noteExchange => if p.toggle = s.flc.bridgeToggle then s.repeatNote else s.newNote p
  | .offering => s
  | .ackSeen => s
  | .feedUp => s
  | .feedDown => s
  | .feedFailed => s

/-- The expiry of the page timer (07 R108). -/
def State.pageExpired (s : State) : State :=
  let t := s.withFlc { s.flc with restartCount := s.flc.restartCount + 1 }
  if s.flc.restartCount + 1 < 8 then t.beginAgreement
  else (t.withFlc { t.flc with agreement := .feedFailed, pageTimer := none, result := none }).raise .feedFailed

/-! ### Feed frames (07 R110 to R113) -/

/-- The source region of a live feed frame (07 R112). -/
def feedRegion (crop : Bool) (w : Window) : Rect :=
  if crop then { x0 := w.x0, y0 := w.y0, w := w.ww, h := w.wh } else { x0 := 0, y0 := 0, w := 3840, h := 2880 }

/-- A live feed frame at its start (07 R111, R112). -/
def liveFrame (r : AgreementResult) (m : FeedMarks) (w : Window) (slot frame : Nat) : FeedFrame :=
  let size := feedFormat r.format
  let src := feedSource (feedRegion r.crop w) size.1 size.2.1
  { kind := .live frame, slot := slot, width := size.1, height := size.2.1, x0 := src.x0, y0 := src.y0,
    sx := src.w * 65536 / size.1, sy := src.h * 65536 / size.2.1, marks := m, produced := 0, sent := 0, stopped := false,
    sending := false, cut := false }

/-- An export frame at its start (07 R118). -/
def exportedFrame (m : FeedMarks) (e : ExportFrame) : FeedFrame :=
  { kind := .exported e.lesson e.serial, slot := e.slot, width := 1920, height := 1440, x0 := 0, y0 := 0, sx := 65536,
    sy := 65536, marks := m, produced := 0, sent := 0, stopped := false, sending := false, cut := false }

/-- A frame is in flight: the interval and allowance timers start, the due flag is cleared (07 R110, R111, R116). -/
def State.launch (s : State) (r : AgreementResult) (fr : FeedFrame) : Flc :=
  { s.flc with frame := some fr, buffer := [], intervalTimer := s.startTimer r.interval .intervalTimerExpiry,
               allowanceTimer := s.startTimer r.allowance .allowanceTimerExpiry, due := false }

/-- The LATEST slot with its live frame, when that is newer than the last fed (07 R111). -/
def State.newerFrame (s : State) : Option (Nat × Nat) :=
  match s.spm.find .latest, s.spm.latestFrame with
  | some n, some f => if s.flc.lastFed < f then some (n, f) else none
  | _, _ => none

/-- A feed frame starts when all that R111 asks for holds: a waiting export frame first, else a live frame (07 R111). -/
def State.startFeedFrame (s : State) : State :=
  match s.flc.agreement, s.flc.result, s.flc.frame, s.flc.due with
  | .feedUp, some r, none, true =>
    match s.flc.exportFrame, s.newerFrame with
    | some e, _ => s.withFlc (s.launch r (exportedFrame s.flc.marks e))
    | none, some (n, f) =>
      (s.withFlc { s.launch r (liveFrame r s.flc.marks s.vwc.window n f) with lastFed := f }).withSpm (s.spm.place n .feed)
    | none, none => s
  | _, _, _, _ => s

/-- Whether production takes the next line: the frame is not cut, a line is left, the marks do not stop it (07 R113). -/
def FeedFrame.produces (f : FeedFrame) : Bool :=
  !f.cut && !f.stopped && decide (f.produced < f.height)

/-- The frame with one more line produced and `occupancy` lines in the buffer: the high mark stops production, the start mark
or the last line begins sending (07 R113). -/
def FeedFrame.afterProduced (f : FeedFrame) (occupancy : Nat) : FeedFrame :=
  { f with produced := f.produced + 1,
           stopped := decide (f.marks.high ≤ occupancy),
           sending := f.sending || decide (f.marks.start ≤ occupancy) || decide (f.produced + 1 = f.height) }

/-- The feed scaler produces the next line; the last line of a live frame removes FEED (07 R113). -/
def State.produceLine (s : State) : State :=
  match s.flc.frame with
  | none => s
  | some f =>
    if f.produces then
      let made := s.withFlc { s.flc with
        buffer := s.flc.buffer ++ [f.line (s.spm.slot f.slot).picture f.produced],
        frame := some (f.afterProduced (s.flc.buffer.length + 1)) }
      if f.produced + 1 = f.height then made.withSpm (made.spm.removeKind .feed) else made
    else s

/-! ### Sending (07 R114) -/

/-- The FRAME_START packet of a frame (07 R114, R118). -/
def FeedFrame.startPacket (f : FeedFrame) : FeedPacket :=
  .frameStart f.kind f.width f.height

/-- Sends FRAME_START where the frame has sent nothing yet (07 R114, R116). -/
def State.sendStart (s : State) (f : FeedFrame) : State :=
  if f.sent = 0 then s.sendPacket f.startPacket else s

/-- The frame with its oldest line sent and `occupancy` lines left: stopped production resumes at the low mark (07 R113). -/
def FeedFrame.afterSent (f : FeedFrame) (occupancy : Nat) : FeedFrame :=
  { f with sent := f.sent + 1, stopped := f.stopped && decide (f.marks.low < occupancy) }

/-- The frame is no longer in flight, and its timer stops (07 R114, R116). -/
def State.frameOver (s : State) : State :=
  s.withFlc { s.flc with frame := none, buffer := [], allowanceTimer := none }

/-- The export frame's sending ends with the frame in flight, when that is an export frame (07 R118). -/
def State.endKind (s : State) (k : FeedKind) (r : Reason) : State :=
  match k with
  | .live _ => s
  | .exported _ _ => s.endExport r

/-- The oldest line is sent; the last line goes with FRAME_END, and the frame is fully sent (07 R114). -/
def State.sendLine (s : State) (f : FeedFrame) (l : FeedLine) (rest : List FeedLine) : State :=
  let sent := ((s.sendStart f).withFlc { s.flc with buffer := rest, frame := some (f.afterSent rest.length) }).sendPacket
    (.feedLine l)
  if f.sent + 1 = f.height then
    ((sent.sendPacket (.frameEnd false)).frameOver.count .feedFramesSent).endKind f.kind .noReason
  else sent

/-- A line leaves the buffer where sending has begun, a line is there and no hold is in force (07 R114). -/
def State.lineGoes (s : State) : State :=
  match s.flc.frame, s.flc.buffer with
  | some f, l :: rest => if s.flc.lineReady then s.sendLine f l rest else s
  | _, _ => s

/-! ### Cuts (07 R116) -/

/-- A waiting FRAME_END packet with CUT is sent when no hold is in force and the link takes a packet of the feed link controller, with
FRAME_START before it when nothing of the frame has been sent; the frame ends (07 R116, R118; 10 R155; log 23). -/
def State.sendCutEnd (s : State) : State :=
  match s.flc.frame with
  | none => s
  | some f =>
    if s.flc.cutReady && s.cpi.linkTakesFeed then
      ((s.sendStart f).sendPacket (.frameEnd true)).frameOver.endKind f.kind .feedCut
    else s

/-- The allowance expires: the frame is cut (07 R116). -/
def State.cutFrame (s : State) : State :=
  match s.flc.frame with
  | none => s
  | some f =>
    (((s.withFlc { s.flc with buffer := [], frame := some { f with cut := true }, allowanceTimer := none }).withSpm
      (s.spm.removeKind .feed)).count .feedFramesCut).sendCutEnd

/-- What the feed link controller has waiting goes as the link takes it: the agreement pages, then a FRAME_END with CUT (10 R155; log
23). -/
def State.serveFeed (s : State) : State :=
  s.servePages.sendCutEnd

/-- The hold ends: sending resumes, or a waiting FRAME_END goes (07 R115, R116). -/
def State.releaseHold (s : State) : State :=
  (s.withFlc { s.flc with hold := none }).sendCutEnd

/-- A HOLD packet (07 R115). -/
def State.takeHold (s : State) (d : Half) : State :=
  if d = 0 then s.releaseHold else s.withFlc { s.flc with hold := s.startTimer (max 16 d.toNat) .holdTimerExpiry }

/-- The expiry of the interval timer, which is started again with one interval while a frame is in flight (07 R110). -/
def State.intervalExpired (s : State) : State :=
  match s.flc.frame with
  | none => s.withFlc { s.flc with due := true, intervalTimer := none }
  | some _ =>
    (s.withFlc { s.flc with
      due := true,
      intervalTimer := s.flc.intervalTimer.bind fun t => s.startTimer t.duration .intervalTimerExpiry }).count .feedFramesPassedOver

end Sys2Proof.Machine
end

