-- ==== Sys2Proof/Machine/Feed.lean ====
section
/-! DEFINITION. The feed family (07): the bridge's packets, the feed timers, the feed frame's arrivals and what the feed commands do. -/

namespace Sys2Proof.Machine

/-! ### Shared operations -/

/-- A base offer from the bridge is taken (07 R104, R109). Before the start-up hand-over it is discarded (07 R120). -/
def State.offerArrives (s : State) (offer : BaseOffer) : State :=
  if s.flc.started then (s.baseOffer offer).servePages else s

/-- A note page from the bridge is taken (07 R105). Before the start-up hand-over it is discarded (07 R120). -/
def State.noteArrives (s : State) (page : NotePage) : State :=
  if s.flc.started then (s.notePage page).servePages else s

/-- The feed link controller takes a packet from the bridge, by its kind (10 R155, Table 10-6). The frame kinds go from the part to
the bridge alone (07, packet table): from the bridge they have no effect, and neither has a payload that holds no value of its
kind (log 63). -/
def State.takeFeedPacket (s : State) (kind : Byte) (payload : List Byte) : State :=
  if kind = 8 then (Config.offer.read payload).elim s s.offerArrives
  else if kind = 9 then (Config.note.read payload).elim s s.noteArrives
  else if kind = 10 then (Config.hold.read payload).elim s s.takeHold
  else s

/-- FEED_RESTART carried out (07 R119). -/
def State.restartFeed (s : State) : State :=
  let t := if s.flc.agreement = .feedUp then s.leaveUp .offering else s
  (t.withFlc { t.flc with hold := none, buffer := [], restartCount := 0 }).beginAgreement

/-- The feed frame in flight as READ_FEED reports it (07 R121). -/
def FeedFrame.report (f : FeedFrame) : FrameReport :=
  { kind := f.kind, produced := f.produced, sent := f.sent, cut := f.cut }

/-- Whether a feed frame is the export frame (07 R121). -/
def FeedFrame.isExport (f : FeedFrame) : Bool :=
  match f.kind with
  | .live _ => false
  | .exported _ _ => true

/-- The export frame as READ_FEED reports it (07 R121). -/
def Flc.exportReport (f : Flc) (e : ExportFrame) : ExportReport :=
  { inFlight := (f.frame.map FeedFrame.isExport).getD false, lesson := e.lesson, serial := e.serial, port := e.port,
    marker := e.marker }

/-- What READ_FEED reports. The hold units remaining depend on the time that has passed: between 1 and the hold's units, a
free value (07 R121; log 14). -/
def Flc.report (f : Flc) (draw : Nat) : FeedReport :=
  { agreement := f.agreement, restartCount := f.restartCount, partner := f.partner, result := f.result,
    interval := f.result.map AgreementResult.interval, notes := f.notes, marks := f.marks, occupancy := f.buffer.length,
    holdLeft := f.hold.map fun t => 1 + Config.holdElapsed draw % t.duration, frame := f.frame.map FeedFrame.report,
    exportFrame := f.exportFrame.map f.exportReport, lastFed := f.lastFed, due := f.due }

/-! ### Meanings -/

/-- BASE_OFFER (07 R104, R109, R120). -/
def execBaseOffer (offer : BaseOffer) (s : State) : Host.Outcome State Fault Refusal :=
  arrive s fun s => s.offerArrives offer

/-- NOTE_PAGE (07 R105, R120). -/
def execNotePage (page : NotePage) (s : State) : Host.Outcome State Fault Refusal :=
  arrive s fun s => s.noteArrives page

/-- HOLD (07 R115). -/
def execHold (duration : Half) (s : State) : Host.Outcome State Fault Refusal :=
  arrive s fun s => s.takeHold duration

/-- PAGE_TIMER_EXPIRY (07 R108). -/
def execPageTimerExpiry (s : State) : Host.Outcome State Fault Refusal :=
  arrive s fun s => s.expires s.flc.pageTimer (fun x => s.withFlc { s.flc with pageTimer := x }) s.pageExpired.servePages

/-- INTERVAL_TIMER_EXPIRY (07 R110). -/
def execIntervalTimerExpiry (s : State) : Host.Outcome State Fault Refusal :=
  arrive s fun s => s.expires s.flc.intervalTimer (fun x => s.withFlc { s.flc with intervalTimer := x }) s.intervalExpired

/-- ALLOWANCE_TIMER_EXPIRY (07 R116). -/
def execAllowanceTimerExpiry (s : State) : Host.Outcome State Fault Refusal :=
  arrive s fun s => s.expires s.flc.allowanceTimer (fun x => s.withFlc { s.flc with allowanceTimer := x }) s.cutFrame

/-- HOLD_TIMER_EXPIRY (07 R115). -/
def execHoldTimerExpiry (s : State) : Host.Outcome State Fault Refusal :=
  arrive s fun s => s.expires s.flc.hold (fun x => s.withFlc { s.flc with hold := x }) s.releaseHold

/-- FEED_FRAME_START (07 R111; log 4). -/
def execFeedFrameStart (s : State) : Host.Outcome State Fault Refusal :=
  arrive s State.startFeedFrame

/-- FEED_LINE_PRODUCED (07 R113; log 4). -/
def execFeedLineProduced (s : State) : Host.Outcome State Fault Refusal :=
  arrive s State.produceLine

/-- FEED_LINE_SENT (07 R114; log 4). The link carries one packet at a time (10 R155; log 40). -/
def execFeedLineSent (s : State) : Host.Outcome State Fault Refusal :=
  arrive s fun s => if s.cpi.tetherTx.isNone then s.lineGoes else s

/-- SET_FEED_NOTES (07 R103). -/
def workSetFeedNotes (_h : CmdHeader) (args : List Byte) : State → State × Answer :=
  parsed (notesArgs args) fun l s =>
    edited (s.withFlc { s.flc with notes := l.map (·.1) }) (l.any (·.2))

/-- SET_FEED_MARKS (07 R113). -/
def workSetFeedMarks (_h : CmdHeader) (args : List Byte) : State → State × Answer :=
  parsed (threeBytes args) fun a s =>
    let m := marksArg a.1 a.2.1 a.2.2
    edited (s.withFlc { s.flc with marks := m.1 }) m.2

/-- FEED_RESTART (07 R119). -/
def workFeedRestart (_h : CmdHeader) (args : List Byte) : State → State × Answer :=
  parsed (noArgs args) fun _ s =>
    if s.flc.started then edited s.restartFeed false else (s, refuse .busy)

/-- READ_FEED (07 R121). The free value that stands for the elapsed part of a hold is drawn anew (log 14). -/
def workReadFeed (_h : CmdHeader) (args : List Byte) : State → State × Answer :=
  parsed (noArgs args) fun _ s =>
    (s.withFreeCount (s.freeCount + 1), doneWith false (.feed (s.flc.report s.freeCount)))

end Sys2Proof.Machine
end

