-- ==== Sys2Proof/Machine/Output.lean ====
section
/-! DEFINITION. The projector output family (06): output frame start, output mode, output restart, blank, READ_OUTPUT. -/

namespace Sys2Proof.Machine

/-! ### Shared operations -/

/-- The slot that a latch names (06 R93). -/
def Latch.slot : Latch → Option Nat
  | .fill _ => none
  | .liveWindow n _ => some n
  | .pageFit n => some n

/-- The slot of a pane's latch, if it has one. -/
def latchSlot (l : Option Latch) : Option Nat :=
  l.bind Latch.slot

/-- The source of a live pane (06 Table 6-5). -/
def State.liveLatch (s : State) : Latch :=
  match s.vwc.freeze, s.spm.find .latest with
  | some n, _ => .liveWindow n s.vwc.window
  | none, some n => .liveWindow n s.vwc.window
  | none, none => .fill .grey

/-- The source of the left or single pane (06 Tables 6-4, 6-5). -/
def State.leftLatch (s : State) : Latch :=
  if s.dou.blank then .fill .black
  else
    match s.vwc.layout, s.vwc.page with
    | .single, some p => .pageFit p.slot
    | .single, none => s.liveLatch
    | .split, _ => s.liveLatch

/-- The source of the right pane, which only SPLIT layout has (06 Tables 6-4, 6-5). -/
def State.rightLatch (s : State) : Option Latch :=
  match s.vwc.layout with
  | .single => none
  | .split =>
    if s.dou.blank then some (.fill .black)
    else
      match s.vwc.page with
      | some p => some (.pageFit p.slot)
      | none => some (.fill .white)

/-- The panes are latched and the display holders moved to match (06 R93, 04 R53). -/
def State.latchPanes (s : State) : State :=
  (s.withDou { s.dou with left := some s.leftLatch, right := s.rightLatch, raster := .running }).withSpm
    ((s.spm.move .displayLeft s.leftLatch.slot).move .displayRight (latchSlot s.rightLatch))

/-- An output frame start: glide step, glide watch, latches (05 R78, R79; 06 R87, R93). -/
def State.outputFrame (s : State) : State :=
  s.glide.testWatch.latchPanes

/-- An accepted OUTPUT_RESTART (06 R89). The output frame starts that wait are the old raster's, and do not happen (06 R90; log 50). -/
def State.restartOutput (s : State) : State :=
  (((s.withDou { s.dou with
      left := none, right := none, mode := s.dou.pendingMode, raster := .restarting, stale := s.waitingFrameStarts }).withSpm
    ((s.spm.removeKind .displayLeft).removeKind .displayRight)).rework).raise .outputRestarted

/-- The fit of a PAGE_FIT latch in a pane of pw x ph (06 R97, R100). -/
def Latch.fit (l : Latch) (pw ph : Nat) : Option Fit :=
  match l with
  | .pageFit _ => some (storedPageFit pw ph)
  | .fill _ => none
  | .liveWindow _ _ => none

/-- What READ_OUTPUT reports (06 R100). -/
def Dou.report (d : Dou) : OutputReport :=
  { mode := d.mode, pending := d.pendingMode, raster := d.raster, blank := d.blank, left := d.left, right := d.right,
    leftFit := d.left.bind fun l => l.fit d.paneWidth (rasterSize d.mode).2,
    rightFit := d.right.bind fun l => l.fit d.paneWidth (rasterSize d.mode).2 }

/-- An output frame start arrives (06 R87, R90, R93): that of a raster that has been stopped meanwhile does not happen (log 50); a STOPPED
raster starts no output frame (log 3). -/
def State.frameStarts (s : State) : State :=
  if 0 < s.dou.stale then s.withDou { s.dou with stale := s.dou.stale - 1 }
  else if s.dou.raster = .stopped then s
  else s.outputFrame

/-! ### Meanings -/

/-- OUTPUT_FRAME_START (06 R93). -/
def execOutputFrameStart (s : State) : Host.Outcome State Fault Refusal :=
  arrive s State.frameStarts

/-- SET_OUTPUT_MODE (06 R88). -/
def workSetOutputMode (_h : CmdHeader) (args : List Byte) : State → State × Answer :=
  parsed (oneByte args) fun b s =>
    let m := clampTop 3 b.toNat
    (s.withDou { s.dou with pendingMode := m.1 }, doneWith m.2 (.outputModes m.1 s.dou.mode))

/-- OUTPUT_RESTART (06 R89). -/
def workOutputRestart (_h : CmdHeader) (args : List Byte) : State → State × Answer :=
  parsed (noArgs args) fun _ s =>
    if s.dou.raster = .stopped then (s, refuse .busy) else edited s.restartOutput false

/-- BLANK (06 R98). -/
def workBlank (_h : CmdHeader) (args : List Byte) : State → State × Answer :=
  parsed (oneByte args) fun b s =>
    edited (s.withDou { s.dou with blank := (blankArg b).1 }) (blankArg b).2

/-- READ_OUTPUT (06 R100). -/
def workReadOutput (_h : CmdHeader) (args : List Byte) : State → State × Answer :=
  parsed (noArgs args) fun _ s => reported s (.output s.dou.report)

end Sys2Proof.Machine
end

