-- ==== Sys2Proof/Machine/PortCommands.lean ====
section
/-! DEFINITION. The ports family (10): the reading of a reply by the Panel, ends of sending, and what the commands of the command port interface do. -/

namespace Sys2Proof.Machine

/-! ### Shared operations -/

/-- Changes one port's own state. -/
def State.changePort (s : State) (p : Port) (f : PortState → PortState) : State :=
  s.withCpi (s.cpi.setPort p (f (s.cpi.port p)))

/-- A READ transaction of the Panel port that clocks out `clocked` bytes: a reply read whole leaves the port (10 R153). -/
def State.panelRead (s : State) (clocked : Nat) : State :=
  let shown := s.emit (.panelDataOut (s.cpi.panel.dataOut.take clocked))
  if s.cpi.panel.owed.isSome ∧ s.cpi.panel.dataOut.length ≤ clocked then shown.changePort .panel PortState.replyLeaves
  else shown

/-- The sending of the Room transmitter ends (10 R156, R158). -/
def State.roomSent (s : State) : State :=
  match s.cpi.roomTx with
  | none => s
  | some k => s.withCpi { s.cpi with room := s.cpi.room.ended k, roomTx := none }

/-- The sending of a command-channel packet on the tether link ends, and the link is free for what the feed link controller has
waiting, in its turn (10 R155, R156, R158). -/
def State.tetherSent (s : State) : State :=
  match s.cpi.tetherTx with
  | none => s
  | some k => (s.withCpi { s.cpi with tether := s.cpi.tether.ended k, tetherTx := none }).serveFeed

/-- The records that READ_COMPLETIONS carries: up to 8 on the Panel port, none on the others (10 R158). -/
def Cpi.readable (c : Cpi) (p : Port) : List Completion :=
  match p with
  | .panel => c.panel.completions.take 8
  | .room => []
  | .tether => []

/-- What READ_COMPLETIONS leaves: the records it carries are removed, the overflow flag is cleared (10 R158). -/
def State.completionsRead (s : State) (p : Port) : State :=
  s.changePort p fun x =>
    { x with completions := x.completions.drop (s.cpi.readable p).length, overflow := false }

/-- Replaces a reach window of the Room port or of the Tether port (10 R157). -/
def State.setReach (s : State) (room : Bool) (i : Nat) (w : ReachWindow) : State :=
  if room then s.withCpi { s.cpi with reachRoom := s.cpi.reachRoom.set i w }
  else s.withCpi { s.cpi with reachTether := s.cpi.reachTether.set i w }

/-- The figures that READ_STATUS gathers (10, after Table 10-3). -/
def State.status (s : State) : StatusReport :=
  { intake := s.siu.intake, frameNumber := s.siu.frameNumber, latestFrame := s.spm.latestFrame, count := s.tcl.count,
    source := s.peu.source, latestSlot := s.spm.find .latest, free := s.spm.freeCount, gen := s.vwc.gen,
    freeze := s.vwc.freeze, mode := s.dou.mode, pending := s.dou.pendingMode, raster := s.dou.raster,
    agreement := s.flc.agreement, storeMode := s.lsc.mode, current := currentLesson s.lsc.lessons }

/-! ### Meanings -/

/-- ROOM_FRAME_SENT (10 R158). With nothing being sent no sending ends (log 3; log 57). -/
def execRoomFrameSent (s : State) : Host.Outcome State Fault Refusal :=
  arrive s State.roomSent

/-- TETHER_PACKET_SENT (10 R155, R158). With nothing being sent no sending ends (log 3; log 57). -/
def execTetherPacketSent (s : State) : Host.Outcome State Fault Refusal :=
  arrive s State.tetherSent

/-- READ_STATUS (01 R16; 02 R23; 03 R37; 04 R65; 05 R86; 06 R100; 07 R121; 08 R136). -/
def workReadStatus (_h : CmdHeader) (args : List Byte) : State → State × Answer :=
  parsed (noArgs args) fun _ s => reported s (.status s.status)

/-- READ_COMPLETIONS (10 R158). -/
def workReadCompletions (h : CmdHeader) (args : List Byte) : State → State × Answer :=
  parsed (noArgs args) fun _ s =>
    (s.completionsRead h.port, doneWith false (.completions (s.cpi.readable h.port) (s.cpi.port h.port).overflow))

/-- READ_NOTICES (10 R159). The rule names the enables in the reply for the Panel port alone; the Room and Tether ports get theirs
as well (DEDUCED, log 61). -/
def workReadNotices (h : CmdHeader) (args : List Byte) : State → State × Answer :=
  parsed (noArgs args) fun _ s =>
    (s.changePort h.port fun x => { x with flags := 0 },
     doneWith false (.notices (s.cpi.port h.port).flags (s.cpi.port h.port).enables))

/-- SET_NOTICE_ENABLES (10 R159). -/
def workSetNoticeEnables (h : CmdHeader) (args : List Byte) : State → State × Answer :=
  parsed (oneQuad args) fun e s =>
    edited (s.changePort h.port fun x => x.enable (e &&& eventSet)) (e &&& eventSet != e)

/-- SET_REACH (10 R156, R157). -/
def workSetReach (h : CmdHeader) (args : List Byte) : State → State × Answer :=
  parsed (reachArgs args) fun a s =>
    if h.port = .panel then
      let port := reachPortArg a.1
      let i := clampTop 3 a.2.1.toNat
      let w := reachWindowArg a.2.2.1 a.2.2.2.1 a.2.2.2.2.1 a.2.2.2.2.2
      edited (s.setReach port.1 i.1 w.1) (port.2 || i.2 || w.2)
    else (s, refuse .notPanel)

/-- READ_REACH (10 R157). -/
def workReadReach (_h : CmdHeader) (args : List Byte) : State → State × Answer :=
  parsed (noArgs args) fun _ s => reported s (.reach s.cpi.reachRoom s.cpi.reachTether)

/-- READ_COUNTERS (10 R160). -/
def workReadCounters (_h : CmdHeader) (args : List Byte) : State → State × Answer :=
  parsed (noArgs args) fun _ s => reported s (.counters s.cpi.counters s.cpi.halfFlags s.cpi.halfMasks)

/-- CLEAR_COUNTERS (10 R160). -/
def workClearCounters (_h : CmdHeader) (args : List Byte) : State → State × Answer :=
  parsed (noArgs args) fun _ s =>
    edited (s.withCpi { s.cpi with counters := List.replicate 8 0, halfFlags := 0 }) false

/-- SET_HALF_MASKS (10 R160). -/
def workSetHalfMasks (_h : CmdHeader) (args : List Byte) : State → State × Answer :=
  parsed (oneByte args) fun m s => edited (s.withCpi { s.cpi with halfMasks := m }) false

/-- UNKNOWN_COMMAND (10 R156). -/
def workUnknownCommand (_h : CmdHeader) (_args : List Byte) : State → State × Answer :=
  fun s => (s, refuse .unknownCommand)

end Sys2Proof.Machine
end

