-- ==== Sys2Proof/Machine/Power.lean ====
section
/-! DEFINITION. Start-up, loss of power, and RESTART with what it does to every block (00 section 1.9; 10 R161 and the rules it
names). -/

namespace Sys2Proof.Machine

/-! ### RESTART, block by block (10 R161) -/

/-- The SIU at RESTART: the frame in progress is abandoned (01 R2, R9). Its line count is 0 (DESIGN CHOICE, log 60). -/
def Siu.restarted : Siu :=
  { intake := .waiting, frameNumber := 0, timer := none, lines := 0 }

/-- The TSU at RESTART: the threshold is kept (01 R11, R12, R15). What its frame copy holds until the next frame start is not
stated: it is kept (DESIGN CHOICE, log 21). -/
def Tsu.restarted (t : Tsu) : Tsu :=
  { t with building := none, settled := none }

/-- The TCL at RESTART: the table is kept, the frame copy discarded, the page box EMPTY (02 R19, R20, R23, R25). -/
def Tcl.restarted (t : Tcl) : Tcl :=
  { t with copy := none, count := 0, box := none, boxQuorum := none }

/-- The PEU at RESTART: the profiles are kept, the line store is empty (03 R34, R35, R37, R38; DESIGN CHOICE, log 46). -/
def Peu.restarted (p : Peu) : Peu :=
  { p with copy := none, source := none, lineStore := [] }

/-- The view record at RESTART: the glide rate is kept (05 R67, R79). -/
def Vwc.restarted (v : Vwc) : Vwc :=
  { resetVwc with glide := v.glide }

/-- The DOU at RESTART, with `waiting` output frame starts of the old raster in the queue (06 R90, R91; log 50). -/
def Dou.restarted (d : Dou) (waiting : Nat) : Dou :=
  { d with mode := d.pendingMode, raster := .restarting, blank := false, left := none, right := none,
           stale := waiting }

/-- The FLC at RESTART, before its first base offer: notes and marks are kept (07 R103, R120). -/
def Flc.restarted (f : Flc) : Flc :=
  { resetFlc with started := true, notes := f.notes, marks := f.marks }

/-- The lesson table at RESTART: the WRITING record of the abandoned STORE is removed (08 R135). -/
def Lsc.abandon (l : Lsc) : Lsc :=
  match l.queue with
  | [] => l
  | j :: _ =>
    match j.task, j.serial.bind (recordWith l.lessons) with
    | .store _ _, some r => if r.state = .writing then l.withLessons (removeRecord l.lessons r.serial) else l
    | _, _ => l

/-- The LSC at RESTART, before the catalogue write that may follow (08 R135, 09 R151). -/
def Lsc.restarted (l : Lsc) : Lsc :=
  { l.abandon with queue := [], activity := .idle, flash := none }

/-- A port at RESTART: nothing owed, nothing queued, no flag pending; the enables are kept (10 R161). -/
def PortState.restarted (p : PortState) : PortState :=
  { owed := none, busy := none, completions := [], overflow := false, enables := p.enables, flags := 0 }

/-- The CPI at RESTART: counters, half flags and masks, enables and reach tables are kept (10 R161). -/
def Cpi.restarted (c : Cpi) : Cpi :=
  { c with panel := c.panel.restarted, room := c.room.restarted, tether := c.tether.restarted, roomTx := none,
           tetherTx := none, roomRx := .hunting }

/-- The catalogue write that follows RESTART when the due flag is set in READY mode (08 R135). Where no sequence number is left it
makes no attempt, and STORE_READ_ONLY is raised (08 R131). -/
def State.writeAfterRestart (s : State) : State :=
  if s.lsc.due ∧ s.lsc.mode = .ready then
    match s.beginWrite .afterRestart with
    | some t => t
    | none => s.readOnly
  else s

/-- The pool at RESTART and at start-up: every holder and every content is gone and no notice is left; the picture data of the slots
is not cleared (04 R63; DEDUCED on notices given before, log 28). -/
def Spm.restarted (p : Spm) : Spm :=
  { slots := p.slots.map Slot.freed, notices := 0 }

/-- Every block at RESTART (10 R161). -/
def State.restartBlocks (s : State) : State :=
  { s with siu := Siu.restarted, tsu := s.tsu.restarted, tcl := s.tcl.restarted, peu := s.peu.restarted, spm := s.spm.restarted,
           vwc := s.vwc.restarted, dou := s.dou.restarted s.waitingFrameStarts, flc := s.flc.restarted, lsc := s.lsc.restarted,
           cpi := s.cpi.restarted }

/-- RESTART carried out: every block, the window for the pending mode, the first base offer, the restart's catalogue write
(10 R161, 05 R72, 07 R120, 08 R135). The write comes after the clearing of the notice flags, so it does not take back a
STORE_READ_ONLY that the write raises (DEDUCED, log 59). -/
def State.restart (s : State) : State :=
  s.restartBlocks.rework.beginAgreement.writeAfterRestart

/-! ### Meanings -/

/-- Every block at its start-up values; the picture data of the slots is not cleared (04 R63), and the arrivals that wait go on
waiting. -/
def State.startedUp (s : State) : State :=
  (State.reset.withPending s.pending).withSpm s.spm.restarted

/-- START_UP: power-on or the release of RESET starts the whole part (08 R133 and every block's start-up values). -/
def execStartUp (s : State) : Host.Outcome State Fault Refusal :=
  .next s.startedUp

/-- POWER_LOSS: power is lost or RESET asserted; everything in progress is abandoned, and the blocks hold their start-up values (08
section 8.6; log 2; log 43 on the pictures). -/
def execPowerLoss (s : State) : Host.Outcome State Fault Refusal :=
  .next (s.startedUp.withPower false).quiet

/-- RESTART (10 R156, R161). -/
def workRestart (h : CmdHeader) (args : List Byte) : State → State × Answer :=
  parsed (noArgs args) fun _ s =>
    if h.port = .panel then
      if s.lsc.mode = .starting then (s, refuse .busy) else edited s.restart false
    else (s, refuse .notPanel)

end Sys2Proof.Machine
end

