-- ==== Sys2Proof/Machine/StoreCommands.lean ====
section
/-! DEFINITION. The store family (08, 09): the completion of a flash operation, the store job commands and the store control
commands. -/

namespace Sys2Proof.Machine

/-! ### Shared operations: acceptance (09 R138) -/

/-- The reason of the first check that does not hold. -/
def firstFailure : List (Bool × Reason) → Option Reason
  | [] => none
  | (holds, r) :: rest => if holds then firstFailure rest else some r

/-- A store command: BUSY while the store is STARTING, then its checks in order, then its acceptance (09 R138). -/
def storeCommand (s : State) (checks : List (Bool × Reason)) (clamped : Bool) (accept : State → State) : State × Answer :=
  if s.lsc.mode = .starting then (s, refuse .busy)
  else
    match firstFailure checks with
    | some r => (s, refuse r)
    | none => (accept s, accepted clamped .nothing)

/-- The check that the mode is not READ_ONLY. -/
def Lsc.writable (l : Lsc) : Bool × Reason := (l.mode != .readOnly, .storeReadOnly)

/-- The check that the queue is not full. -/
def Lsc.hasRoom (l : Lsc) : Bool × Reason := (decide (l.queue.length < 16), .queueFull)

/-- The check that a lesson exists: its number is 0..31. -/
def lessonExists (l : Nat) : Bool × Reason := (decide (l < 32), .noSuchLesson)

/-- The check that a lesson exists and is not EMPTY. -/
def Lsc.lessonUsed (c : Lsc) (l : Nat) : Bool × Reason :=
  (decide (l < 32) && (lessonAt c.lessons l).state != .empty, .noSuchLesson)

/-- The check of a right on a lesson. -/
def State.hasRight (s : State) (p : Port) (l : Nat) (r : Right) : Bool × Reason := (s.cpi.allows p l r, .outOfReach)

/-- The check that a page exists. -/
def Lsc.pageExists (c : Lsc) (l p : Nat) : Bool × Reason := ((pageAt c.lessons l p).isSome, .noSuchPage)

/-- The check that a lesson is not kept. -/
def Lsc.lessonFree (c : Lsc) (l : Nat) : Bool × Reason := (!(lessonAt c.lessons l).kept, .lessonKept)

/-- The lesson that is OPEN, for the checks and acceptances that follow the check that there is one. -/
def Lsc.current (c : Lsc) : Nat := (currentLesson c.lessons).getD 0

/-- The check that a lesson is OPEN. -/
def Lsc.anyOpen (c : Lsc) : Bool × Reason := ((currentLesson c.lessons).isSome, .notOpen)

/-- The serial of the page at a position (09 R138). -/
def Lsc.serialAt (c : Lsc) (l p : Nat) : Option Half := (pageAt c.lessons l p).map (·.serial)

/-- The full frame (09 R139). -/
def fullFrame : Rect := { x0 := 0, y0 := 0, w := 3840, h := 2880 }

/-- The crop kind recorded and the crop rectangle fixed (09 R139). -/
def State.cropFor (s : State) (k : CropAsked) : CropKind × Rect :=
  match k, s.tcl.box with
  | .view, _ => (.view, { x0 := s.vwc.window.x0, y0 := s.vwc.window.y0, w := s.vwc.window.ww, h := s.vwc.window.wh })
  | .page, some b => (.page, b.rect)
  | .page, none => (.fullFallback, fullFrame)
  | .full, _ => (.full, fullFrame)

/-- What the acceptance of a STORE fixes (09 R139). -/
def State.capture (s : State) (k : CropAsked) : Capture :=
  { crop := (s.cropFor k).1, rect := (s.cropFor k).2, frame := s.spm.latestFrame.getD 0, cx := s.vwc.window.cx,
    cy := s.vwc.window.cy, zc := s.vwc.zc }

/-- Places the capture pin on the LATEST slot (04 R56, 09 R139). -/
def State.pinLatest (s : State) (t : PinTag) : State :=
  match s.spm.find .latest with
  | none => s
  | some n => s.withSpm (s.spm.pin n t)

/-- The acceptance of a STORE (09 R139). -/
def State.acceptStore (s : State) (h : CmdHeader) (k : CropAsked) : State :=
  (s.pinLatest { port := h.port, marker := h.marker }).enqueue
    (newJob h (.store s.lsc.current (s.capture k)) none (s.spm.find .latest))

/-! ### Shared operations: withdrawal (09 R150) -/

/-- The oldest job of a port with a marker: its place in the queue. -/
def Lsc.findJob (c : Lsc) (p : Port) (m : Byte) : Option Nat :=
  c.queue.findIdx? fun j => j.port == p && j.marker == m

/-- The job leaves the queue before its run: its pin goes, its record is WITHDRAWN, and the next job becomes the head where it
was the head (09 R150; log 29). -/
def State.removeJob (s : State) (n : Nat) (j : Job) : State :=
  let gone := ((s.withQueue (s.lsc.queue.eraseIdx n)).dropPin j).give j.port (j.record .withdrawn .noReason s.siu.frameNumber)
  if n = 0 ∧ s.lsc.resting then gone.runNext else gone

/-- WITHDRAW carried out on the job at a place of the queue (09 R150). -/
def State.withdrawAt (s : State) (n : Nat) : State × Answer :=
  match s.lsc.queue[n]? with
  | none => (s, refuse .noSuchJob)
  | some j =>
    if j.state = .running then
      (s.withQueue (s.lsc.queue.set n { j with withdrawn := true }), doneWith false (.withdrawal true))
    else (s.removeJob n j, doneWith false (.withdrawal false))

/-! ### Shared operations: reports (08 R136, 09 R152) -/

/-- What READ_STORE reports of a lesson. -/
def LessonRecord.summary (r : LessonRecord) : LessonSummary :=
  { state := r.state, pages := r.pages.length, kept := r.kept, lock := r.lock }

/-- What READ_STORE reports once the mode is not STARTING (08 R136). -/
def Lsc.report (c : Lsc) : StoreReport :=
  { mode := c.mode, current := currentLesson c.lessons, lessons := c.lessons.map LessonRecord.summary,
    free := 510 - (takenPlaces c.lessons c.retired).length, retired := c.retired.length,
    assigned := (recordsOf c.lessons).length, retiredIds := c.retired, nextSerial := c.nextSerial, catSeq := c.catSeq,
    lastBlock := c.lastBlock, due := c.due }

/-- A running STORE's stage, place and retry count (09 R152). During the catalogue write of a failing run the stage is the model's own
`ending` and there is no place, because the record is gone (09 R143; DESIGN CHOICE, log 49). -/
def Job.detail (j : Job) (ls : List LessonRecord) : Option (StoreStage × Option Nat × Nat) :=
  match j.task, j.state with
  | .store _ _, .running => some (j.stage, (j.serial.bind (recordWith ls)).map (·.place), j.retries)
  | _, _ => none

/-- What READ_JOBS reports of a job (09 R152). -/
def Job.report (j : Job) (ls : List LessonRecord) : JobReport :=
  { kind := j.task.code, port := j.port, marker := j.marker, state := j.state, withdrawn := j.withdrawn, serial := j.serial,
    lesson := j.task.lesson, detail := j.detail ls }

/-! ### Meanings -/

/-- FLASH_OPERATION_COMPLETE (08 R123). Without an operation in progress none completes (log 3). The completion is that of the
operation in progress when it is taken, also where it waited in the queue while RESTART abandoned an operation (DESIGN CHOICE, log
57). -/
def execFlashOperationComplete (result : FlashResult) (s : State) : Host.Outcome State Fault Refusal :=
  arrive s fun s => if s.lsc.flash.isSome then s.flashDone result else s

/-- STORE (09 R138, R139). -/
def workStore (h : CmdHeader) (args : List Byte) : State → State × Answer :=
  parsed (oneByte args) fun b s =>
    storeCommand s
      [s.lsc.writable, s.lsc.anyOpen, s.hasRight h.port s.lsc.current .toSave, ((s.spm.find .latest).isSome, .noFrame),
        (decide (s.spm.pinCount < 2), .captureBusy), s.lsc.hasRoom]
      (cropArg b).2 fun s => s.acceptStore h (cropArg b).1

/-- RECALL (09 R138). -/
def workRecall (h : CmdHeader) (args : List Byte) : State → State × Answer :=
  parsed (twoBytes args) fun a s =>
    let l := a.1.toNat
    let p := a.2.toNat
    storeCommand s [lessonExists l, s.hasRight h.port l .toShow, s.lsc.pageExists l p, s.lsc.hasRoom] false fun s =>
      s.enqueue (newJob h (.recall l p) (s.lsc.serialAt l p) none)

/-- EXPORT (09 R138). -/
def workExport (h : CmdHeader) (args : List Byte) : State → State × Answer :=
  parsed (twoBytes args) fun a s =>
    let l := a.1.toNat
    let p := a.2.toNat
    storeCommand s
      [lessonExists l, s.hasRight h.port l .toExport, s.lsc.pageExists l p,
        (!(lessonAt s.lsc.lessons l).lock, .exportLocked), (s.flc.exportReady, .feedNotReady), s.lsc.hasRoom]
      false fun s => s.enqueue (newJob h (.exportPage l p) (s.lsc.serialAt l p) none)

/-- DELETE (09 R138). -/
def workDelete (h : CmdHeader) (args : List Byte) : State → State × Answer :=
  parsed (twoBytes args) fun a s =>
    let l := a.1.toNat
    let p := a.2.toNat
    storeCommand s
      [s.lsc.writable, lessonExists l, s.hasRight h.port l .toSave, s.lsc.pageExists l p, s.lsc.lessonFree l, s.lsc.hasRoom]
      false fun s => s.enqueue (newJob h (.delete l p) (s.lsc.serialAt l p) none)

/-- MOVE (09 R138, R146). -/
def workMove (h : CmdHeader) (args : List Byte) : State → State × Answer :=
  parsed (threeBytes args) fun a s =>
    let l := a.1.toNat
    let p := a.2.1.toNat
    let target := clampTop 63 a.2.2.toNat
    storeCommand s [s.lsc.writable, lessonExists l, s.hasRight h.port l .toSave, s.lsc.pageExists l p, s.lsc.hasRoom]
      target.2 fun s => s.enqueue (newJob h (.move l p target.1) (s.lsc.serialAt l p) none)

/-- OPEN_LESSON (09 R138). -/
def workOpenLesson (h : CmdHeader) (args : List Byte) : State → State × Answer :=
  parsed (oneByte args) fun b s =>
    let l := b.toNat
    storeCommand s [s.lsc.writable, lessonExists l, s.hasRight h.port l .toSave, s.lsc.hasRoom] false fun s =>
      s.enqueue (newJob h (.openLesson l) none none)

/-- CLOSE_LESSON (09 R138). -/
def workCloseLesson (h : CmdHeader) (args : List Byte) : State → State × Answer :=
  parsed (noArgs args) fun _ s =>
    storeCommand s [s.lsc.writable, s.lsc.anyOpen, s.hasRight h.port s.lsc.current .toSave, s.lsc.hasRoom] false fun s =>
      s.enqueue (newJob h (.closeLesson s.lsc.current) none none)

/-- CLEAR_LESSON (09 R138). -/
def workClearLesson (h : CmdHeader) (args : List Byte) : State → State × Answer :=
  parsed (oneByte args) fun b s =>
    let l := b.toNat
    storeCommand s [s.lsc.writable, lessonExists l, s.hasRight h.port l .toSave, s.lsc.lessonFree l, s.lsc.hasRoom] false
      fun s => s.enqueue (newJob h (.clearLesson l) none none)

/-- NAME_LESSON (09 R138, R147). -/
def workNameLesson (h : CmdHeader) (args : List Byte) : State → State × Answer :=
  parsed (nameArgs args) fun a s =>
    let l := a.1.toNat
    let name := nameArg a.2
    storeCommand s [s.lsc.writable, s.lsc.lessonUsed l, s.hasRight h.port l .toSave, s.lsc.hasRoom] name.2 fun s =>
      s.enqueue (newJob h (.nameLesson l name.1) none none)

/-- SET_LESSON_FLAGS (09 R138). -/
def workSetLessonFlags (h : CmdHeader) (args : List Byte) : State → State × Answer :=
  parsed (threeBytes args) fun a s =>
    let l := a.1.toNat
    let kept := flagArg a.2.1
    let lock := flagArg a.2.2
    storeCommand s [(h.port == .panel, .notPanel), s.lsc.writable, s.lsc.lessonUsed l, s.lsc.hasRoom] (kept.2 || lock.2)
      fun s => s.enqueue (newJob h (.setLessonFlags l kept.1 lock.1) none none)

/-- SAVE_SETTINGS (09 R138). -/
def workSaveSettings (h : CmdHeader) (args : List Byte) : State → State × Answer :=
  parsed (noArgs args) fun _ s =>
    storeCommand s [s.lsc.writable, s.lsc.hasRoom] false fun s => s.enqueue (newJob h .saveSettings none none)

/-- WITHDRAW (09 R150). -/
def workWithdraw (h : CmdHeader) (args : List Byte) : State → State × Answer :=
  parsed (oneByte args) fun m s =>
    if s.lsc.mode = .starting then (s, refuse .busy)
    else
      match s.lsc.findJob h.port m with
      | none => (s, refuse .noSuchJob)
      | some n => s.withdrawAt n

/-- SET_PLACE_RETRY_LIMIT (09 R143). -/
def workSetPlaceRetryLimit (_h : CmdHeader) (args : List Byte) : State → State × Answer :=
  parsed (oneByte args) fun b s =>
    edited (s.withLsc { s.lsc with retryLimit := (clampTop 3 b.toNat).1 }) (clampTop 3 b.toNat).2

/-- READ_STORE (08 R136). -/
def workReadStore (_h : CmdHeader) (args : List Byte) : State → State × Answer :=
  parsed (noArgs args) fun _ s =>
    reported s (if s.lsc.mode = .starting then .storeStarting else .store s.lsc.report)

/-- READ_LESSON (08 R136). The lesson is clamped before its reach is tested, and a refusal reports the clamping (10 R156; log 52). -/
def workReadLesson (h : CmdHeader) (args : List Byte) : State → State × Answer :=
  parsed (oneByte args) fun b s =>
    let l := clampTop 31 b.toNat
    if s.lsc.mode = .starting then (s, refuse .busy)
    else if s.cpi.allows h.port l.1 .toShow then (s, doneWith l.2 (.lesson (lessonAt s.lsc.lessons l.1)))
    else (s, refusal .outOfReach l.2)

/-- READ_JOBS (09 R152). -/
def workReadJobs (_h : CmdHeader) (args : List Byte) : State → State × Answer :=
  parsed (noArgs args) fun _ s =>
    reported s (.jobs s.lsc.retryLimit (s.lsc.queue.map fun j => j.report s.lsc.lessons))

end Sys2Proof.Machine
end

