-- ==== Sys2Proof/Machine/Tables.lean ====
section
/-! DEFINITION. The statistics, classifier, enhancement and pool commands (01 R11, R16; 02 R24, R27 to R32; 03 R44 to R46; 04
R65). -/

namespace Sys2Proof.Machine

/-! ### Shared operations -/

/-- Writes consecutive entries from an index on; entries beyond the table are discarded (02 R28). -/
def writeEntries (table : List ClassifierEntry) (first : Nat) (l : List ClassifierEntry) : List ClassifierEntry :=
  let fitting := l.take (table.length - first)
  table.take first ++ fitting ++ table.drop (first + fitting.length)

/-- Replaces the classifier table's entries. -/
def State.setEntries (s : State) (l : List ClassifierEntry) : State :=
  s.withTcl { s.tcl with table := { s.tcl.table with entries := l } }

/-- What READ_CLASSIFIER reports: the entries from an index on with their indices (02 R31). -/
def entriesFrom (table : List ClassifierEntry) (first count : Nat) : List (Nat × ClassifierEntry) :=
  ((table.drop first).take count).mapIdx fun i e => (first + i, e)

/-- The settled record of a tile with the frame of the set (01 R16). -/
def Tsu.tile (t : Tsu) (col row : Nat) : Option (TileRecord × Nat) :=
  t.settled.bind fun set => (set.tiles[60 * row + col]?).map fun r => (r, set.frame)

/-- What READ_SLOTS reports of a slot (04 R65). -/
def Slot.report (s : Slot) : SlotReport :=
  { state := s.state, content := s.content, holders := s.holders }

/-! ### Meanings -/

/-- SET_EDGE_THRESHOLD (01 R11). -/
def workSetEdgeThreshold (_h : CmdHeader) (args : List Byte) : State → State × Answer :=
  parsed (oneHalf args) fun v s =>
    edited (s.withTsu { s.tsu with threshold := (clampTop 255 v).1 }) (clampTop 255 v).2

/-- READ_EDGE_THRESHOLD (01 R11). -/
def workReadEdgeThreshold (_h : CmdHeader) (args : List Byte) : State → State × Answer :=
  parsed (noArgs args) fun _ s => reported s (.edgeThreshold s.tsu.threshold)

/-- READ_TILE (01 R16). -/
def workReadTile (_h : CmdHeader) (args : List Byte) : State → State × Answer :=
  parsed (twoBytes args) fun a s =>
    let col := clampTop 59 a.1.toNat
    let row := clampTop 44 a.2.toNat
    (s, doneWith (col.2 || row.2) (.tile (s.tsu.tile col.1 row.1)))

/-- SET_CLASSIFIER_ENTRY (02 R27). -/
def workSetClassifierEntry (_h : CmdHeader) (args : List Byte) : State → State × Answer :=
  parsed (indexedEntryArgs args) fun a s =>
    let i := clampTop 31 a.1.toNat
    edited (s.setEntries (s.tcl.table.entries.set i.1 a.2.1)) (i.2 || a.2.2)

/-- SET_CLASSIFIER_ENTRIES (02 R28). -/
def workSetClassifierEntries (_h : CmdHeader) (args : List Byte) : State → State × Answer :=
  parsed (entriesArgs args) fun a s =>
    let i := clampTop 31 a.1.toNat
    let written := a.2.take (32 - i.1)
    (s.setEntries (writeEntries s.tcl.table.entries i.1 (a.2.map (·.1))),
     doneWith (i.2 || decide (written.length < a.2.length) || written.any (·.2)) (.entriesWritten written.length))

/-- SET_ENTRY_ENABLE (02 R29). -/
def workSetEntryEnable (_h : CmdHeader) (args : List Byte) : State → State × Answer :=
  parsed (twoBytes args) fun a s =>
    let i := clampTop 31 a.1.toNat
    edited (s.setEntries (s.tcl.table.entries.modify i.1 fun e => { e with enabled := (flagArg a.2).1 }))
      (i.2 || (flagArg a.2).2)

/-- SET_DEFAULT_ACTION (02 R30). -/
def workSetDefaultAction (_h : CmdHeader) (args : List Byte) : State → State × Answer :=
  parsed (twoBytes args) fun a s =>
    edited (s.withTcl { s.tcl with
        table := { s.tcl.table with fallback := { action := (actionArg a.1).1, text := (flagArg a.2).1 } } })
      ((actionArg a.1).2 || (flagArg a.2).2)

/-- SET_TEXT_QUORUM (02 R24). -/
def workSetTextQuorum (_h : CmdHeader) (args : List Byte) : State → State × Answer :=
  parsed (oneHalf args) fun q s =>
    edited (s.withTcl { s.tcl with table := { s.tcl.table with quorum := (clampBetween 1 255 q).1 } })
      (clampBetween 1 255 q).2

/-- READ_CLASSIFIER (02 R31). -/
def workReadClassifier (_h : CmdHeader) (args : List Byte) : State → State × Answer :=
  parsed (rangeArgs args) fun a s =>
    let i := clampTop 31 a.1.toNat
    (s, doneWith i.2 (.classifier (entriesFrom s.tcl.table.entries i.1 a.2) s.tcl.table.fallback s.tcl.table.quorum))

/-- READ_PAGE_BOX (02 R32). -/
def workReadPageBox (_h : CmdHeader) (args : List Byte) : State → State × Answer :=
  parsed (noArgs args) fun _ s =>
    reported s (.pageBox s.tcl.box s.tcl.count s.tcl.boxQuorum (s.tsu.settled.map (·.frame)))

/-- SET_PROFILE (03 R44). -/
def workSetProfile (_h : CmdHeader) (args : List Byte) : State → State × Answer :=
  parsed (indexedProfileArgs args) fun a s =>
    let i := clampTop 3 a.1.toNat
    edited (s.withPeu { s.peu with profiles := s.peu.profiles.set i.1 a.2.1 }) (i.2 || a.2.2)

/-- SET_PROFILES (03 R45). -/
def workSetProfiles (_h : CmdHeader) (args : List Byte) : State → State × Answer :=
  parsed (profilesArgs args) fun l s =>
    edited (s.withPeu { s.peu with profiles := l.map (·.1) }) (l.any (·.2))

/-- READ_PROFILES (03 R46). -/
def workReadProfiles (_h : CmdHeader) (args : List Byte) : State → State × Answer :=
  parsed (noArgs args) fun _ s => reported s (.profiles s.peu.profiles)

/-- READ_SLOTS (04 R65). -/
def workReadSlots (_h : CmdHeader) (args : List Byte) : State → State × Answer :=
  parsed (noArgs args) fun _ s =>
    reported s (.slots (s.spm.slots.map Slot.report) (s.spm.find .latest) s.spm.freeCount)

end Sys2Proof.Machine
end

