-- ==== Sys2Proof/Machine/View.lean ====
section
/-! DEFINITION. The view family (05): the ten view-changing commands and READ_VIEW. -/

namespace Sys2Proof.Machine

/-! ### Shared operations -/

/-- The target centre changes, and the window is worked out anew (05 R80). -/
def State.aim (s : State) (tx ty : Nat) : State :=
  (s.withVwc { s.vwc with tx := tx, ty := ty }).rework

/-- A target coordinate after PAN, and whether a limit applied (05 R80). -/
def panned (hi t : Nat) (d : Int) : Nat × Bool :=
  (limitInt hi (t + d), decide ((t : Int) + d < 0) || decide ((hi : Int) < t + d))

/-- The target zoom after ZOOM_STEP, and whether a limit applied (05 R76). -/
def steppedZoom (zt : Nat) (d : Int) : Nat × Bool :=
  (max 256 (limitInt 4096 (zt + d)), decide ((zt : Int) + d < 256) || decide (4096 < (zt : Int) + d))

/-- The glide rate that a ZOOM leaves, and whether its rate was clamped (05 R75). -/
def zoomRate (old : Nat) (rate : Option Nat) : Nat × Bool :=
  match rate with
  | none => (old, false)
  | some r => clampTop 255 r

/-- FIT_PAGE carried out: the watch in force ends, the targets change, the window is worked out anew (05 R81). -/
def State.fitPage (s : State) : State :=
  let f := fitTarget s.vwc.window s.tcl.box
  let ended := s.endWatch .superseded
  (ended.withVwc { ended.vwc with zt := f.1 }).aim f.2.1 f.2.2.1

/-- FREEZE carried out on the LATEST slot (05 R82, 04 R54). -/
def State.freeze (s : State) (n : Nat) : State :=
  (s.withSpm (s.spm.move .freeze (some n))).withVwc { s.vwc with freeze := some n }

/-- UNFREEZE carried out (05 R83, 04 R54). -/
def State.unfreeze (s : State) : State :=
  match s.vwc.freeze with
  | none => s
  | some n => (s.withSpm (s.spm.remove n .freeze)).withVwc { s.vwc with freeze := none }

/-- SHOW_LIVE carried out (05 R85, 04 R55). -/
def State.showLive (s : State) : State :=
  match s.vwc.page with
  | none => s
  | some p => (s.withSpm (s.spm.remove p.slot .page)).withVwc { s.vwc with page := none }

/-! ### Meanings -/

/-- ZOOM (05 R75, R79). -/
def workZoom (h : CmdHeader) (args : List Byte) : State → State × Answer :=
  parsed (zoomArgs args) fun a s =>
    let target := clampBetween 256 4096 a.1
    let wanted := wantedArg a.2.1
    let rate := zoomRate s.vwc.glide a.2.2
    zoomCommand h s .zoom target.1 rate.1 wanted.1 (target.2 || rate.2 || wanted.2)

/-- ZOOM_STEP (05 R76, R79). -/
def workZoomStep (h : CmdHeader) (args : List Byte) : State → State × Answer :=
  parsed (stepArgs args) fun a s =>
    let target := steppedZoom s.vwc.zt a.1
    let wanted := wantedArg a.2
    zoomCommand h s .zoomStep target.1 s.vwc.glide wanted.1 (target.2 || wanted.2)

/-- PAN (05 R80). -/
def workPan (h : CmdHeader) (args : List Byte) : State → State × Answer :=
  parsed (twoSigned args) fun a s =>
    let x := panned 3839 s.vwc.tx a.1
    let y := panned 2879 s.vwc.ty a.2
    viewCommand h s (fun s => s.aim x.1 y.1) (x.2 || y.2)

/-- CENTRE (05 R80). -/
def workCentre (h : CmdHeader) (args : List Byte) : State → State × Answer :=
  parsed (twoHalves args) fun a s =>
    let x := clampTop 3839 a.1
    let y := clampTop 2879 a.2
    viewCommand h s (fun s => s.aim x.1 y.1) (x.2 || y.2)

/-- FIT_PAGE (05 R81). -/
def workFitPage (h : CmdHeader) (args : List Byte) : State → State × Answer :=
  parsed (noArgs args) fun _ s =>
    if staleHeader h s.vwc.gen then (s, refuse .stale)
    else (s.fitPage.viewChanged, doneWith false (.fit s.fitPage.viewChanged.vwc.figures s.tcl.box.isNone))

/-- FREEZE (05 R70, R82). -/
def workFreeze (h : CmdHeader) (args : List Byte) : State → State × Answer :=
  parsed (noArgs args) fun _ s =>
    match s.spm.find .latest with
    | none => if staleHeader h s.vwc.gen then (s, refuse .stale) else (s, refuse .noFrame)
    | some n => viewCommand h s (fun s => s.freeze n) false

/-- UNFREEZE (05 R83). -/
def workUnfreeze (h : CmdHeader) (args : List Byte) : State → State × Answer :=
  parsed (noArgs args) fun _ s => viewCommand h s State.unfreeze false

/-- LAYOUT (05 R84). -/
def workLayout (h : CmdHeader) (args : List Byte) : State → State × Answer :=
  parsed (oneByte args) fun b s =>
    viewCommand h s (fun s => (s.withVwc { s.vwc with layout := (layoutArg b).1 }).rework) (layoutArg b).2

/-- SHOW_LIVE (05 R85). -/
def workShowLive (h : CmdHeader) (args : List Byte) : State → State × Answer :=
  parsed (noArgs args) fun _ s => viewCommand h s State.showLive false

/-- SET_GLIDE (05 R77). -/
def workSetGlide (h : CmdHeader) (args : List Byte) : State → State × Answer :=
  parsed (oneHalf args) fun r s =>
    viewCommand h s (fun s => s.withVwc { s.vwc with glide := (clampTop 255 r).1 }) (clampTop 255 r).2

/-- READ_VIEW (05 R86). -/
def workReadView (_h : CmdHeader) (args : List Byte) : State → State × Answer :=
  parsed (noArgs args) fun _ s => reported s (.viewRecord s.vwc)

end Sys2Proof.Machine
end

