-- ==== Sys2Proof/Machine/Receive.lean ====
section
/-! DEFINITION. The taking of a command body (10 R156), the transactions of the Panel port (10 R153), the bytes of the Room line (10
R154) and the packets of the tether link (10 R155): what a command kind does, the port's command holder, the bodies that the Room
receiver takes, the owner that takes a packet, and the arrival of a command at a port. -/

namespace Sys2Proof.Machine

/-- What each command kind does, from kind 1 on (10 Table 10-7). -/
def works : List (CmdHeader → List Byte → State → State × Answer) :=
  [ workZoom, workZoomStep, workPan, workCentre,
    workFitPage, workFreeze, workUnfreeze, workLayout,
    workShowLive, workSetGlide, workReadView, workSetEdgeThreshold,
    workReadEdgeThreshold, workReadTile, workSetClassifierEntry, workSetClassifierEntries,
    workSetEntryEnable, workSetDefaultAction, workSetTextQuorum, workReadClassifier,
    workReadPageBox, workSetProfile, workSetProfiles, workReadProfiles,
    workReadSlots, workSetOutputMode, workOutputRestart, workBlank,
    workReadOutput, workSetFeedNotes, workSetFeedMarks, workFeedRestart,
    workReadFeed, workStore, workRecall, workExport,
    workDelete, workMove, workOpenLesson, workCloseLesson,
    workClearLesson, workNameLesson, workSetLessonFlags, workSaveSettings,
    workWithdraw, workSetPlaceRetryLimit, workReadStore, workReadLesson,
    workReadJobs, workReadStatus, workReadCompletions, workReadNotices,
    workSetNoticeEnables, workSetReach, workReadReach, workReadCounters,
    workClearCounters, workSetHalfMasks, workRestart ]

/-- What a command kind does; a kind that 10 Table 10-7 does not name is refused (10 R156). -/
def workOf (kind : Byte) : CmdHeader → List Byte → State → State × Answer :=
  if kind = 0 then workUnknownCommand else works.getD (kind.toNat - 1) workUnknownCommand

/-- After a FEED_RESTART or RESTART that has been carried out, the agreement page that it sends and its reply take their turns on the
tether link (07 R119, R120; 10 R155; log 23). -/
def State.afterRestart (s : State) (kind : Byte) (a : Answer) : State :=
  if a.status = .done ∧ (kind = 32 ∨ kind = 59) then s.serveFeed else s

/-- The taking of a command by the state of its port's command holder (10 R156): taken when no reply is owed; refused BUSY, changing
nothing, while one is; discarded while a BUSY refusal waits as well. -/
def State.hand (s : State) (kind : Byte) (h : CmdHeader) (f : State → State × Answer) : State :=
  match (s.cpi.port h.port).owed, (s.cpi.port h.port).busy with
  | none, _ => ((f s).1.owe h.port ((f s).2.reply kind h (f s).1.vwc.gen)).afterRestart kind (f s).2
  | some _, none => s.refuseBusy h.port ((refuse .busy).reply kind h s.vwc.gen)
  | some _, some _ => s

/-- A body arrives at a port: one that is no command body is dropped without reply (10 R155), another is taken as its command. -/
def State.takeBody (s : State) (p : Port) (body : List Byte) : State :=
  match readBody p body with
  | none => s
  | some (kind, h, args) => s.hand kind h (workOf kind h args)

/-- The Panel's data-out line during a COMMAND transaction of `n` bytes, the kind byte among them; `c` is the CPI before the body is taken,
at the release of chip select (10 R153; log 55). The other ports have no such line. -/
def State.driven (s : State) (p : Port) (c : Cpi) (n : Nat) : State :=
  match p with
  | .panel => s.emit (.panelDataOut (c.panelDataOut n))
  | .room => s
  | .tether => s

/-- A transaction of the Panel port: the body of a COMMAND transaction is taken at its release, a READ transaction gives the owed reply,
any other is ignored (10 R153). -/
def State.transact (s : State) : PanelTransaction → State
  | .command body => (s.takeBody .panel body).driven .panel s.cpi (panelWrap body).length
  | .read clocked => s.panelRead clocked
  | .ignored => s

/-- Bytes arrive on the Room line: the receiver takes them, and every body that it takes arrives at the Room port (10 R154). -/
def State.hear (s : State) (bytes : List Byte) : State :=
  (s.cpi.roomRx.takeAll bytes).2.foldl (fun t body => t.takeBody .room body)
    (s.withCpi { s.cpi with roomRx := (s.cpi.roomRx.takeAll bytes).1 })

/-- A packet from the bridge is taken by the owner that its header names: a COMMAND packet's payload arrives as a body at the Tether
port, the kinds of the feed link controller go to it, and any other packet is discarded (10 R155). -/
def State.takePacket (s : State) (p : TetherPacket) : State :=
  match packetOwner p.kind with
  | none => s
  | some .cpi => s.takeBody .tether p.payload
  | some .flc => s.takeFeedPacket p.kind p.payload

/-- Bytes from the bridge arrive on the tether link: the packet that they are is taken (10 R155; log 63 on bytes that are none). -/
def State.receive (s : State) (bytes : List Byte) : State :=
  (readPacket bytes).elim s s.takePacket

/-- The arrival of a command at a port. On the Panel port it is a COMMAND transaction (10 R153). On the Room line a frame in
progress swallows the bytes of the command's frame (10 R154; log 24); otherwise the command is taken (10 R156). -/
def command (kind : Byte) (h : CmdHeader) (args : List Byte) (s : State) (f : State → State × Answer) :
    Host.Outcome State Fault Refusal :=
  arrive s fun s =>
    if h.port = .room ∧ s.cpi.roomRx ≠ .hunting then s.hear (roomWrap (commandBody kind h args))
    else (s.hand kind h f).driven h.port s.cpi (panelWrap (commandBody kind h args)).length

end Sys2Proof.Machine
end

