-- ==== Sys2Proof/Machine/Commands.lean ====
section
/-! DEFINITION. The meanings of the commands of the ports (10 Table 10-7), of the Panel's transactions (10 R153), of the frames that the Room receiver drops (10 R154) and of
the packets that the tether link discards (10 R155). What a command does once it is taken stands in its family's file. -/

namespace Sys2Proof.Machine

/-- PANEL_READ_TRANSACTION: the bytes of one transaction of the Panel port, taken by their kind byte; a READ transaction is this row's
arrival, a COMMAND transaction is taken as its command (10 R153; log 56). -/
def execPanelReadTransaction (sent : List Byte) (s : State) : Host.Outcome State Fault Refusal :=
  arrive s fun s => s.transact (readTransaction sent)

/-- ROOM_FRAME_DROPPED: the bytes that end with the drop go through the receiver; a frame among them that passes its tests is taken, and
nothing else changes (10 R154; log 24). -/
def execRoomFrameDropped (bytes : List Byte) (s : State) : Host.Outcome State Fault Refusal :=
  arrive s fun s => s.hear bytes

/-- TETHER_PACKET_DISCARDED: the bytes of a packet from the bridge, header words first, go through the receiver; a packet whose kind names no owner, or
whose body is too short or not of type COMMAND, draws no reply and changes nothing; one that its owner takes is no discarded one,
and is taken (10 R155; log 53). -/
def execTetherPacketDiscarded (header words : List Byte) (s : State) : Host.Outcome State Fault Refusal :=
  arrive s fun s => s.receive (header ++ words)

/-- ZOOM (05 R75, R79). -/
def execZoom (h : CmdHeader) (args : List Byte) (s : State) : Host.Outcome State Fault Refusal :=
  command 1 h args s (workZoom h args)

/-- ZOOM_STEP (05 R76, R79). -/
def execZoomStep (h : CmdHeader) (args : List Byte) (s : State) : Host.Outcome State Fault Refusal :=
  command 2 h args s (workZoomStep h args)

/-- PAN (05 R80). -/
def execPan (h : CmdHeader) (args : List Byte) (s : State) : Host.Outcome State Fault Refusal :=
  command 3 h args s (workPan h args)

/-- CENTRE (05 R80). -/
def execCentre (h : CmdHeader) (args : List Byte) (s : State) : Host.Outcome State Fault Refusal :=
  command 4 h args s (workCentre h args)

/-- FIT_PAGE (05 R81). -/
def execFitPage (h : CmdHeader) (args : List Byte) (s : State) : Host.Outcome State Fault Refusal :=
  command 5 h args s (workFitPage h args)

/-- FREEZE (05 R70, R82). -/
def execFreeze (h : CmdHeader) (args : List Byte) (s : State) : Host.Outcome State Fault Refusal :=
  command 6 h args s (workFreeze h args)

/-- UNFREEZE (05 R83). -/
def execUnfreeze (h : CmdHeader) (args : List Byte) (s : State) : Host.Outcome State Fault Refusal :=
  command 7 h args s (workUnfreeze h args)

/-- LAYOUT (05 R84). -/
def execLayout (h : CmdHeader) (args : List Byte) (s : State) : Host.Outcome State Fault Refusal :=
  command 8 h args s (workLayout h args)

/-- SHOW_LIVE (05 R85). -/
def execShowLive (h : CmdHeader) (args : List Byte) (s : State) : Host.Outcome State Fault Refusal :=
  command 9 h args s (workShowLive h args)

/-- SET_GLIDE (05 R77). -/
def execSetGlide (h : CmdHeader) (args : List Byte) (s : State) : Host.Outcome State Fault Refusal :=
  command 10 h args s (workSetGlide h args)

/-- READ_VIEW (05 R86). -/
def execReadView (h : CmdHeader) (args : List Byte) (s : State) : Host.Outcome State Fault Refusal :=
  command 11 h args s (workReadView h args)

/-- SET_EDGE_THRESHOLD (01 R11). -/
def execSetEdgeThreshold (h : CmdHeader) (args : List Byte) (s : State) : Host.Outcome State Fault Refusal :=
  command 12 h args s (workSetEdgeThreshold h args)

/-- READ_EDGE_THRESHOLD (01 R11). -/
def execReadEdgeThreshold (h : CmdHeader) (args : List Byte) (s : State) : Host.Outcome State Fault Refusal :=
  command 13 h args s (workReadEdgeThreshold h args)

/-- READ_TILE (01 R16). -/
def execReadTile (h : CmdHeader) (args : List Byte) (s : State) : Host.Outcome State Fault Refusal :=
  command 14 h args s (workReadTile h args)

/-- SET_CLASSIFIER_ENTRY (02 R27). -/
def execSetClassifierEntry (h : CmdHeader) (args : List Byte) (s : State) : Host.Outcome State Fault Refusal :=
  command 15 h args s (workSetClassifierEntry h args)

/-- SET_CLASSIFIER_ENTRIES (02 R28). -/
def execSetClassifierEntries (h : CmdHeader) (args : List Byte) (s : State) : Host.Outcome State Fault Refusal :=
  command 16 h args s (workSetClassifierEntries h args)

/-- SET_ENTRY_ENABLE (02 R29). -/
def execSetEntryEnable (h : CmdHeader) (args : List Byte) (s : State) : Host.Outcome State Fault Refusal :=
  command 17 h args s (workSetEntryEnable h args)

/-- SET_DEFAULT_ACTION (02 R30). -/
def execSetDefaultAction (h : CmdHeader) (args : List Byte) (s : State) : Host.Outcome State Fault Refusal :=
  command 18 h args s (workSetDefaultAction h args)

/-- SET_TEXT_QUORUM (02 R24). -/
def execSetTextQuorum (h : CmdHeader) (args : List Byte) (s : State) : Host.Outcome State Fault Refusal :=
  command 19 h args s (workSetTextQuorum h args)

/-- READ_CLASSIFIER (02 R31). -/
def execReadClassifier (h : CmdHeader) (args : List Byte) (s : State) : Host.Outcome State Fault Refusal :=
  command 20 h args s (workReadClassifier h args)

/-- READ_PAGE_BOX (02 R32). -/
def execReadPageBox (h : CmdHeader) (args : List Byte) (s : State) : Host.Outcome State Fault Refusal :=
  command 21 h args s (workReadPageBox h args)

/-- SET_PROFILE (03 R44). -/
def execSetProfile (h : CmdHeader) (args : List Byte) (s : State) : Host.Outcome State Fault Refusal :=
  command 22 h args s (workSetProfile h args)

/-- SET_PROFILES (03 R45). -/
def execSetProfiles (h : CmdHeader) (args : List Byte) (s : State) : Host.Outcome State Fault Refusal :=
  command 23 h args s (workSetProfiles h args)

/-- READ_PROFILES (03 R46). -/
def execReadProfiles (h : CmdHeader) (args : List Byte) (s : State) : Host.Outcome State Fault Refusal :=
  command 24 h args s (workReadProfiles h args)

/-- READ_SLOTS (04 R65). -/
def execReadSlots (h : CmdHeader) (args : List Byte) (s : State) : Host.Outcome State Fault Refusal :=
  command 25 h args s (workReadSlots h args)

/-- SET_OUTPUT_MODE (06 R88). -/
def execSetOutputMode (h : CmdHeader) (args : List Byte) (s : State) : Host.Outcome State Fault Refusal :=
  command 26 h args s (workSetOutputMode h args)

/-- OUTPUT_RESTART (06 R89). -/
def execOutputRestart (h : CmdHeader) (args : List Byte) (s : State) : Host.Outcome State Fault Refusal :=
  command 27 h args s (workOutputRestart h args)

/-- BLANK (06 R98). -/
def execBlank (h : CmdHeader) (args : List Byte) (s : State) : Host.Outcome State Fault Refusal :=
  command 28 h args s (workBlank h args)

/-- READ_OUTPUT (06 R100). -/
def execReadOutput (h : CmdHeader) (args : List Byte) (s : State) : Host.Outcome State Fault Refusal :=
  command 29 h args s (workReadOutput h args)

/-- SET_FEED_NOTES (07 R103). -/
def execSetFeedNotes (h : CmdHeader) (args : List Byte) (s : State) : Host.Outcome State Fault Refusal :=
  command 30 h args s (workSetFeedNotes h args)

/-- SET_FEED_MARKS (07 R113). -/
def execSetFeedMarks (h : CmdHeader) (args : List Byte) (s : State) : Host.Outcome State Fault Refusal :=
  command 31 h args s (workSetFeedMarks h args)

/-- FEED_RESTART (07 R119). -/
def execFeedRestart (h : CmdHeader) (args : List Byte) (s : State) : Host.Outcome State Fault Refusal :=
  command 32 h args s (workFeedRestart h args)

/-- READ_FEED (07 R121). The free value that stands for the elapsed part of a hold is drawn anew (log 14). -/
def execReadFeed (h : CmdHeader) (args : List Byte) (s : State) : Host.Outcome State Fault Refusal :=
  command 33 h args s (workReadFeed h args)

/-- STORE (09 R138, R139). -/
def execStore (h : CmdHeader) (args : List Byte) (s : State) : Host.Outcome State Fault Refusal :=
  command 34 h args s (workStore h args)

/-- RECALL (09 R138). -/
def execRecall (h : CmdHeader) (args : List Byte) (s : State) : Host.Outcome State Fault Refusal :=
  command 35 h args s (workRecall h args)

/-- EXPORT (09 R138). -/
def execExport (h : CmdHeader) (args : List Byte) (s : State) : Host.Outcome State Fault Refusal :=
  command 36 h args s (workExport h args)

/-- DELETE (09 R138). -/
def execDelete (h : CmdHeader) (args : List Byte) (s : State) : Host.Outcome State Fault Refusal :=
  command 37 h args s (workDelete h args)

/-- MOVE (09 R138, R146). -/
def execMove (h : CmdHeader) (args : List Byte) (s : State) : Host.Outcome State Fault Refusal :=
  command 38 h args s (workMove h args)

/-- OPEN_LESSON (09 R138). -/
def execOpenLesson (h : CmdHeader) (args : List Byte) (s : State) : Host.Outcome State Fault Refusal :=
  command 39 h args s (workOpenLesson h args)

/-- CLOSE_LESSON (09 R138). -/
def execCloseLesson (h : CmdHeader) (args : List Byte) (s : State) : Host.Outcome State Fault Refusal :=
  command 40 h args s (workCloseLesson h args)

/-- CLEAR_LESSON (09 R138). -/
def execClearLesson (h : CmdHeader) (args : List Byte) (s : State) : Host.Outcome State Fault Refusal :=
  command 41 h args s (workClearLesson h args)

/-- NAME_LESSON (09 R138, R147). -/
def execNameLesson (h : CmdHeader) (args : List Byte) (s : State) : Host.Outcome State Fault Refusal :=
  command 42 h args s (workNameLesson h args)

/-- SET_LESSON_FLAGS (09 R138). -/
def execSetLessonFlags (h : CmdHeader) (args : List Byte) (s : State) : Host.Outcome State Fault Refusal :=
  command 43 h args s (workSetLessonFlags h args)

/-- SAVE_SETTINGS (09 R138). -/
def execSaveSettings (h : CmdHeader) (args : List Byte) (s : State) : Host.Outcome State Fault Refusal :=
  command 44 h args s (workSaveSettings h args)

/-- WITHDRAW (09 R150). -/
def execWithdraw (h : CmdHeader) (args : List Byte) (s : State) : Host.Outcome State Fault Refusal :=
  command 45 h args s (workWithdraw h args)

/-- SET_PLACE_RETRY_LIMIT (09 R143). -/
def execSetPlaceRetryLimit (h : CmdHeader) (args : List Byte) (s : State) : Host.Outcome State Fault Refusal :=
  command 46 h args s (workSetPlaceRetryLimit h args)

/-- READ_STORE (08 R136). -/
def execReadStore (h : CmdHeader) (args : List Byte) (s : State) : Host.Outcome State Fault Refusal :=
  command 47 h args s (workReadStore h args)

/-- READ_LESSON (08 R136). The lesson is clamped before its reach is tested, and a refusal reports the clamping (10 R156; log 52). -/
def execReadLesson (h : CmdHeader) (args : List Byte) (s : State) : Host.Outcome State Fault Refusal :=
  command 48 h args s (workReadLesson h args)

/-- READ_JOBS (09 R152). -/
def execReadJobs (h : CmdHeader) (args : List Byte) (s : State) : Host.Outcome State Fault Refusal :=
  command 49 h args s (workReadJobs h args)

/-- READ_STATUS (01 R16; 02 R23; 03 R37; 04 R65; 05 R86; 06 R100; 07 R121; 08 R136). -/
def execReadStatus (h : CmdHeader) (args : List Byte) (s : State) : Host.Outcome State Fault Refusal :=
  command 50 h args s (workReadStatus h args)

/-- READ_COMPLETIONS (10 R158). -/
def execReadCompletions (h : CmdHeader) (args : List Byte) (s : State) : Host.Outcome State Fault Refusal :=
  command 51 h args s (workReadCompletions h args)

/-- READ_NOTICES (10 R159). -/
def execReadNotices (h : CmdHeader) (args : List Byte) (s : State) : Host.Outcome State Fault Refusal :=
  command 52 h args s (workReadNotices h args)

/-- SET_NOTICE_ENABLES (10 R159). -/
def execSetNoticeEnables (h : CmdHeader) (args : List Byte) (s : State) : Host.Outcome State Fault Refusal :=
  command 53 h args s (workSetNoticeEnables h args)

/-- SET_REACH (10 R156, R157). -/
def execSetReach (h : CmdHeader) (args : List Byte) (s : State) : Host.Outcome State Fault Refusal :=
  command 54 h args s (workSetReach h args)

/-- READ_REACH (10 R157). -/
def execReadReach (h : CmdHeader) (args : List Byte) (s : State) : Host.Outcome State Fault Refusal :=
  command 55 h args s (workReadReach h args)

/-- READ_COUNTERS (10 R160). -/
def execReadCounters (h : CmdHeader) (args : List Byte) (s : State) : Host.Outcome State Fault Refusal :=
  command 56 h args s (workReadCounters h args)

/-- CLEAR_COUNTERS (10 R160). -/
def execClearCounters (h : CmdHeader) (args : List Byte) (s : State) : Host.Outcome State Fault Refusal :=
  command 57 h args s (workClearCounters h args)

/-- SET_HALF_MASKS (10 R160). -/
def execSetHalfMasks (h : CmdHeader) (args : List Byte) (s : State) : Host.Outcome State Fault Refusal :=
  command 58 h args s (workSetHalfMasks h args)

/-- RESTART (10 R156, R161). -/
def execRestart (h : CmdHeader) (args : List Byte) (s : State) : Host.Outcome State Fault Refusal :=
  command 59 h args s (workRestart h args)

/-- UNKNOWN_COMMAND (10 R156). -/
def execUnknownCommand (kind : Byte) (h : CmdHeader) (args : List Byte) (s : State) : Host.Outcome State Fault Refusal :=
  command kind h args s (workUnknownCommand h args)

end Sys2Proof.Machine
end

