-- ==== Sys2Proof/Machine/Intake.lean ====
section
/-! DEFINITION. The intake family (01): frame start, line end, frame end, the no-signal timer, and the slot-freed notice (04
R60). -/

namespace Sys2Proof.Machine

/-! ### Shared operations -/

/-- The intake state changes. -/
def State.setIntake (s : State) (i : IntakeState) : State :=
  s.withSiu { s.siu with intake := i }

/-- The frame in progress is broken: its slot and building set go, it is counted and INTAKE_BROKEN is raised; the arrival's
own rule gives the next intake state (01 R4). -/
def State.breakFrame (s : State) : State :=
  (((s.withSpm (s.spm.removeKind .intake)).withTsu { s.tsu with building := none }).count .framesBroken).raise .intakeBroken

/-- What a frame start does to the frame in progress (01 Table 1-2). -/
def State.endFrameInProgress (s : State) : State :=
  match s.siu.intake with
  | .waiting => s
  | .receiving => s.breakFrame
  | .skipping => s
  | .discarding => s
  | .noSignal => s.raise .signalBack

/-- Steps 1 to 3 of a new frame, with the latches of the classifier and of the enhancement: timer, number, frame copies (01
R5; 02 R20; 03 R35, R38). -/
def State.openFrame (s : State) : State :=
  (((s.withSiu { s.siu with
      timer := s.startTimer 500 .noSignalTimerExpiry, frameNumber := min lastFrameNumber (s.siu.frameNumber + 1), lines := 0 }).withTsu
    { s.tsu with thresholdCopy := s.tsu.threshold }).withTcl { s.tcl with copy := some s.tcl.table }).withPeu
    { s.peu with copy := some s.peu.profiles, lineStore := [] }

/-- Step 4 of a new frame: the lowest FREE slot is taken, or the frame is skipped (01 R6; 03 R36, R37; 04 R51). -/
def State.askSlot (s : State) : State :=
  match s.spm.lowestFree with
  | some n =>
    (((s.withSpm (s.spm.take n .intake (.liveFrame s.siu.frameNumber) (.live []))).withTsu
      { s.tsu with building := some openSet }).withPeu { s.peu with source := s.tsu.settled.map (·.frame) }).setIntake
        .receiving
  | none => ((s.withTsu { s.tsu with building := none }).count .framesSkipped).setIntake .skipping

/-- The statistics unit gathers an accepted line (01 R12, R13). -/
def Tsu.gather (t : Tsu) (y : Nat) (line : List PixelClock) : Tsu :=
  { t with building := t.building.map (gatherLine t.thresholdCopy y (lineLuminance line)) }

/-- A line is accepted: its pixels go to the statistics and to the enhancement (01 R1, R7; 03 R38). -/
def State.acceptLine (s : State) (line : List PixelClock) : State :=
  ((s.withTsu (s.tsu.gather s.siu.lines line)).enhanceAccepted s.siu.lines line).withSiu
    { s.siu with lines := s.siu.lines + 1 }

/-- INTAKE becomes LATEST on the frame's slot (04 R52). -/
def State.moveLatest (s : State) : State :=
  match s.spm.find .intake with
  | none => s
  | some n => s.withSpm (s.spm.succeed n .intake .latest)

/-- The good frame end (01 R8; 03 R38; 02 R26). -/
def State.goodFrame (s : State) : State :=
  ((((s.enhanceLast.moveLatest).count .framesIn).settle).boxNotice s.tcl.box).setIntake .waiting

/-- A line end, by intake state (01 R7). The state at the line end decides also where line valid was asserted before the frame start, and
then all pixels of the line count (DEDUCED, log 62). -/
def State.lineEnd (s : State) (line : List PixelClock) : State :=
  match s.siu.intake with
  | .receiving =>
    if line.length = 3840 ∧ s.siu.lines < 2880 then s.acceptLine line else s.breakFrame.setIntake .discarding
  | .waiting => s
  | .skipping => s
  | .discarding => s
  | .noSignal => s

/-- A frame end, by intake state (01 R8). -/
def State.frameEnd (s : State) : State :=
  match s.siu.intake with
  | .receiving => if s.siu.lines = 2880 then s.goodFrame else s.breakFrame.setIntake .waiting
  | .skipping => s.setIntake .waiting
  | .discarding => s.setIntake .waiting
  | .waiting => s
  | .noSignal => s

/-- The no-signal timer expires (01 R9). -/
def State.signalLost (s : State) : State :=
  let t := if s.siu.intake = .receiving then s.breakFrame else s
  (t.withSiu { t.siu with intake := .noSignal, timer := none }).raise .noSignal

/-- A slot-freed notice reaches the LSC: a head job in WAIT_SLOT tests the reserve again (04 R60). -/
def State.takeNotice (s : State) : State :=
  let t := s.withSpm { s.spm with notices := s.spm.notices - 1 }
  match t.lsc.queue with
  | [] => t
  | j :: _ =>
    match j.state, t.followed j with
    | .waitSlot, some r => t.testReserve j r
    | _, _ => t

/-! ### Meanings -/

/-- FRAME_START (01 R5, R6). -/
def execFrameStart (s : State) : Host.Outcome State Fault Refusal :=
  arrive s fun s => s.endFrameInProgress.openFrame.askSlot

/-- LINE_END (01 R7). -/
def execLineEnd (pixels : List PixelClock) (s : State) : Host.Outcome State Fault Refusal :=
  arrive s fun s => s.lineEnd pixels

/-- FRAME_END (01 R8). -/
def execFrameEnd (s : State) : Host.Outcome State Fault Refusal :=
  arrive s State.frameEnd

/-- NO_SIGNAL_TIMER_EXPIRY (01 R9). -/
def execNoSignalTimerExpiry (s : State) : Host.Outcome State Fault Refusal :=
  arrive s fun s => s.expires s.siu.timer (fun x => s.withSiu { s.siu with timer := x }) s.signalLost

/-- SLOT_FREED_NOTICE (04 R60). Without a notice given there is none to take (log 3). -/
def execSlotFreedNotice (s : State) : Host.Outcome State Fault Refusal :=
  arrive s fun s => if s.spm.notices = 0 then s else s.takeNotice

end Sys2Proof.Machine
end

