-- ==== Sys2Proof/Machine/Dispatch.lean ====
section
/-! DEFINITION. The dispatch: one arm per command, each one direct call of its meaning. -/

namespace Sys2Proof.Machine

/-- The effect of a command on everything but the queue. -/
def exec (i : Instr) (s : State) : Host.Outcome State Fault Refusal :=
  match i with
  | .startUp => Sys2Proof.Machine.execStartUp s
  | .frameStart => Sys2Proof.Machine.execFrameStart s
  | .lineEnd pixels => Sys2Proof.Machine.execLineEnd pixels s
  | .frameEnd => Sys2Proof.Machine.execFrameEnd s
  | .noSignalTimerExpiry => Sys2Proof.Machine.execNoSignalTimerExpiry s
  | .slotFreedNotice => Sys2Proof.Machine.execSlotFreedNotice s
  | .outputFrameStart => Sys2Proof.Machine.execOutputFrameStart s
  | .baseOffer offer => Sys2Proof.Machine.execBaseOffer offer s
  | .notePage page => Sys2Proof.Machine.execNotePage page s
  | .hold duration => Sys2Proof.Machine.execHold duration s
  | .pageTimerExpiry => Sys2Proof.Machine.execPageTimerExpiry s
  | .intervalTimerExpiry => Sys2Proof.Machine.execIntervalTimerExpiry s
  | .allowanceTimerExpiry => Sys2Proof.Machine.execAllowanceTimerExpiry s
  | .holdTimerExpiry => Sys2Proof.Machine.execHoldTimerExpiry s
  | .feedFrameStart => Sys2Proof.Machine.execFeedFrameStart s
  | .feedLineProduced => Sys2Proof.Machine.execFeedLineProduced s
  | .feedLineSent => Sys2Proof.Machine.execFeedLineSent s
  | .flashOperationComplete result => Sys2Proof.Machine.execFlashOperationComplete result s
  | .panelReadTransaction sent => Sys2Proof.Machine.execPanelReadTransaction sent s
  | .roomFrameDropped bytes => Sys2Proof.Machine.execRoomFrameDropped bytes s
  | .tetherPacketDiscarded header words => Sys2Proof.Machine.execTetherPacketDiscarded header words s
  | .roomFrameSent => Sys2Proof.Machine.execRoomFrameSent s
  | .tetherPacketSent => Sys2Proof.Machine.execTetherPacketSent s
  | .zoom h args => Sys2Proof.Machine.execZoom h args s
  | .zoomStep h args => Sys2Proof.Machine.execZoomStep h args s
  | .pan h args => Sys2Proof.Machine.execPan h args s
  | .centre h args => Sys2Proof.Machine.execCentre h args s
  | .fitPage h args => Sys2Proof.Machine.execFitPage h args s
  | .freeze h args => Sys2Proof.Machine.execFreeze h args s
  | .unfreeze h args => Sys2Proof.Machine.execUnfreeze h args s
  | .layout h args => Sys2Proof.Machine.execLayout h args s
  | .showLive h args => Sys2Proof.Machine.execShowLive h args s
  | .setGlide h args => Sys2Proof.Machine.execSetGlide h args s
  | .readView h args => Sys2Proof.Machine.execReadView h args s
  | .setEdgeThreshold h args => Sys2Proof.Machine.execSetEdgeThreshold h args s
  | .readEdgeThreshold h args => Sys2Proof.Machine.execReadEdgeThreshold h args s
  | .readTile h args => Sys2Proof.Machine.execReadTile h args s
  | .setClassifierEntry h args => Sys2Proof.Machine.execSetClassifierEntry h args s
  | .setClassifierEntries h args => Sys2Proof.Machine.execSetClassifierEntries h args s
  | .setEntryEnable h args => Sys2Proof.Machine.execSetEntryEnable h args s
  | .setDefaultAction h args => Sys2Proof.Machine.execSetDefaultAction h args s
  | .setTextQuorum h args => Sys2Proof.Machine.execSetTextQuorum h args s
  | .readClassifier h args => Sys2Proof.Machine.execReadClassifier h args s
  | .readPageBox h args => Sys2Proof.Machine.execReadPageBox h args s
  | .setProfile h args => Sys2Proof.Machine.execSetProfile h args s
  | .setProfiles h args => Sys2Proof.Machine.execSetProfiles h args s
  | .readProfiles h args => Sys2Proof.Machine.execReadProfiles h args s
  | .readSlots h args => Sys2Proof.Machine.execReadSlots h args s
  | .setOutputMode h args => Sys2Proof.Machine.execSetOutputMode h args s
  | .outputRestart h args => Sys2Proof.Machine.execOutputRestart h args s
  | .blank h args => Sys2Proof.Machine.execBlank h args s
  | .readOutput h args => Sys2Proof.Machine.execReadOutput h args s
  | .setFeedNotes h args => Sys2Proof.Machine.execSetFeedNotes h args s
  | .setFeedMarks h args => Sys2Proof.Machine.execSetFeedMarks h args s
  | .feedRestart h args => Sys2Proof.Machine.execFeedRestart h args s
  | .readFeed h args => Sys2Proof.Machine.execReadFeed h args s
  | .store h args => Sys2Proof.Machine.execStore h args s
  | .recall h args => Sys2Proof.Machine.execRecall h args s
  | .exportPage h args => Sys2Proof.Machine.execExport h args s
  | .delete h args => Sys2Proof.Machine.execDelete h args s
  | .move h args => Sys2Proof.Machine.execMove h args s
  | .openLesson h args => Sys2Proof.Machine.execOpenLesson h args s
  | .closeLesson h args => Sys2Proof.Machine.execCloseLesson h args s
  | .clearLesson h args => Sys2Proof.Machine.execClearLesson h args s
  | .nameLesson h args => Sys2Proof.Machine.execNameLesson h args s
  | .setLessonFlags h args => Sys2Proof.Machine.execSetLessonFlags h args s
  | .saveSettings h args => Sys2Proof.Machine.execSaveSettings h args s
  | .withdraw h args => Sys2Proof.Machine.execWithdraw h args s
  | .setPlaceRetryLimit h args => Sys2Proof.Machine.execSetPlaceRetryLimit h args s
  | .readStore h args => Sys2Proof.Machine.execReadStore h args s
  | .readLesson h args => Sys2Proof.Machine.execReadLesson h args s
  | .readJobs h args => Sys2Proof.Machine.execReadJobs h args s
  | .readStatus h args => Sys2Proof.Machine.execReadStatus h args s
  | .readCompletions h args => Sys2Proof.Machine.execReadCompletions h args s
  | .readNotices h args => Sys2Proof.Machine.execReadNotices h args s
  | .setNoticeEnables h args => Sys2Proof.Machine.execSetNoticeEnables h args s
  | .setReach h args => Sys2Proof.Machine.execSetReach h args s
  | .readReach h args => Sys2Proof.Machine.execReadReach h args s
  | .readCounters h args => Sys2Proof.Machine.execReadCounters h args s
  | .clearCounters h args => Sys2Proof.Machine.execClearCounters h args s
  | .setHalfMasks h args => Sys2Proof.Machine.execSetHalfMasks h args s
  | .restart h args => Sys2Proof.Machine.execRestart h args s
  | .unknownCommand kind h args => Sys2Proof.Machine.execUnknownCommand kind h args s
  | .powerLoss => Sys2Proof.Machine.execPowerLoss s

end Sys2Proof.Machine
end

