-- ==== Sys2Proof/WellFormed.lean ====
section
/-! DEFINITION. Which terms of `Instr` are arrivals that the manual describes. `exec` gives every term a meaning; a term that
fails a check here cannot reach the part. -/

namespace Sys2Proof

open Sys2Proof.Machine

/-- A read page has 2048 bytes; an erase or a program that passes carries none (08 R123). -/
def FlashResult.wellFormed : FlashResult → Bool
  | .pass data => data.isEmpty || data.length == 2048
  | .fail => true

/-- A command body fits its port's wrapping: 1..2048 bytes on the Room port, at most 65535 words on the tether link (10
R154, Table 10-6). The body is the six-byte header and the arguments. -/
def bodyFits (h : CmdHeader) (args : List Byte) : Bool :=
  match h.port with
  | .panel => true
  | .room => decide (args.length + 6 ≤ 2048)
  | .tether => decide (args.length + 6 ≤ 131070)

/-- Whether the bytes are a tether packet that is discarded: its kind names neither the CPI's nor the feed link controller's, or its
body is too short or not of type COMMAND (10 R155). -/
def discardedPacket (bytes : List Byte) : Bool :=
  match readPacket bytes with
  | none => false
  | some p =>
    match packetOwner p.kind with
    | none => true
    | some .cpi => (readBody .tether p.payload).isNone
    | some .flc => false

/-- The checks, by constructor. -/
def Instr.wellFormed : Instr → Bool
  | .startUp => true
  | .frameStart => true
  | .lineEnd _ => true
  | .frameEnd => true
  | .noSignalTimerExpiry => true
  | .slotFreedNotice => true
  | .outputFrameStart => true
  | .baseOffer _ => true
  | .notePage _ => true
  | .hold _ => true
  | .pageTimerExpiry => true
  | .intervalTimerExpiry => true
  | .allowanceTimerExpiry => true
  | .holdTimerExpiry => true
  | .feedFrameStart => true
  | .feedLineProduced => true
  | .feedLineSent => true
  | .flashOperationComplete r => r.wellFormed
  | .panelReadTransaction sent => sent.head? == some 0x02
  | .roomFrameDropped bytes => !bytes.isEmpty
  | .tetherPacketDiscarded header words => header.length == 4 && discardedPacket (header ++ words)
  | .roomFrameSent => true
  | .tetherPacketSent => true
  | .zoom h args => bodyFits h args
  | .zoomStep h args => bodyFits h args
  | .pan h args => bodyFits h args
  | .centre h args => bodyFits h args
  | .fitPage h args => bodyFits h args
  | .freeze h args => bodyFits h args
  | .unfreeze h args => bodyFits h args
  | .layout h args => bodyFits h args
  | .showLive h args => bodyFits h args
  | .setGlide h args => bodyFits h args
  | .readView h args => bodyFits h args
  | .setEdgeThreshold h args => bodyFits h args
  | .readEdgeThreshold h args => bodyFits h args
  | .readTile h args => bodyFits h args
  | .setClassifierEntry h args => bodyFits h args
  | .setClassifierEntries h args => bodyFits h args
  | .setEntryEnable h args => bodyFits h args
  | .setDefaultAction h args => bodyFits h args
  | .setTextQuorum h args => bodyFits h args
  | .readClassifier h args => bodyFits h args
  | .readPageBox h args => bodyFits h args
  | .setProfile h args => bodyFits h args
  | .setProfiles h args => bodyFits h args
  | .readProfiles h args => bodyFits h args
  | .readSlots h args => bodyFits h args
  | .setOutputMode h args => bodyFits h args
  | .outputRestart h args => bodyFits h args
  | .blank h args => bodyFits h args
  | .readOutput h args => bodyFits h args
  | .setFeedNotes h args => bodyFits h args
  | .setFeedMarks h args => bodyFits h args
  | .feedRestart h args => bodyFits h args
  | .readFeed h args => bodyFits h args
  | .store h args => bodyFits h args
  | .recall h args => bodyFits h args
  | .exportPage h args => bodyFits h args
  | .delete h args => bodyFits h args
  | .move h args => bodyFits h args
  | .openLesson h args => bodyFits h args
  | .closeLesson h args => bodyFits h args
  | .clearLesson h args => bodyFits h args
  | .nameLesson h args => bodyFits h args
  | .setLessonFlags h args => bodyFits h args
  | .saveSettings h args => bodyFits h args
  | .withdraw h args => bodyFits h args
  | .setPlaceRetryLimit h args => bodyFits h args
  | .readStore h args => bodyFits h args
  | .readLesson h args => bodyFits h args
  | .readJobs h args => bodyFits h args
  | .readStatus h args => bodyFits h args
  | .readCompletions h args => bodyFits h args
  | .readNotices h args => bodyFits h args
  | .setNoticeEnables h args => bodyFits h args
  | .setReach h args => bodyFits h args
  | .readReach h args => bodyFits h args
  | .readCounters h args => bodyFits h args
  | .clearCounters h args => bodyFits h args
  | .setHalfMasks h args => bodyFits h args
  | .restart h args => bodyFits h args
  | .unknownCommand kind h args => bodyFits h args && (kind == 0 || decide (60 ≤ kind.toNat))
  | .powerLoss => true

end Sys2Proof
end

