-- ==== Sys2Proof/Safety.lean ====
section
/-! DEFINITION. What a sound state is, and the words in which statements say what an arrival changes: which blocks it leaves
alone, what a port answers, and what a sending that begins may change of a port. -/

namespace Sys2Proof.Machine

/-! ### What an arrival leaves alone -/

/-- The blocks of the part other than the command port interface. -/
inductive Block where
  | siu | tsu | tcl | peu | spm | vwc | dou | flc | lsc
deriving DecidableEq, Repr

/-- Every block outside the list is as before, and so are the power state, the count of free values and the queue. -/
def State.unchanged (s t : State) (bs : List Block) : Prop :=
  (.siu ∈ bs ∨ t.siu = s.siu) ∧ (.tsu ∈ bs ∨ t.tsu = s.tsu) ∧ (.tcl ∈ bs ∨ t.tcl = s.tcl) ∧
  (.peu ∈ bs ∨ t.peu = s.peu) ∧ (.spm ∈ bs ∨ t.spm = s.spm) ∧ (.vwc ∈ bs ∨ t.vwc = s.vwc) ∧
  (.dou ∈ bs ∨ t.dou = s.dou) ∧ (.flc ∈ bs ∨ t.flc = s.flc) ∧ (.lsc ∈ bs ∨ t.lsc = s.lsc) ∧
  t.powered = s.powered ∧ t.freeCount = s.freeCount ∧ t.pending = s.pending

/-- What a sending that begins may change of its port: the overflow flag rides in a completion frame and is cleared, the
pending flags ride in a notice frame and are cleared (10 R158, R159). -/
def PortState.sentFrom (x y : PortState) : Prop :=
  y.owed = x.owed ∧ y.busy = x.busy ∧ y.completions = x.completions ∧ y.enables = x.enables ∧
  (y.overflow = x.overflow ∨ y.overflow = false) ∧ (y.flags = x.flags ∨ y.flags = 0)

/-- What sendings that begin at the end of an arrival may change of the CPI; all else of it is as the arrival left it. -/
def Cpi.afterSending (c d : Cpi) : Prop :=
  d.panel = c.panel ∧ c.room.sentFrom d.room ∧ c.tether.sentFrom d.tether ∧ d.reachRoom = c.reachRoom ∧
  d.reachTether = c.reachTether ∧ d.counters = c.counters ∧ d.halfFlags = c.halfFlags ∧ d.halfMasks = c.halfMasks ∧
  d.roomRx = c.roomRx

/-- An arrival that changes only the listed blocks and leaves the CPI as `c`, apart from sendings that begin. -/
def State.becomes (s t : State) (c : Cpi) (bs : List Block) : Prop :=
  s.unchanged t bs ∧ c.afterSending t.cpi

/-! ### What a port answers -/

/-- A body from the port reaches its command holder: on the Room line no frame in progress swallows it (10 R154; log 24). -/
def Cpi.hears (c : Cpi) (p : Port) : Prop :=
  p = .room → c.roomRx = .hunting

/-- A command from the port is taken now: the part is powered, the body reaches the holder and no reply is owed there (10 R154,
R156). -/
def State.takes (s : State) (p : Port) : Prop :=
  s.powered = true ∧ (s.cpi.port p).owed = none ∧ s.cpi.hears p

/-- The CPI that has taken a command body from a port and owes a reply there (10 R156). -/
def Cpi.answering (c : Cpi) (p : Port) (r : Reply) : Cpi :=
  c.setPort p { c.port p with owed := some r }

/-- A command taken: it changes only the listed blocks, leaves the CPI as `c`, and its reply is owed at its port. -/
def State.answers (s t : State) (c : Cpi) (kind : Byte) (h : CmdHeader) (a : Answer) (bs : List Block) : Prop :=
  s.becomes t (c.answering h.port (a.reply kind h t.vwc.gen)) bs

/-- A command refused: it changes nothing, and the refusal is owed at its port. -/
def State.refuses (s t : State) (kind : Byte) (h : CmdHeader) (r : Reason) : Prop :=
  s.answers t s.cpi kind h (refuse r) []

/-- Whether a view command's header carries an expected generation that is not the one in force (05 R69). -/
def State.conditionFails (s : State) (h : CmdHeader) : Prop :=
  h.flags.getLsbD 0 = true ∧ h.expected ≠ s.vwc.gen

/-! ### Words of the statements about timers -/

/-- A timer that runs, with so many of the waiting expiries from before it was started anew (log 58). -/
def running (duration late : Nat) : Option Timer :=
  some { duration := duration, late := late }

/-- The page timer started anew for its 20 ms: every expiry that waits is of its run before (07 R108; log 58). -/
def State.pageTimerAnew (s : State) : Option Timer :=
  running 20 (s.pending.count .pageTimerExpiry)

/-! ### Words of the statements about commands -/

/-- What a flag argument sets, and whether it is reported as clamped: 0 clears, 1 sets; a value above 1 is left open (10 Table
10-5; log 10). -/
def flagSays (w : Byte) (b clamped : Bool) : Prop :=
  (w = 0 → b = false ∧ clamped = false) ∧ (w = 1 → b = true ∧ clamped = false)

/-- Whether a command is one of the fifty-nine that 10 Table 10-7 names. -/
def namedCommand : Instr → Bool
  | .unknownCommand _ _ _ => false
  | _ => true

/-- The CPI with one more completion record given to a port (10 R158). -/
def Cpi.given (c : Cpi) (p : Port) (r : Completion) : Cpi :=
  c.setPort p ((c.port p).give r)

/-- The completion record of a watched zoom (05 R79). -/
def GlideWatch.completes (w : GlideWatch) (e : Ending) (frame : Nat) : Completion :=
  { marker := w.marker, kind := if w.kind = .zoom then 1 else 2, ending := e, reason := .noReason, lesson := none,
    serial := none, frame := frame }

/-- The CPI after the glide watch in force, if there is one, has ended as SUPERSEDED (05 R79). -/
def State.superseding (s : State) : Cpi :=
  match s.vwc.watch with
  | none => s.cpi
  | some w => s.cpi.given w.port (w.completes .superseded s.siu.frameNumber)

/-- What a free transmitter makes of its port: from `p` to `q`, sending `tx` with a body. The owed reply goes first, then the
oldest completion record with the overflow flag, then a notice with every pending flag (10 R158, R159). -/
def PortState.sends (p q : PortState) (tx : Option Sending) (body : List Byte) : Prop :=
  (∀ r, p.owed = some r → tx = some .reply ∧ body = r.bytes ∧ q = p) ∧
  (∀ r rest, p.owed = none → p.completions = r :: rest →
    tx = some .completion ∧ body = r.bytes p.overflow ∧ q = { p with overflow := false }) ∧
  (p.owed = none → p.completions = [] → p.flags ≠ 0 → tx = some .notice ∧ body = noticeBytes p.flags ∧ q = { p with flags := 0 }) ∧
  (p.owed = none → p.completions = [] → p.flags = 0 → tx = none ∧ q = p)

/-- What the end of a sending makes of a port: the reply leaves and a BUSY refusal takes its place, the completion record leaves
its queue, a notice leaves nothing behind (10 R156, R158). -/
def PortState.sentOne (p q : PortState) : Sending → Prop
  | .reply => q = { p with owed := p.busy, busy := none }
  | .completion => q = { p with completions := p.completions.tail }
  | .notice => q = p

/-- What the removal of a kind of holder makes of the slot that carried it: FREE with no content when no holder is left, else
the same slot without the holder; nothing clears the picture (04 R50). -/
def Slot.released (x y : Slot) (k : HolderKind) : Prop :=
  (x.holders.put k false = noHolders → y = { x with holders := noHolders, content := .nothing }) ∧
  (x.holders.put k false ≠ noHolders → y = { x with holders := x.holders.put k false })

/-- The LSC that begins a catalogue write of its state: the next sequence number, the block after the last written one, whose
erase is issued (08 R131). -/
def Lsc.startsWrite (l : Lsc) (owner : WriteOwner) : Lsc :=
  let image : CatalogueImage :=
    { sequence := l.catSeq + 1, lessons := l.lessons, retired := l.retired, nextSerial := l.nextSerial, saved := l.saved }
  let block := (l.lastBlock + 1) % 64
  { l with
    catSeq := l.catSeq + 1, flash := some (.erase block),
    activity := .writing { owner := owner, image := image, attempt := 1, block := block, bytes := image.bytes, phase := .erase } }

/-- The LSC with no flash operation in progress. -/
def Lsc.rests (l : Lsc) : Lsc :=
  { l with flash := none, activity := .idle }

/-- Lesson k holds the page with a serial: it has a record of that serial, and no lesson before it has one (08 R126, R127). -/
def holdsPage (ls : List LessonRecord) (k : Nat) (q : Half) : Prop :=
  (∃ x, ls[k]? = some x ∧ ∃ r ∈ x.pages, r.serial = q) ∧
  ∀ (m : Nat) (x : LessonRecord), m < k → ls[m]? = some x → ∀ r ∈ x.pages, r.serial ≠ q

/-- What a job's record and READ_JOBS name of its command: the work kind, and the lesson where the command named one (09 R149, R152; 10
Table 10-7). -/
def JobTask.named : JobTask → Byte × Option Nat
  | .store l _ => (34, some l)
  | .recall l _ => (35, some l)
  | .exportPage l _ => (36, some l)
  | .delete l _ => (37, some l)
  | .move l _ _ => (38, some l)
  | .openLesson l => (39, some l)
  | .closeLesson l => (40, some l)
  | .clearLesson l => (41, some l)
  | .nameLesson l _ => (42, some l)
  | .setLessonFlags l _ _ => (43, some l)
  | .saveSettings => (44, none)

/-- The acceptance checks that 09 Table 9-2 lists for a store job command of a port, in order, each with the reason of its refusal
(09 R138). -/
def State.jobChecks (s : State) (p : Port) (kind : Nat) (args : List Byte) : List (Bool × Reason) :=
  let l := (args.getD 0 0).toNat
  let lesson := s.lsc.lessons.getD l Config.emptyLesson
  let current := (currentLesson s.lsc.lessons).getD 0
  let writable := (decide (s.lsc.mode ≠ .readOnly), Reason.storeReadOnly)
  let known := (decide (l < 32), Reason.noSuchLesson)
  let used := (decide (l < 32 ∧ lesson.state ≠ .empty), Reason.noSuchLesson)
  let anyOpen := ((currentLesson s.lsc.lessons).isSome, Reason.notOpen)
  let reach := fun (n : Nat) (r : Right) => (s.cpi.allows p n r, Reason.outOfReach)
  let page :=
    (match lesson.pages[(args.getD 1 0).toNat]? with
     | none => false
     | some r => decide (r.state ≠ .writing), Reason.noSuchPage)
  let free := (!lesson.kept, Reason.lessonKept)
  let room := (decide (s.lsc.queue.length < 16), Reason.queueFull)
  let feed := (decide (s.flc.agreement = .feedUp ∧ s.flc.result.map (·.exporting) = some true), Reason.feedNotReady)
  if kind = 34 then
    [writable, anyOpen, reach current .toSave, ((s.spm.find .latest).isSome, .noFrame),
      (decide (s.spm.pinCount < 2), .captureBusy), room]
  else if kind = 35 then [known, reach l .toShow, page, room]
  else if kind = 36 then [known, reach l .toExport, page, (!lesson.lock, .exportLocked), feed, room]
  else if kind = 37 then [writable, known, reach l .toSave, page, free, room]
  else if kind = 38 then [writable, known, reach l .toSave, page, room]
  else if kind = 39 then [writable, known, reach l .toSave, room]
  else if kind = 40 then [writable, anyOpen, reach current .toSave, room]
  else if kind = 41 then [writable, known, reach l .toSave, free, room]
  else if kind = 42 then [writable, used, reach l .toSave, room]
  else if kind = 43 then [(decide (p = .panel), .notPanel), writable, used, room]
  else [writable, room]

/-- The eight bytes of a classifier entry in a command (10 R162). -/
structure RawEntry where
  enabled : Byte
  kind    : Byte
  a0      : Byte
  a1      : Byte
  b0      : Byte
  b1      : Byte
  action  : Byte
  text    : Byte
deriving DecidableEq, Repr

/-- The bytes of a classifier entry in their order. -/
def RawEntry.bytes (r : RawEntry) : List Byte :=
  [r.enabled, r.kind, r.a0, r.a1, r.b0, r.b1, r.action, r.text]

/-- What the bytes of a classifier entry write: each field limited or replaced as 02 R27 says, a flag above 1 left open. -/
def RawEntry.writes (r : RawEntry) (e : ClassifierEntry) : Prop :=
  e.a = min 4095 (r.a0.toNat + 256 * r.a1.toNat) ∧ e.b = min 4095 (r.b0.toNat + 256 * r.b1.toNat) ∧
  (r.kind = 0 → e.kind = .range) ∧ (r.kind = 1 → e.kind = .pair) ∧ (2 ≤ r.kind.toNat → e.kind = .mask) ∧
  (r.action = 0 → e.action = .p0) ∧ (r.action = 1 → e.action = .p1) ∧ (r.action = 2 → e.action = .p2) ∧
  (r.action = 3 → e.action = .p3) ∧ (4 ≤ r.action.toNat → e.action = .pass) ∧
  (r.enabled = 0 → e.enabled = false) ∧ (r.enabled = 1 → e.enabled = true) ∧ (r.text = 0 → e.text = false) ∧
  (r.text = 1 → e.text = true)

/-- Whether a field of a classifier entry in a command lies outside its range, the two flags aside (02 R27). -/
def RawEntry.outside (r : RawEntry) : Bool :=
  decide (2 < r.kind.toNat) || decide (4 < r.action.toNat) || decide (4095 < r.a0.toNat + 256 * r.a1.toNat) ||
    decide (4095 < r.b0.toNat + 256 * r.b1.toNat)

/-- Whether both flags of a classifier entry in a command are 0 or 1 (10 Table 10-5). -/
def RawEntry.flagsStated (r : RawEntry) : Prop :=
  r.enabled.toNat ≤ 1 ∧ r.text.toNat ≤ 1

/-- The five bytes of a profile in a command (10 R162). -/
structure RawProfile where
  g  : Byte
  c  : Byte
  s  : Byte
  l0 : Byte
  l1 : Byte
deriving DecidableEq, Repr

/-- The bytes of a profile in their order. -/
def RawProfile.bytes (r : RawProfile) : List Byte :=
  [r.g, r.c, r.s, r.l0, r.l1]

/-- What the bytes of a profile write: each field limited as 03 R44 says. -/
def RawProfile.writes (r : RawProfile) : Profile :=
  { g := min 63 r.g.toNat, c := min 63 r.c.toNat, s := min 16 r.s.toNat, l := min 255 (r.l0.toNat + 256 * r.l1.toNat) }

/-- Whether a field of a profile in a command lies outside its range (03 R44). -/
def RawProfile.outside (r : RawProfile) : Bool :=
  decide (63 < r.g.toNat) || decide (63 < r.c.toNat) || decide (16 < r.s.toNat) ||
    decide (255 < r.l0.toNat + 256 * r.l1.toNat)

/-- The two bytes of a note in a command (10 Table 10-7). -/
structure RawNote where
  code : Byte
  rate : Byte
deriving DecidableEq, Repr

/-- The bytes of a note in their order. -/
def RawNote.bytes (r : RawNote) : List Byte :=
  [r.code, r.rate]

/-- What the bytes of a note stand for: an unknown code is a NULL note, and a rate is limited to 1..60 (07 R103). -/
def RawNote.writes (r : RawNote) : Note :=
  if r.code = 2 then .rateLimit (max 1 (min 60 r.rate.toNat))
  else if r.code = 3 then .cropWanted
  else if r.code = 4 then .exportAble
  else .null

/-- Whether a note in a command is reported as clamped (07 R103; the rate of another note than RATE_LIMIT: log 38). -/
def RawNote.outside (r : RawNote) : Bool :=
  decide (r.code = 0 ∨ 4 < r.code.toNat ∨ (r.code = 2 ∧ (r.rate = 0 ∨ 60 < r.rate.toNat)))

/-- The packets of the feed link controller among what was put on the links. -/
def Emission.ofFeed : Emission → Bool
  | .panelDataOut _ => false
  | .roomFrame _ => false
  | .tetherCommand _ => false
  | .feedPacket _ _ => true

/-- The packets that the feed link controller sent at the last arrival are these, in this order, with their bytes (10 R162). -/
def State.sentFeed (t : State) (l : List FeedPacket) : Prop :=
  t.emitted.filter Emission.ofFeed = l.map fun p => .feedPacket p p.bytes

/-- Agreement pages given to the tether link, which sends `tx` and whose last packet was of `side`: they go in order, none while a
command-channel packet is being sent; the first goes at once after one; none waits while the link is idle (10 R155; log 23). -/
def State.servedPages (t : State) (tx : Option Sending) (side : Option LinkSide) (pages : List AgreementPage) : Prop :=
  ∃ gone, t.sentFeed (gone.map FeedPacket.page) ∧ gone ++ t.flc.pages = pages ∧ (tx ≠ none → gone = []) ∧
    (tx = none → side = some .cpi → pages ≠ [] → gone ≠ []) ∧ (t.cpi.tetherTx = none → t.flc.pages = [])

/-- At the arrival from s to t the part gives new agreement pages to the link, behind those that wait (10 R155; log 23). -/
def State.givesPages (s t : State) (new : List AgreementPage) : Prop :=
  t.servedPages s.cpi.tetherTx s.cpi.lastSide (s.flc.pages ++ new)

/-- The command kind, header and arguments of a command body (10 Tables 10-4, 10-7). -/
def asCommand : Instr → Option (Byte × CmdHeader × List Byte)
  | .startUp => none
  | .frameStart => none
  | .lineEnd _ => none
  | .frameEnd => none
  | .noSignalTimerExpiry => none
  | .slotFreedNotice => none
  | .outputFrameStart => none
  | .baseOffer _ => none
  | .notePage _ => none
  | .hold _ => none
  | .pageTimerExpiry => none
  | .intervalTimerExpiry => none
  | .allowanceTimerExpiry => none
  | .holdTimerExpiry => none
  | .feedFrameStart => none
  | .feedLineProduced => none
  | .feedLineSent => none
  | .flashOperationComplete _ => none
  | .panelReadTransaction _ => none
  | .roomFrameDropped _ => none
  | .tetherPacketDiscarded _ _ => none
  | .roomFrameSent => none
  | .tetherPacketSent => none
  | .zoom h args => some (1, h, args)
  | .zoomStep h args => some (2, h, args)
  | .pan h args => some (3, h, args)
  | .centre h args => some (4, h, args)
  | .fitPage h args => some (5, h, args)
  | .freeze h args => some (6, h, args)
  | .unfreeze h args => some (7, h, args)
  | .layout h args => some (8, h, args)
  | .showLive h args => some (9, h, args)
  | .setGlide h args => some (10, h, args)
  | .readView h args => some (11, h, args)
  | .setEdgeThreshold h args => some (12, h, args)
  | .readEdgeThreshold h args => some (13, h, args)
  | .readTile h args => some (14, h, args)
  | .setClassifierEntry h args => some (15, h, args)
  | .setClassifierEntries h args => some (16, h, args)
  | .setEntryEnable h args => some (17, h, args)
  | .setDefaultAction h args => some (18, h, args)
  | .setTextQuorum h args => some (19, h, args)
  | .readClassifier h args => some (20, h, args)
  | .readPageBox h args => some (21, h, args)
  | .setProfile h args => some (22, h, args)
  | .setProfiles h args => some (23, h, args)
  | .readProfiles h args => some (24, h, args)
  | .readSlots h args => some (25, h, args)
  | .setOutputMode h args => some (26, h, args)
  | .outputRestart h args => some (27, h, args)
  | .blank h args => some (28, h, args)
  | .readOutput h args => some (29, h, args)
  | .setFeedNotes h args => some (30, h, args)
  | .setFeedMarks h args => some (31, h, args)
  | .feedRestart h args => some (32, h, args)
  | .readFeed h args => some (33, h, args)
  | .store h args => some (34, h, args)
  | .recall h args => some (35, h, args)
  | .exportPage h args => some (36, h, args)
  | .delete h args => some (37, h, args)
  | .move h args => some (38, h, args)
  | .openLesson h args => some (39, h, args)
  | .closeLesson h args => some (40, h, args)
  | .clearLesson h args => some (41, h, args)
  | .nameLesson h args => some (42, h, args)
  | .setLessonFlags h args => some (43, h, args)
  | .saveSettings h args => some (44, h, args)
  | .withdraw h args => some (45, h, args)
  | .setPlaceRetryLimit h args => some (46, h, args)
  | .readStore h args => some (47, h, args)
  | .readLesson h args => some (48, h, args)
  | .readJobs h args => some (49, h, args)
  | .readStatus h args => some (50, h, args)
  | .readCompletions h args => some (51, h, args)
  | .readNotices h args => some (52, h, args)
  | .setNoticeEnables h args => some (53, h, args)
  | .setReach h args => some (54, h, args)
  | .readReach h args => some (55, h, args)
  | .readCounters h args => some (56, h, args)
  | .clearCounters h args => some (57, h, args)
  | .setHalfMasks h args => some (58, h, args)
  | .restart h args => some (59, h, args)
  | .unknownCommand kind h args => some (kind, h, args)
  | .powerLoss => none

/-- The argument lengths that 10 Table 10-7 allows for a command kind 1..59. -/
def lengthAllowed (kind length : Nat) : Bool :=
  if kind = 1 then length == 3 || length == 5
  else if kind ∈ [2, 31, 38, 43] then length == 3
  else if kind ∈ [3, 4, 53] then length == 4
  else if kind ∈ [10, 12, 14, 17, 18, 19, 20, 35, 36, 37] then length == 2
  else if kind ∈ [8, 26, 28, 34, 39, 41, 45, 46, 48, 58] then length == 1
  else if kind = 15 then length == 9
  else if kind = 16 then length % 8 == 1 && decide (9 ≤ length) && decide (length ≤ 65)
  else if kind ∈ [22, 54] then length == 6
  else if kind = 23 then length == 20
  else if kind = 30 then length % 2 == 0 && decide (length ≤ 8)
  else if kind = 42 then decide (1 ≤ length)
  else length == 0

/-! ### Sound states -/

/-- Every catalogue image found so far by a recovery in progress is within the manual's ranges. -/
def Lsc.foundSound (l : Lsc) : Prop :=
  ∀ r b i, l.activity = .recovering r → r.best = some (b, i) → i.inRange = true

/-- Every setting is within its range: those in use, the frame copies, the saved settings record (01 R11; 02 R17, R24; 03 R33;
05 R66; 06 R88; 07 R113; 09 R143; 10 R157, R159). -/
def State.settingsSound (s : State) : Prop :=
  s.tcl.table.inRange = true ∧ (∀ c, s.tcl.copy = some c → c.inRange = true) ∧ s.tsu.threshold ≤ 255 ∧
  s.tsu.thresholdCopy ≤ 255 ∧ profilesInRange s.peu.profiles = true ∧
  (∀ l, s.peu.copy = some l → profilesInRange l = true) ∧ s.vwc.glide ≤ 255 ∧ s.dou.mode ≤ 3 ∧ s.dou.pendingMode ≤ 3 ∧
  s.flc.marks.inRange = true ∧ reachInRange s.cpi.reachRoom = true ∧ reachInRange s.cpi.reachTether = true ∧
  enablesInRange s.cpi.panel.enables = true ∧ enablesInRange s.cpi.room.enables = true ∧
  enablesInRange s.cpi.tether.enables = true ∧ s.lsc.retryLimit ≤ 3 ∧ s.lsc.saved.inRange = true ∧ s.lsc.foundSound

/-- The tiles of a page box lie within the frame's 60 columns and 45 rows (02 R25). -/
def TileBox.inRange (b : TileBox) : Prop :=
  b.c0 ≤ b.c1 ∧ b.c1 ≤ 59 ∧ b.r0 ≤ b.r1 ∧ b.r1 ≤ 44

/-- The window is the one worked out from the output mode, the layout, the current zoom and the target centre, and these are
within their ranges; the page box and the building set are whole (05 R66, R72, R78; 02 R25; 01 R12). -/
def State.viewSound (s : State) : Prop :=
  s.vwc.window = windowOf s.dou.mode s.vwc.layout s.vwc.zc s.vwc.tx s.vwc.ty ∧
  256 ≤ s.vwc.zt ∧ s.vwc.zt ≤ 4096 ∧ 256 ≤ s.vwc.zc ∧ s.vwc.zc ≤ 4096 ∧ s.vwc.tx ≤ 3839 ∧ s.vwc.ty ≤ 2879 ∧
  (∀ b, s.tcl.box = some b → b.inRange) ∧ (∀ set, s.tsu.building = some set → set.length = 2700)

/-- A feed frame in flight and the buffer: at most as many lines as the high mark allows, which is at most 64; what is
produced is sent or in the buffer, unless the frame is cut (07 R113, R114, R116). -/
def feedFrameSound (f : FeedFrame) (lines : Nat) : Prop :=
  f.marks.inRange = true ∧ lines ≤ f.marks.high ∧ (f.stopped = false → lines < f.marks.high) ∧ f.produced ≤ f.height ∧
  (f.cut = true → lines = 0) ∧ (f.cut = false → f.sent + lines = f.produced)

/-- The feed: a frame is in flight only in FEED_UP, the buffer holds lines of the frame in flight only, the page timer runs
only during an agreement, and nothing goes before the hand-over (07 R101, R108, R111, R113, R120). -/
def State.feedSound (s : State) : Prop :=
  s.settingsSound ∧
  (∀ f, s.flc.frame = some f → s.flc.agreement = .feedUp ∧ feedFrameSound f s.flc.buffer.length) ∧
  (s.flc.frame = none → s.flc.buffer = []) ∧
  (s.flc.pageTimer ≠ none → s.flc.agreement ∈ [Agreement.offering, .ackSeen, .noteExchange]) ∧
  (s.flc.started = false → s.flc.agreement = .offering ∧ s.flc.frame = none ∧ s.flc.pageTimer = none) ∧
  (∀ r, s.lsc.activity = .recovering r → s.flc.started = false)

/-- A port: at most 8 completion records; a BUSY refusal waits only behind an owed reply; a flag is pending only where its
event is enabled (10 R156, R158, R159). -/
def PortState.sound (p : PortState) : Prop :=
  p.completions.length ≤ 8 ∧ (p.busy.isSome = true → p.owed.isSome = true) ∧ p.flags &&& p.enables = p.flags

/-- What a transmitter is sending is still held by its port (10 R156, R158). -/
def PortState.holds (p : PortState) : Sending → Prop
  | .reply => p.owed.isSome = true
  | .completion => p.completions ≠ []
  | .notice => True

/-- The tether link takes a packet of the feed link controller: no command-channel packet is being sent, and the CPI sent the last one or
has none ready (10 R155; log 23). -/
def Cpi.linkFree (c : Cpi) : Prop :=
  c.tetherTx = none ∧
  (c.lastSide = some .cpi ∨ (c.tether.owed = none ∧ c.tether.completions = [] ∧ c.tether.flags = 0))

/-- On a tether link that is free no agreement page and no FRAME_END with CUT waits (10 R155; log 23). -/
def State.linkSettled (s : State) : Prop :=
  s.cpi.tetherTx = none → s.flc.pages = [] ∧ s.flc.cutReady = false

/-- The ports: a transmitter that is free has nothing to send, except where the link is the feed link controller's turn, which then has
a line ready (10 R155, R156, R158, R159), and there are eight counters (10 R160). -/
def State.portsSound (s : State) : Prop :=
  s.cpi.panel.sound ∧ s.cpi.room.sound ∧ s.cpi.tether.sound ∧ s.cpi.counters.length = 8 ∧
  (∀ k, s.cpi.roomTx = some k → s.cpi.room.holds k) ∧ (∀ k, s.cpi.tetherTx = some k → s.cpi.tether.holds k) ∧
  (s.cpi.roomTx = none → s.cpi.room.choice = none) ∧
  (s.cpi.tetherTx = none → s.cpi.tether.choice = none ∨ (s.flc.lineReady = true ∧ s.cpi.lastSide = some .cpi)) ∧
  (s.cpi.tetherTx ≠ none → s.cpi.lastSide = some .cpi) ∧ s.linkSettled

/-- The intake: a building set is open exactly while a frame is being received, at most 2880 lines are accepted, the line
store holds up to three of them, the timer is stopped in NO_SIGNAL (01 R2, R3, R7, R9, R12; 03 R38). -/
def State.intakeSound (s : State) : Prop :=
  (s.siu.intake = .receiving ↔ s.tsu.building.isSome = true) ∧ s.siu.lines ≤ 2880 ∧
  s.siu.frameNumber ≤ 281474976710655 ∧ (s.siu.intake = .noSignal → s.siu.timer = none) ∧
  (s.siu.intake = .receiving → s.peu.lineStore.length = min 3 s.siu.lines)

/-- Whether slot n carries a kind of holder. -/
def State.carries (s : State) (n : Nat) (k : HolderKind) : Prop :=
  (s.spm.slot n).holders.has k = true

/-- The pool: eight slots, a slot has no content exactly while it is FREE, at most one slot is LATEST, the slot being loaded
carries LOAD, and the frozen slot, the PAGE slot and the latched slots are those that carry FREEZE, PAGE, DISPLAY_LEFT and
DISPLAY_RIGHT (04 R47 to R50, R52 to R55, R59; 05 R66). -/
def State.poolSound (s : State) : Prop :=
  s.spm.slots.length = 8 ∧
  (∀ n, (s.spm.slot n).holders.isEmpty = true ↔ (s.spm.slot n).content = .nothing) ∧
  (∀ m n, s.carries m .latest → s.carries n .latest → m = n) ∧
  (∀ n c, s.lsc.activity = .loading n c → s.carries n .load) ∧
  (∀ n, s.carries n .freeze ↔ s.vwc.freeze = some n) ∧
  (∀ n, s.carries n .page ↔ s.vwc.page.map (·.slot) = some n) ∧
  (∀ n, s.carries n .displayLeft ↔ latchSlot s.dou.left = some n) ∧
  (∀ n, s.carries n .displayRight ↔ latchSlot s.dou.right = some n)

/-- The lesson table and the place map: 32 lessons of at most 64 pages with at most one OPEN, serials unique, every place at
most once a record's or RETIRED, names within their range also in the jobs (08 R124 to R127; 09 R147). -/
def State.storeSound (s : State) : Prop :=
  lessonsInRange s.lsc.lessons = true ∧ placesInRange s.lsc.lessons s.lsc.retired = true ∧ s.lsc.foundSound ∧
  (∀ j ∈ s.lsc.queue, ∀ l name, j.task = .nameLesson l name → nameInRange name = true)

/-- The job queue: at most 16 jobs, only the head can be other than QUEUED, and none while the store is STARTING (09 R137,
08 R132). -/
def State.queueSound (s : State) : Prop :=
  s.lsc.queue.length ≤ 16 ∧ (∀ j ∈ s.lsc.queue.tail, j.state = .queued) ∧ (s.lsc.mode = .starting → s.lsc.queue = [])

/-- A sound state. -/
def State.sound (s : State) : Prop :=
  s.settingsSound ∧ s.viewSound ∧ s.feedSound ∧ s.portsSound ∧ s.intakeSound ∧ s.poolSound ∧ s.storeSound ∧ s.queueSound

/-- A step keeps a property of states. -/
def keptByStep (inv : State → Prop) : Prop :=
  ∀ s t, inv s → step s = .next t → inv t

end Sys2Proof.Machine
end

