-- ==== Sys2Proof/Certificates/Slice0/Obligations.lean ====
section
/-! DEFINITION. The statements for the provers. Each is a proposition about the model; none is proved here. -/

open Sys2Proof Sys2Proof.Machine

/-! ### The part as a whole -/

/-- A step runs the command at the front of the queue on the state with the queue's rest; with an empty queue nothing happens (the
model's own choice, log 1). -/
def Obligations.StepRunsFrontCommand : Prop :=
  ∀ s : State,
    (∀ c rest, s.pending = c :: rest → step s = exec c { s with pending := rest }) ∧
    (s.pending = [] → step s = .next s)

/-- The values that the manual gives for start-up, the factory value of every saved setting among them, which stands until the
hand-over: 01 R2, R9, R11, R12, R15; 02 R19, R20, R23, R25, R32, Table 2-2; 03 R34, R35, R37, Table 3-2; 04 R63; 05 Table 5-2, R71
to R73; 06 Table 6-3; 07 Table 7-4, R103, R120; 08 R132, R133, Table 8-5; 09 R143, R151; 10 R155, R157, R159, R160, R161. Two values
are the model's: the recovery's first read is of block 0, page 0 (log 19), and no picture data stands in the slots (log 43). -/
def Obligations.ResetState : Prop :=
  let s := State.reset
  s.siu.intake = .waiting ∧ s.siu.frameNumber = 0 ∧ s.siu.timer = none ∧
  s.tsu.threshold = 40 ∧ s.tsu.building = none ∧ s.tsu.settled = none ∧
  s.tcl.table.entries =
    [ { enabled := true, kind := .mask, a := 0, b := 3584, action := .pass, text := false },
      { enabled := true, kind := .mask, a := 0, b := 56, action := .p1, text := false },
      { enabled := true, kind := .mask, a := 2048, b := 2048, action := .p1, text := true },
      { enabled := true, kind := .mask, a := 0, b := 0, action := .p2, text := false } ] ++
    List.replicate 28 { enabled := false, kind := .range, a := 0, b := 0, action := .pass, text := false } ∧
  s.tcl.table.fallback = { action := .p0, text := false } ∧ s.tcl.table.quorum = 4 ∧
  s.tcl.copy = none ∧ s.tcl.count = 0 ∧ s.tcl.box = none ∧ s.tcl.boxQuorum = none ∧
  s.peu.profiles =
    [ { g := 0, c := 0, s := 0, l := 0 }, { g := 40, c := 8, s := 8, l := 64 },
      { g := 12, c := 4, s := 0, l := 32 }, { g := 48, c := 12, s := 16, l := 96 } ] ∧
  s.peu.copy = none ∧ s.peu.source = none ∧
  s.spm.slots = List.replicate 8 freeSlot ∧ s.spm.freeCount = 8 ∧ s.spm.find .latest = none ∧ s.spm.notices = 0 ∧
  s.vwc.zt = 256 ∧ s.vwc.zc = 256 ∧ s.vwc.glide = 16 ∧ s.vwc.tx = 1920 ∧ s.vwc.ty = 1440 ∧
  s.vwc.window = { pw := 1920, ph := 1080, baseW := 3840, baseH := 2160, ww := 3840, wh := 2160, x0 := 0, y0 := 360,
                   cx := 1920, cy := 1440, sx := 131072, sy := 131072 } ∧
  s.vwc.freeze = none ∧ s.vwc.layout = .single ∧ s.vwc.page = none ∧ s.vwc.gen = 0 ∧ s.vwc.watch = none ∧
  s.dou.mode = 2 ∧ s.dou.pendingMode = 2 ∧ s.dou.raster = .stopped ∧ s.dou.blank = false ∧ s.dou.left = none ∧
  s.dou.right = none ∧
  s.flc.agreement = .offering ∧ s.flc.started = false ∧ s.flc.restartCount = 0 ∧ s.flc.partner = none ∧ s.flc.result = none ∧
  s.flc.notes = [] ∧ s.flc.marks = { high := 48, low := 16, start := 8 } ∧ s.flc.buffer = [] ∧ s.flc.hold = none ∧
  s.flc.pageTimer = none ∧ s.flc.intervalTimer = none ∧ s.flc.allowanceTimer = none ∧ s.flc.due = false ∧
  s.flc.frame = none ∧ s.flc.exportFrame = none ∧ s.flc.lastFed = 0 ∧
  s.lsc.mode = .starting ∧ s.lsc.queue = [] ∧ s.lsc.retryLimit = 2 ∧ s.lsc.flash = some (.read 0 0) ∧
  (∀ p : Port, (s.cpi.port p).owed = none ∧ (s.cpi.port p).busy = none ∧ (s.cpi.port p).completions = [] ∧
    (s.cpi.port p).overflow = false ∧ (s.cpi.port p).flags = 0 ∧ (s.cpi.port p).enables = 0) ∧
  (∀ table ∈ [s.cpi.reachRoom, s.cpi.reachTether], ∃ w1 w2 w3 : ReachWindow,
    table = [{ enabled := true, base := 0, mask := 0, showRight := true, saveRight := true, sendRight := true }, w1, w2, w3] ∧
    w1.enabled = false ∧ w2.enabled = false ∧ w3.enabled = false) ∧
  s.cpi.lastSide = none ∧ s.cpi.counters = List.replicate 8 0 ∧ s.cpi.halfFlags = 0 ∧ s.cpi.halfMasks = 0

/-- The state after reset is sound, so the invariants below hold from the first step on. -/
def Obligations.ResetIsSound : Prop :=
  State.reset.sound

/-- Every step keeps every setting within the range the manual gives it: classifier (02 R17, R24), edge threshold (01 R11),
profiles (03 R33), glide rate (05 R66), output modes (06 R88), feed marks (07 R113), retry limit (09 R143), reach tables (10
R157), notice enables (10 R159), and the saved settings record (08 Table 8-5). That adopted settings are within their ranges is
the model's (log 31). -/
def Obligations.SettingsStaySound : Prop :=
  keptByStep State.settingsSound

/-- Every step keeps the window worked out from the output mode in force, the layout, the current zoom and the target centre, with
both zooms within 256..4096, and keeps the page box within the frame's tiles (05 R66, R72, R78; 02 R25). -/
def Obligations.ViewStaysSound : Prop :=
  keptByStep State.viewSound

/-- Every step keeps the feed sound: a frame is in flight only in FEED_UP, the buffer never holds more lines than the high mark,
every line produced is sent or in the buffer unless the frame is cut, the page timer runs only during an agreement (07 R101, R108,
R111, R113, R114, R116, R120). That adopted marks are within their ranges is the model's (log 31). -/
def Obligations.FeedStaysSound : Prop :=
  keptByStep State.feedSound

/-- Every step keeps the ports sound: at most 8 completion records, a BUSY refusal only behind an owed reply, flags only for
enabled events, and no free transmitter with something to send unless the tether link is the feed link controller's turn, whose
pages and cut FRAME_END do not wait on a free link (10 R155, R156, R158, R159). When the controller counts as ready (log 23) and
that the hand-over clears flags (log 30) are the model's. -/
def Obligations.PortsStaySound : Prop :=
  keptByStep State.portsSound

/-- Every step keeps the intake sound: a building set is open exactly while a frame is being received, at most 2880 lines are
accepted, the enhancement holds at most three of them (01 R7, R9, R12; 03 R38). -/
def Obligations.IntakeStaysSound : Prop :=
  keptByStep State.intakeSound

/-- Every step keeps the pool sound: eight slots, a slot without content exactly while it is FREE, one LATEST slot at most, and
the holders FREEZE, PAGE, DISPLAY_LEFT and DISPLAY_RIGHT exactly on the slots that the view record and the latches name (04 R48 to
R50, R52 to R55; 05 R66). -/
def Obligations.PoolStaysSound : Prop :=
  keptByStep State.poolSound

/-- Every step keeps the lesson table and the place map sound: 32 lessons of at most 64 pages, at most one OPEN, serials unique,
no place shared and none both used and retired (08 R124 to R127). Every step keeps the job queue sound: at most 16 jobs, only the
head other than QUEUED, none while the store is STARTING (09 R137, 08 R132). That an adopted table is within its ranges is the
model's (log 31). -/
def Obligations.StoreAndQueueStaySound : Prop :=
  keptByStep State.storeSound ∧
  keptByStep State.queueSound

/-- No arrival stops the part: each one leads to a next state, with the queue of waiting arrivals as it was. The model's choice
(log 2): while the part is not powered, nothing but START_UP and POWER_LOSS has an effect. -/
def Obligations.EveryArrivalEnds : Prop :=
  (∀ (c : Instr) (s : State), ∃ t, exec c s = .next t ∧ t.pending = s.pending) ∧
  (∀ (c : Instr) (s : State), s.powered = false → c ≠ .startUp → c ≠ .powerLoss → exec c s = .next s)

/-! ### Taking a command (10) -/

/-- A command that arrives while a reply is owed at its port is refused BUSY and changes nothing else; with a BUSY refusal waiting
as well it is discarded without reply (10 R156). A body that the Room receiver takes is meant (log 24). A command whose argument
length is not one that 10 Table 10-7 allows for its kind, or a READ_CLASSIFIER whose count is outside 1..8, is refused BAD_LENGTH
and changes nothing, whatever port it came from (10 R156; 02 R31). A command of a kind that 10 Table 10-7 does not name is refused
UNKNOWN_COMMAND and changes nothing (10 R156). -/
def Obligations.CommandsRefusedAtPorts : Prop :=
  (∀ (c : Instr) (kind : Byte) (h : CmdHeader) (args : List Byte) (s : State) (r : Reply),
    asCommand c = some (kind, h, args) → s.powered = true → s.cpi.hears h.port → (s.cpi.port h.port).owed = some r →
    ∃ t, exec c s = .next t ∧
      ((s.cpi.port h.port).busy = none →
        s.becomes t (s.cpi.setPort h.port { s.cpi.port h.port with
          busy := some { kind := kind, marker := h.marker, status := .refused, reason := .busy, clamped := false,
                         gen := s.vwc.gen, data := .nothing } }) []) ∧
      (∀ q, (s.cpi.port h.port).busy = some q → s.becomes t s.cpi [])) ∧
  (∀ (c : Instr) (kind : Byte) (h : CmdHeader) (args : List Byte) (s : State),
    asCommand c = some (kind, h, args) → namedCommand c = true → s.takes h.port → lengthAllowed kind.toNat args.length = false →
    ∃ t, exec c s = .next t ∧ s.refuses t kind h .badLength) ∧
  (∀ (h : CmdHeader) (first count : Byte) (s : State), s.takes h.port → (count = 0 ∨ 8 < count.toNat) →
    ∃ t, exec (.readClassifier h [first, count]) s = .next t ∧ s.refuses t 20 h .badLength) ∧
  (∀ (kind : Byte) (h : CmdHeader) (args : List Byte) (s : State), s.takes h.port → (kind = 0 ∨ 59 < kind.toNat) →
    ∃ t, exec (.unknownCommand kind h args) s = .next t ∧ s.refuses t kind h .unknownCommand)

/-! ### Transmitters, transactions and dropped input (10) -/

/-- The sending of a Room frame ends: what was sent leaves the port, and the transmitter, now free, begins with the owed reply,
otherwise with the oldest completion record, otherwise with a notice (10 R156, R158, R159). The sending of a command-channel
packet on the tether link ends: what was sent leaves the port, and it is the feed link controller's turn. Of its waiting agreement
pages the first goes, then the port begins its next packet; with nothing of the port's own to send all go. A waiting FRAME_END
with CUT goes in the same way, and a line ready keeps the link for the controller (10 R155, R156, R158, R159; log 22 on the
overflow flag, log 23 on when the controller is ready). -/
def Obligations.SendingEnds : Prop :=
  (∀ (s : State) (k : Sending), s.powered = true → s.cpi.roomTx = some k →
    ∃ t p body, exec .roomFrameSent s = .next t ∧ s.cpi.room.sentOne p k ∧ s.becomes t { s.cpi with room := p } [] ∧
      p.sends t.cpi.room t.cpi.roomTx body ∧
      (t.cpi.roomTx.isSome = true → Emission.roomFrame (roomWrap body) ∈ t.emitted)) ∧
  (∀ (s : State) (k : Sending), s.powered = true → s.cpi.tetherTx = some k → s.cpi.lastSide = some .cpi →
    ∃ t p body, exec .tetherPacketSent s = .next t ∧ s.cpi.tether.sentOne p k ∧
      let c := { s.cpi with tether := p }
      let has := p.owed ≠ none ∨ p.completions ≠ [] ∨ p.flags ≠ 0
      let begins := p.sends t.cpi.tether t.cpi.tetherTx body ∧
        ∀ j, t.cpi.tetherTx = some j →
          t.cpi.lastSide = some .cpi ∧ Emission.tetherCommand (tetherWrap j.packetKind false body) ∈ t.emitted
      let start := fun f : FeedFrame => if f.sent = 0 then [FeedPacket.frameStart f.kind f.width f.height] else []
      (s.flc.pages = [] → s.flc.cutReady = false → s.becomes t c [] ∧ t.sentFeed [] ∧
        (s.flc.lineReady = true → has → t.cpi.tetherTx = none ∧ t.cpi.tether = p ∧ t.cpi.lastSide = some .cpi) ∧
        (s.flc.lineReady = false ∨ ¬ has → begins)) ∧
      (∀ a rest, s.flc.pages = a :: rest → has → s.becomes t c [.flc] ∧ t.flc = { s.flc with pages := rest } ∧
        t.sentFeed [.page a] ∧ begins) ∧
      (s.flc.cutReady = false → ¬ has → s.becomes t c [.flc] ∧ t.flc = { s.flc with pages := [] } ∧
        t.sentFeed (s.flc.pages.map FeedPacket.page) ∧ t.cpi.tetherTx = none) ∧
      (∀ f n, s.flc.frame = some f → f.cut = true → f.kind = .live n → s.flc.hold = none → (s.flc.pages = [] ∨ ¬ has) →
        s.becomes t c [.flc] ∧
        t.flc = { s.flc with pages := [], frame := none, buffer := [], allowanceTimer := none } ∧
        t.sentFeed (s.flc.pages.map FeedPacket.page ++ start f ++ [.frameEnd true]) ∧ begins))

/-- A transaction of the Panel port whose first byte is READ clocks out the nothing-owed state byte, or the reply-follows byte with
the reply's length and body. The reply leaves the port when every byte has been clocked out, and stays owed otherwise (10 R153,
R156). One whose first byte is COMMAND is its command, which is taken at the release; while nothing is owed, the nothing-owed value
is driven on data-out at its kind byte and every byte of its body (10 R153, R162; log 56). A COMMAND transaction without a command
body, and a transaction with any other first byte or none, change nothing; the line is driven in the first of them as well (10
R153). -/
def Obligations.PanelRead : Prop :=
  (∀ (s : State) (rest : List Byte), s.powered = true →
    let clocked := rest.length
    ∃ t, exec (.panelReadTransaction (0x02 :: rest)) s = .next t ∧
      (s.cpi.panel.owed = none → t.emitted.head? = some (.panelDataOut ([0].take clocked)) ∧ s.becomes t s.cpi []) ∧
      (∀ r, s.cpi.panel.owed = some r →
        t.emitted.head? = some (.panelDataOut ((1 :: halfBytes r.bytes.length ++ r.bytes).take clocked)) ∧
        (r.bytes.length + 3 ≤ clocked →
          s.becomes t { s.cpi with panel := { s.cpi.panel with owed := s.cpi.panel.busy, busy := none } } []) ∧
        (clocked < r.bytes.length + 3 → s.becomes t s.cpi []))) ∧
  (∀ (c : Instr) (kind : Byte) (h : CmdHeader) (args : List Byte) (s : State), asCommand c = some (kind, h, args) →
    (namedCommand c = true ∨ kind = 0 ∨ 59 < kind.toNat) → h.port = .panel →
    exec (.panelReadTransaction (0x01 :: commandBody kind h args)) s = exec c s ∧
    (s.powered = true → s.cpi.panel.owed = none →
      ∃ t, exec c s = .next t ∧ Emission.panelDataOut (List.replicate (args.length + 7) 0) ∈ t.emitted)) ∧
  (∀ (s : State) (body : List Byte), s.powered = true → decodeBody .panel body = none →
    ∃ t, exec (.panelReadTransaction (0x01 :: body)) s = .next t ∧ s.becomes t s.cpi [] ∧
      (s.cpi.panel.owed = none → Emission.panelDataOut (List.replicate (body.length + 1) 0) ∈ t.emitted)) ∧
  (∀ (s : State) (sent : List Byte), s.powered = true → sent.head? ≠ some 0x01 → sent.head? ≠ some 0x02 →
    ∃ t, exec (.panelReadTransaction sent) s = .next t ∧ s.becomes t s.cpi [])

/-- The Room receiver takes a well-wrapped body of 1 to 2048 bytes: after every byte but the checksum it still takes the frame, with
the checksum it has the body, and it hunts again. With another checksum byte it drops the frame. A length outside 1..2048 drops the
frame at once, and the receiver hunts again from the byte after the start byte, so that a start byte among the two length bytes
begins a frame (10 R154). Bytes from which it takes no body change nothing but the receiver; a frame that passes its tests is taken
as its command, and a frame in progress swallows the bytes of a command's frame (10 R154; log 24). The bytes of a command's body
spell that command again (10 R162). A tether packet is read by its two header words, lower byte first: the kind, the bit that the
last word holds one byte, and the length in words. A COMMAND packet with a command body is taken as its command, one of the kinds
BASE_OFFER, NOTE_PAGE and HOLD as that arrival (log 9 on its payload), and COMMAND without a command body or a kind that names no
owner changes nothing (10 R155, R162; log 53); nor does a frame kind from the bridge or a payload that holds no value of its kind
(log 63). -/
def Obligations.RoomInputTakenAndDropped : Prop :=
  (∀ body : List Byte, 1 ≤ body.length → body.length ≤ 2048 →
    RoomReceiver.hunting.takeAll (roomWrap body).dropLast = (.taking (roomWrap body).dropLast.tail, []) ∧
    RoomReceiver.hunting.takeAll (roomWrap body) = (.hunting, [body]) ∧
    ∀ x : Byte, some x ≠ (roomWrap body).getLast? →
      RoomReceiver.hunting.takeAll ((roomWrap body).dropLast ++ [x]) = (.hunting, [])) ∧
  (∀ lo hi : Byte, (lo.toNat + 256 * hi.toNat = 0 ∨ 2048 < lo.toNat + 256 * hi.toNat) →
    RoomReceiver.hunting.takeAll [0xC3, lo, hi] = RoomReceiver.hunting.takeAll [lo, hi] ∧
    (lo ≠ 0xC3 → RoomReceiver.hunting.takeAll [lo] = (.hunting, []))) ∧
  (∀ (c : Instr) (kind : Byte) (h : CmdHeader) (args : List Byte), asCommand c = some (kind, h, args) →
    (namedCommand c = true ∨ kind = 0 ∨ 59 < kind.toNat) → decodeBody h.port (commandBody kind h args) = some c) ∧
  (∀ s : State, s.powered = true →
    (∀ bytes, (s.cpi.roomRx.takeAll bytes).2 = [] → ∃ t, exec (.roomFrameDropped bytes) s = .next t ∧
      s.becomes t { s.cpi with roomRx := (s.cpi.roomRx.takeAll bytes).1 } []) ∧
    (∀ body c, s.cpi.roomRx = .hunting → 1 ≤ body.length → body.length ≤ 2048 → decodeBody .room body = some c →
      exec (.roomFrameDropped (roomWrap body)) s = exec c s) ∧
    (∀ c kind h args, asCommand c = some (kind, h, args) → h.port = .room → s.cpi.roomRx ≠ .hunting →
      exec c s = exec (.roomFrameDropped (roomWrap (commandBody kind h args))) s) ∧
    (∀ (flags kind lo hi : Byte) (words : List Byte), words.length = 2 * (lo.toNat + 256 * hi.toNat) →
      let payload := if flags &&& 2 ≠ 0 then words.dropLast else words
      let arrival : Instr := .tetherPacketDiscarded [flags, kind, lo, hi] words
      let dropped := ∃ t, exec arrival s = .next t ∧ s.becomes t s.cpi []
      (kind = 1 → decodeBody .tether payload = none → dropped) ∧
      (∀ c, kind = 1 → decodeBody .tether payload = some c → exec arrival s = exec c s) ∧
      (∀ o, kind = 8 → Config.offer.read payload = some o → exec arrival s = exec (.baseOffer o) s) ∧
      (∀ p, kind = 9 → Config.note.read payload = some p → exec arrival s = exec (.notePage p) s) ∧
      (∀ d, kind = 10 → Config.hold.read payload = some d → exec arrival s = exec (.hold d) s) ∧
      (kind = 8 → Config.offer.read payload = none → dropped) ∧ (kind = 9 → Config.note.read payload = none → dropped) ∧
      (kind = 10 → Config.hold.read payload = none → dropped) ∧ (kind ∉ [(1 : Byte), 8, 9, 10] → dropped)) ∧
    (let arrival := fun (kind : Byte) (payload : List Byte) =>
       Instr.tetherPacketDiscarded ((tetherWrap kind false payload).take 4) ((tetherWrap kind false payload).drop 4)
     (∀ body c, body.length ≤ 131070 → decodeBody .tether body = some c → exec (arrival 1 body) s = exec c s) ∧
     (∀ o, exec (arrival 8 (Config.offer.bytes o)) s = exec (.baseOffer o) s) ∧
     (∀ p, exec (arrival 9 (Config.note.bytes p)) s = exec (.notePage p) s) ∧
     (∀ d, exec (arrival 10 (Config.hold.bytes d)) s = exec (.hold d) s)))

/-! ### Events, counters and completion records (10) -/

/-- An event sets its pending flag on every port that enables it and changes nothing else of the CPI; a flag already set stays set
(10 R159). A completion record joins the end of its origin port's queue, or is discarded with the overflow flag set when the queue
holds 8; the other ports keep theirs (10 R158). The Panel notice line is asserted while a record or a flag is there. -/
def Obligations.EventsAndRecordsKept : Prop :=
  (∀ (c : Cpi) (e : Event),
    (∀ p : Port, (c.raise e).port p = { c.port p with
      flags := if (c.port p).enables.getLsbD e.number then (c.port p).flags ||| (1#32 <<< e.number) else (c.port p).flags }) ∧
    (∀ p : Port, (c.raise e).port p = c.port p ∨ ((c.raise e).port p).flags.getLsbD e.number = true) ∧
    { c.raise e with panel := c.panel, room := c.room, tether := c.tether } = c) ∧
  (∀ (c : Cpi) (p : Port) (r : Completion),
    ((c.port p).completions.length < 8 → (c.given p r).port p = { c.port p with completions := (c.port p).completions ++ [r] }) ∧
    (8 ≤ (c.port p).completions.length → (c.given p r).port p = { c.port p with overflow := true }) ∧
    (∀ q, q ≠ p → (c.given p r).port q = c.port q) ∧
    (c.noticeLine = false ↔ c.panel.completions = [] ∧ c.panel.flags = 0))

/-- An increment adds 1 to its counter, from 4294967295 to 0, and leaves the other counters. From 2147483647 it sets the counter's
half-range flag and raises COUNTER_HALF unless the half mask is set; at every other value the flags stay (10 R160). -/
def Obligations.CounterCounts : Prop :=
  ∀ (c : Cpi) (k : Counter), c.counters.length = 8 →
    (c.count k).counter k = c.counter k + 1 ∧ (∀ j, j ≠ k → (c.count k).counter j = c.counter j) ∧
    (c.count k).halfMasks = c.halfMasks ∧
    (c.counter k ≠ 2147483647 → (c.count k).halfFlags = c.halfFlags ∧ ∀ p : Port, (c.count k).port p = c.port p) ∧
    (c.counter k = 2147483647 →
      (c.count k).halfFlags = c.halfFlags ||| (1#8 <<< k.number) ∧
      ∀ p : Port, (c.count k).port p =
        if c.halfMasks.getLsbD k.number then c.port p else (c.raise .counterHalf).port p)

/-! ### The view (05) -/

/-- A view-changing command with an expected generation that is not the one in force is refused STALE and changes nothing, not
even a glide watch. Without a LATEST slot a FREEZE that passes this check is refused NO_FRAME (05 R69, R70, R82). -/
def Obligations.ConditionalViewCommands : Prop :=
  (∀ (c : Instr) (kind : Byte) (h : CmdHeader) (args : List Byte) (s : State),
    asCommand c = some (kind, h, args) → namedCommand c = true → kind.toNat ≤ 10 →
    lengthAllowed kind.toNat args.length = true → s.takes h.port → s.conditionFails h →
    ∃ t, exec c s = .next t ∧ s.refuses t kind h .stale) ∧
  (∀ (h : CmdHeader) (s : State), s.takes h.port → ¬ s.conditionFails h → s.spm.find .latest = none →
    ∃ t, exec (.freeze h []) s = .next t ∧ s.refuses t 6 h .noFrame)

/-- PAN and CENTRE set the target centre within 0..3839 and 0..2879, and the window is worked out anew with the zoom in force; the
zooms, the glide and its watch stay. The generation advances, VIEW_CHANGED is raised, and the DONE reply carries the figures and
whether a limit applied (05 R68, R70, R72, R80). SET_GLIDE writes the glide rate, limited to 255, and nothing else of the view but
its generation: the target zoom and the glide watch stay. The next glide step uses the new rate (05 R77, R78). LAYOUT sets the
layout, an encoding above 1 becoming SINGLE, and the window is worked out anew for the new pane with the zooms and the target
centre kept (05 R84). -/
def Obligations.CentreLayoutAndGlideSet : Prop :=
  (∀ (h : CmdHeader) (x0 x1 y0 y1 : Byte) (s : State), s.takes h.port → ¬ s.conditionFails h →
    let px := (s.vwc.tx : Int) + signedHalf x0 x1
    let py := (s.vwc.ty : Int) + signedHalf y0 y1
    let tx := (max 0 (min 3839 px)).toNat
    let ty := (max 0 (min 2879 py)).toNat
    let cx := min 3839 (half x0 x1)
    let cy := min 2879 (half y0 y1)
    (∃ t, exec (.pan h [x0, x1, y0, y1]) s = .next t ∧
      t.vwc = { s.vwc with tx := tx, ty := ty, window := windowOf s.dou.mode s.vwc.layout s.vwc.zc tx ty,
                           gen := s.vwc.gen + 1 } ∧
      s.answers t (s.cpi.raise .viewChanged) 3 h
        (doneWith (decide (px < 0 ∨ 3839 < px ∨ py < 0 ∨ 2879 < py)) (.view t.vwc.figures)) [.vwc]) ∧
    (∃ t, exec (.centre h [x0, x1, y0, y1]) s = .next t ∧
      t.vwc = { s.vwc with tx := cx, ty := cy, window := windowOf s.dou.mode s.vwc.layout s.vwc.zc cx cy,
                           gen := s.vwc.gen + 1 } ∧
      s.answers t (s.cpi.raise .viewChanged) 4 h
        (doneWith (decide (3839 < half x0 x1 ∨ 2879 < half y0 y1)) (.view t.vwc.figures)) [.vwc])) ∧
  (∀ (h : CmdHeader) (r0 r1 : Byte) (s : State), s.takes h.port → ¬ s.conditionFails h →
    let rate := min 255 (r0.toNat + 256 * r1.toNat)
    (∃ t, exec (.setGlide h [r0, r1]) s = .next t ∧
      t.vwc = { s.vwc with glide := rate, gen := s.vwc.gen + 1 } ∧
      (t.glide.vwc.zc : Int) = (if rate = 0 then (s.vwc.zt : Int)
        else if s.vwc.zc < s.vwc.zt then min (s.vwc.zc + rate : Int) s.vwc.zt else max ((s.vwc.zc : Int) - rate) s.vwc.zt) ∧
      s.answers t (s.cpi.raise .viewChanged) 10 h
        (doneWith (decide (255 < r0.toNat + 256 * r1.toNat)) (.view t.vwc.figures)) [.vwc])) ∧
  (∀ (h : CmdHeader) (b : Byte) (s : State), s.takes h.port → ¬ s.conditionFails h →
    let layout : Layout := if b = 1 then .split else .single
    ∃ t, exec (.layout h [b]) s = .next t ∧
      t.vwc = { s.vwc with layout := layout, window := windowOf s.dou.mode layout s.vwc.zc s.vwc.tx s.vwc.ty,
                           gen := s.vwc.gen + 1 } ∧
      s.answers t (s.cpi.raise .viewChanged) 8 h (doneWith (decide (1 < b.toNat)) (.view t.vwc.figures)) [.vwc])

/-- ZOOM sets the target zoom within 256..4096, and the glide rate when a rate comes with it; the current zoom and the window stay.
The generation advances, VIEW_CHANGED is raised, and the reply carries the view figures (05 R68, R70). A watch in force ends as
SUPERSEDED, and with completion wanted a new watch starts and the answer is ACCEPTED (05 R75, R79). ZOOM_STEP adds a signed delta to
the target zoom, limited to 256..4096, and leaves the glide rate and the current zoom; it ends and starts glide watches as ZOOM does
(05 R76). A completion-wanted byte above 1 is clamped to 1, which the reply reports (05 R70; 00 section 1.6.2). -/
def Obligations.ZoomsSetTarget : Prop :=
  (∀ (h : CmdHeader) (z0 z1 w : Byte) (rate : List Byte) (s : State), s.takes h.port → ¬ s.conditionFails h →
    (rate = [] ∨ ∃ r0 r1, rate = [r0, r1]) →
    let asked := z0.toNat + 256 * z1.toNat
    let zt := max 256 (min 4096 asked)
    let speed := match rate with
      | [r0, r1] => r0.toNat + 256 * r1.toNat
      | _ => s.vwc.glide
    let limited := decide (asked < 256 ∨ 4096 < asked ∨ 1 < w.toNat ∨ (rate ≠ [] ∧ 255 < speed))
    ∃ t, exec (.zoom h (z0 :: z1 :: w :: rate)) s = .next t ∧
      t.vwc = { s.vwc with
        zt := zt, glide := if rate = [] then s.vwc.glide else min 255 speed, gen := s.vwc.gen + 1,
        watch := if w ≠ 0 then some { port := h.port, marker := h.marker, kind := .zoom, target := zt } else none } ∧
      s.answers t (s.superseding.raise .viewChanged) 1 h
        (if w ≠ 0 then accepted limited (.view t.vwc.figures) else doneWith limited (.view t.vwc.figures)) [.vwc]) ∧
  (∀ (h : CmdHeader) (d0 d1 w : Byte) (s : State), s.takes h.port → ¬ s.conditionFails h →
    let asked := (s.vwc.zt : Int) + signedHalf d0 d1
    let zt := (max 256 (min 4096 asked)).toNat
    let limited := decide (asked < 256 ∨ 4096 < asked ∨ 1 < w.toNat)
    ∃ t, exec (.zoomStep h [d0, d1, w]) s = .next t ∧
      t.vwc = { s.vwc with
        zt := zt, gen := s.vwc.gen + 1,
        watch := if w ≠ 0 then some { port := h.port, marker := h.marker, kind := .zoomStep, target := zt } else none } ∧
      s.answers t (s.superseding.raise .viewChanged) 2 h
        (if w ≠ 0 then accepted limited (.view t.vwc.figures) else doneWith limited (.view t.vwc.figures)) [.vwc])

/-- FIT_PAGE aims at the middle of the page box, with the largest zoom within 256..4096 at which the window holds the box grown by
a tile on each side and clipped to the frame; with an EMPTY page box it aims at the whole frame and says fallback. The window is
worked out anew, a watch in force ends as SUPERSEDED (05 R81). -/
def Obligations.PageIsFitted : Prop :=
  ∀ (h : CmdHeader) (s : State), s.takes h.port → ¬ s.conditionFails h →
    let aimed := fun zt tx ty => { s.vwc with
      zt := zt, tx := tx, ty := ty, window := windowOf s.dou.mode s.vwc.layout s.vwc.zc tx ty, gen := s.vwc.gen + 1,
      watch := none }
    (s.tcl.box = none → ∃ t, exec (.fitPage h []) s = .next t ∧ t.vwc = aimed 256 1920 1440 ∧
      s.answers t (s.superseding.raise .viewChanged) 5 h (doneWith false (.fit t.vwc.figures true)) [.vwc]) ∧
    (∀ b, s.tcl.box = some b →
      let gw := min 3839 (64 * (b.c1 + 1) + 63) - 64 * (b.c0 - 1) + 1
      let gh := min 2879 (64 * (b.r1 + 1) + 63) - 64 * (b.r0 - 1) + 1
      let zt := max 256 (min 4096 (min (s.vwc.window.baseW * 256 / gw) (s.vwc.window.baseH * 256 / gh)))
      ∃ t, exec (.fitPage h []) s = .next t ∧
        t.vwc = aimed zt (64 * b.c0 + 32 * (b.c1 - b.c0 + 1)) (64 * b.r0 + 32 * (b.r1 - b.r0 + 1)) ∧
        s.answers t (s.superseding.raise .viewChanged) 5 h (doneWith false (.fit t.vwc.figures false)) [.vwc])

/-- FREEZE moves the FREEZE holder to the LATEST slot and the freeze state names it; UNFREEZE removes the holder and the view is
LIVE again; SHOW_LIVE removes the PAGE holder and no page is shown. UNFREEZE in a LIVE view and SHOW_LIVE without a page change no
holder. In all cases the generation advances (05 R82, R83, R85; 04 R54, R55). -/
def Obligations.FreezeAndPageHolders : Prop :=
  ∀ (h : CmdHeader) (s : State), s.takes h.port → ¬ s.conditionFails h →
    (∀ n, s.spm.find .latest = some n → ∃ t, exec (.freeze h []) s = .next t ∧
      t.vwc = { s.vwc with freeze := some n, gen := s.vwc.gen + 1 } ∧ t.spm = s.spm.move .freeze (some n) ∧
      s.answers t (s.cpi.raise .viewChanged) 6 h (doneWith false (.view t.vwc.figures)) [.vwc, .spm]) ∧
    (∃ t, exec (.unfreeze h []) s = .next t ∧
      t.vwc = { s.vwc with freeze := none, gen := s.vwc.gen + 1 } ∧
      (s.vwc.freeze = none → t.spm = s.spm) ∧ (∀ n, s.vwc.freeze = some n → t.spm = s.spm.remove n .freeze) ∧
      s.answers t (s.cpi.raise .viewChanged) 7 h (doneWith false (.view t.vwc.figures)) [.vwc, .spm]) ∧
    (∃ t, exec (.showLive h []) s = .next t ∧
      t.vwc = { s.vwc with page := none, gen := s.vwc.gen + 1 } ∧
      (s.vwc.page = none → t.spm = s.spm) ∧ (∀ p, s.vwc.page = some p → t.spm = s.spm.remove p.slot .page) ∧
      s.answers t (s.cpi.raise .viewChanged) 9 h (doneWith false (.view t.vwc.figures)) [.vwc, .spm])

/-- The window lies wholly inside the 3840 x 2880 frame, is as large as the zoom says, has its left and top edge half its size
before the target as far as the frame allows and its effective centre half its size after them, keeps the target at its middle
where the frame's edges allow, and has at least one source pixel in each direction for every zoom within 256..4096 (05 R71, R72,
R73). Once the zoom has glided to what FIT_PAGE set, and the grown page box is no larger than the base window, the page box lies
wholly inside the window (05 R81, last paragraph). -/
def Obligations.WindowInFrameAndPageInWindow : Prop :=
  (∀ (mode : Nat) (layout : Layout) (zc tx ty : Nat), 256 ≤ zc → zc ≤ 4096 →
    let w := windowOf mode layout zc tx ty
    w.x0 + w.ww ≤ 3840 ∧ w.y0 + w.wh ≤ 2880 ∧ 120 ≤ w.ww ∧ 135 ≤ w.wh ∧
    w.ww = w.baseW * 256 / zc ∧ w.wh = w.baseH * 256 / zc ∧
    (w.x0 : Int) = max 0 (min (3840 - (w.ww : Int)) ((tx : Int) - (w.ww / 2 : Nat))) ∧
    (w.y0 : Int) = max 0 (min (2880 - (w.wh : Int)) ((ty : Int) - (w.wh / 2 : Nat))) ∧
    w.cx = w.x0 + w.ww / 2 ∧ w.cy = w.y0 + w.wh / 2 ∧
    (w.ww / 2 ≤ tx → tx + w.ww ≤ 3840 + w.ww / 2 → w.cx = tx) ∧ (w.wh / 2 ≤ ty → ty + w.wh ≤ 2880 + w.wh / 2 → w.cy = ty) ∧
    w.sx = w.ww * 65536 / w.pw ∧ w.sy = w.wh * 65536 / w.ph ∧
    (w.baseW = 3840 ∧ w.baseH = 3840 * w.ph / w.pw ∧ w.ph * 3840 ≤ w.pw * 2880 ∨
     w.baseH = 2880 ∧ w.baseW = 2880 * w.pw / w.ph ∧ w.pw * 2880 < w.ph * 3840)) ∧
  (∀ (mode : Nat) (layout : Layout) (zc tx ty : Nat) (b : TileBox), b.inRange →
    let base := windowOf mode layout zc tx ty
    let aim := fitTarget base (some b)
    let w := windowOf mode layout aim.1 aim.2.1 aim.2.2.1
    (grown b.c0 b.c1 3840).2 + 1 - (grown b.c0 b.c1 3840).1 ≤ base.baseW →
    (grown b.r0 b.r1 2880).2 + 1 - (grown b.r0 b.r1 2880).1 ≤ base.baseH →
    w.x0 ≤ b.rect.x0 ∧ b.rect.x0 + b.rect.w ≤ w.x0 + w.ww ∧ w.y0 ≤ b.rect.y0 ∧ b.rect.y0 + b.rect.h ≤ w.y0 + w.wh)

/-! ### The projector output (06) -/

/-- An output frame start of a raster that is not STOPPED: one glide step, which never passes the target zoom, the window worked
out anew, and then the test of the glide watch, whose record is given when the zoom stands at its target (05 R78, R79). Said for a
frame start of the raster in force (log 50). -/
def Obligations.OutputFrameGlides : Prop :=
  ∀ s : State, s.powered = true → s.dou.raster ≠ .stopped → s.dou.stale = 0 → s.viewSound →
    let zc := if s.vwc.glide = 0 then s.vwc.zt
      else if s.vwc.zc < s.vwc.zt then min (s.vwc.zc + s.vwc.glide) s.vwc.zt
      else max (s.vwc.zc - s.vwc.glide) s.vwc.zt
    ∃ t, exec .outputFrameStart s = .next t ∧ s.unchanged t [.vwc, .spm, .dou] ∧
      t.vwc = { s.vwc with zc := zc, window := windowOf s.dou.mode s.vwc.layout zc s.vwc.tx s.vwc.ty,
                           watch := if zc = s.vwc.zt then none else s.vwc.watch } ∧
      (∀ w, s.vwc.watch = some w → zc = s.vwc.zt →
        (s.cpi.given w.port (w.completes .done s.siu.frameNumber)).afterSending t.cpi) ∧
      ((s.vwc.watch = none ∨ zc ≠ s.vwc.zt) → s.cpi.afterSending t.cpi)

/-- An output frame start latches the panes from BLANK, the layout, the page shown, the frozen slot and the LATEST slot, with the
window after the glide step, and moves the display holders to the latched slots; the raster is RUNNING from then on (06 R87, R93,
Tables 6-4, 6-5; 04 R53). An output frame start that waited when its raster was stopped does not happen: nothing is latched and
the raster stays as it is (06 R90; log 50). A STOPPED raster starts no output frame (06 R87; log 3). -/
def Obligations.OutputFrameLatches : Prop :=
  (∀ s : State, s.powered = true → s.dou.stale ≠ 0 → ∃ t, exec .outputFrameStart s = .next t ∧
    t.dou = { s.dou with stale := s.dou.stale - 1 } ∧ s.becomes t s.cpi [.dou]) ∧
  (∀ s : State, s.powered = true → s.dou.stale = 0 → s.dou.raster = .stopped →
    ∃ t, exec .outputFrameStart s = .next t ∧ s.becomes t s.cpi []) ∧
  (∀ s : State, s.powered = true → s.dou.raster ≠ .stopped → s.dou.stale = 0 →
    ∃ t live, exec .outputFrameStart s = .next t ∧
      (∀ n, s.vwc.freeze = some n → live = .liveWindow n t.vwc.window) ∧
      (∀ n, s.vwc.freeze = none → s.spm.find .latest = some n → live = .liveWindow n t.vwc.window) ∧
      (s.vwc.freeze = none → s.spm.find .latest = none → live = .fill .grey) ∧
      t.dou = { s.dou with
        raster := .running,
        left := some (match s.dou.blank, s.vwc.layout, s.vwc.page with
          | true, _, _ => .fill .black
          | false, .single, some p => .pageFit p.slot
          | false, .single, none => live
          | false, .split, _ => live),
        right := match s.vwc.layout, s.dou.blank, s.vwc.page with
          | .single, _, _ => none
          | .split, true, _ => some (.fill .black)
          | .split, false, some p => some (.pageFit p.slot)
          | .split, false, none => some (.fill .white) } ∧
      t.spm = (s.spm.move .displayLeft (latchSlot t.dou.left)).move .displayRight (latchSlot t.dou.right))

/-- OUTPUT_RESTART is refused BUSY while the raster is STOPPED. Otherwise both latches are dropped and both display holders
removed, the output takes the pending mode, the window is worked out anew for it with the zooms and the target kept,
OUTPUT_RESTARTED is raised and the raster is RESTARTING; the output frame starts that wait then do not happen (06 R89, R90; 05
R67; log 50). SET_OUTPUT_MODE writes the pending mode, limited to 3, and answers with both modes, the mode in force unchanged;
BLANK sets the blank state at once, an encoding above 1 becoming off, and no latch or holder changes before the next output frame
start (06 R88, R98). -/
def Obligations.OutputRestartsAndIsSet : Prop :=
  (∀ (h : CmdHeader) (s : State), s.takes h.port →
    (s.dou.raster = .stopped → ∃ t, exec (.outputRestart h []) s = .next t ∧ s.refuses t 27 h .busy) ∧
    (s.dou.raster ≠ .stopped → ∃ t, exec (.outputRestart h []) s = .next t ∧
      t.dou = { s.dou with
        mode := s.dou.pendingMode, raster := .restarting, left := none, right := none,
        stale := s.pending.count .outputFrameStart } ∧
      t.vwc = { s.vwc with window := windowOf s.dou.pendingMode s.vwc.layout s.vwc.zc s.vwc.tx s.vwc.ty } ∧
      t.spm = (s.spm.removeKind .displayLeft).removeKind .displayRight ∧
      s.answers t (s.cpi.raise .outputRestarted) 27 h (done false) [.dou, .vwc, .spm])) ∧
  (∀ (h : CmdHeader) (b : Byte) (s : State), s.takes h.port →
    (∃ t, exec (.setOutputMode h [b]) s = .next t ∧ t.dou = { s.dou with pendingMode := min 3 b.toNat } ∧
      s.answers t s.cpi 26 h (doneWith (decide (3 < b.toNat)) (.outputModes (min 3 b.toNat) s.dou.mode)) [.dou]) ∧
    (∃ t, exec (.blank h [b]) s = .next t ∧ t.dou = { s.dou with blank := decide (b = 1) } ∧
      s.answers t s.cpi 28 h (done (decide (1 < b.toNat))) [.dou]))

/-! ### The commands of the ports (10) -/

/-- READ_COMPLETIONS and READ_NOTICES: on the Panel port the records are carried by the reply and removed, on the other ports they
stay; the overflow flag is reported and cleared; the pending flags are reported with the enables and cleared (10 R158, R159); that
the reply gives the enables on the Room and Tether ports too is the model's (log 61). SET_NOTICE_ENABLES replaces the sending port's
enables, without numbers 17..31, and clears the flags of the events it disables; it sets no flag (10 R159). CLEAR_COUNTERS sets the
eight counters to 0 and clears the half-range flags, keeping the masks; SET_HALF_MASKS replaces the eight masks and changes no flag
(10 R160). -/
def Obligations.PortStateReadAndSet : Prop :=
  (∀ (h : CmdHeader) (s : State), s.takes h.port →
    let port := s.cpi.port h.port
    (h.port = .panel → ∃ t, exec (.readCompletions h []) s = .next t ∧
      s.answers t (s.cpi.setPort h.port { port with completions := port.completions.drop 8, overflow := false }) 51 h
        (doneWith false (.completions (port.completions.take 8) port.overflow)) []) ∧
    (h.port ≠ .panel → ∃ t, exec (.readCompletions h []) s = .next t ∧
      s.answers t (s.cpi.setPort h.port { port with overflow := false }) 51 h
        (doneWith false (.completions [] port.overflow)) []) ∧
    (∃ t, exec (.readNotices h []) s = .next t ∧
      s.answers t (s.cpi.setPort h.port { port with flags := 0 }) 52 h
        (doneWith false (.notices port.flags port.enables)) [])) ∧
  (∀ (h : CmdHeader) (b0 b1 b2 b3 : Byte) (s : State), s.takes h.port →
    let asked : Quad := b3 ++ b2 ++ b1 ++ b0
    let enables := asked &&& 0x1FFFF#32
    ∃ t, exec (.setNoticeEnables h [b0, b1, b2, b3]) s = .next t ∧
      s.answers t (s.cpi.setPort h.port { s.cpi.port h.port with enables := enables,
                                                                 flags := (s.cpi.port h.port).flags &&& enables }) 53 h
        (done (decide (asked >>> 17 ≠ 0))) []) ∧
  (∀ (h : CmdHeader) (s : State), s.takes h.port →
    (∃ t, exec (.clearCounters h []) s = .next t ∧
      s.answers t { s.cpi with counters := [0, 0, 0, 0, 0, 0, 0, 0], halfFlags := 0 } 57 h (done false) []) ∧
    (∀ m, ∃ t, exec (.setHalfMasks h [m]) s = .next t ∧ s.answers t { s.cpi with halfMasks := m } 58 h (done false) []))

/-- SET_REACH replaces a window of the Room or Tether table at once, each field limited as the rule says, and is refused NOT_PANEL
from the other ports. READ_REACH gives both tables (10 R156, R157). A port's rights on a lesson: the Panel port holds all; the
others hold the union of the rights of their enabled windows that contain the lesson, and none without such a window (10 R157).
Bits 3 to 7 of a rights byte grant nothing (log 11). -/
def Obligations.ReachSetAndGranted : Prop :=
  (∀ (h : CmdHeader) (port index enabled base mask rights : Byte) (s : State), s.takes h.port →
    (h.port ≠ .panel → ∃ t, exec (.setReach h [port, index, enabled, base, mask, rights]) s = .next t ∧
      s.refuses t 54 h .notPanel) ∧
    (h.port = .panel → ∃ t on open? spare, flagSays enabled on open? ∧ (rights.toNat < 8 → spare = false) ∧
      exec (.setReach h [port, index, enabled, base, mask, rights]) s = .next t ∧
      let w : ReachWindow :=
        { enabled := on, base := min 31 base.toNat, mask := min 31 mask.toNat, showRight := rights.getLsbD 0,
          saveRight := rights.getLsbD 1, sendRight := rights.getLsbD 2 }
      let c : Cpi := if port = 1 then { s.cpi with reachRoom := s.cpi.reachRoom.set (min 3 index.toNat) w }
        else { s.cpi with reachTether := s.cpi.reachTether.set (min 3 index.toNat) w }
      s.answers t c 54 h (done (decide (¬ (port = 1 ∨ port = 2) ∨ 3 < index.toNat ∨ 31 < base.toNat ∨ 31 < mask.toNat) ||
        open? || spare)) []) ∧
    (∃ t, exec (.readReach h []) s = .next t ∧
      s.answers t s.cpi 55 h (doneWith false (.reach s.cpi.reachRoom s.cpi.reachTether)) [])) ∧
  (∀ (c : Cpi) (lesson : Nat) (r : Right),
    let held := fun windows : List ReachWindow => ∃ w ∈ windows, w.enabled = true ∧ lesson &&& w.mask = w.base &&& w.mask ∧
      (match r with
        | .toShow => w.showRight = true
        | .toSave => w.saveRight = true
        | .toExport => w.sendRight = true)
    c.allows .panel lesson r = true ∧ (c.allows .room lesson r = true ↔ held c.reachRoom) ∧
    (c.allows .tether lesson r = true ↔ held c.reachTether))

/-! ### Tables and settings (01, 02, 03, 04, 06, 07, 09) -/

/-- SET_EDGE_THRESHOLD, SET_ENTRY_ENABLE, SET_DEFAULT_ACTION and SET_TEXT_QUORUM write their setting, limited to its range, and
nothing else; the frame copies stay (01 R11; 02 R20, R24, R29, R30). SET_FEED_NOTES replaces the note list; SET_FEED_MARKS limits
the high mark first, then the low mark to below it and the start mark to at most it; neither touches the agreement or the frame in
flight. SET_PLACE_RETRY_LIMIT writes the limit, at most 3 (07 R103, R113; 09 R143). The rate byte of a note that is no RATE_LIMIT
is not reported as clamped (log 38). -/
def Obligations.SettingsWritten : Prop :=
  (∀ (h : CmdHeader) (a b : Byte) (s : State), s.takes h.port →
    let v := a.toNat + 256 * b.toNat
    let put := fun table : Classifier => { s.tcl with table := table }
    (∃ t, exec (.setEdgeThreshold h [a, b]) s = .next t ∧ t.tsu = { s.tsu with threshold := min 255 v } ∧
      s.answers t s.cpi 12 h (done (decide (255 < v))) [.tsu]) ∧
    (∃ t on open?, flagSays b on open? ∧ exec (.setEntryEnable h [a, b]) s = .next t ∧
      t.tcl = put { s.tcl.table with
        entries := s.tcl.table.entries.modify (min 31 a.toNat) fun e => { e with enabled := on } } ∧
      s.answers t s.cpi 17 h (done (decide (31 < a.toNat) || open?)) [.tcl]) ∧
    (∃ t mark open? action, flagSays b mark open? ∧
      (a = 0 → action = .p0) ∧ (a = 1 → action = .p1) ∧ (a = 2 → action = .p2) ∧ (a = 3 → action = .p3) ∧
      (4 ≤ a.toNat → action = .pass) ∧ exec (.setDefaultAction h [a, b]) s = .next t ∧
      t.tcl = put { s.tcl.table with fallback := { action := action, text := mark } } ∧
      s.answers t s.cpi 18 h (done (decide (4 < a.toNat) || open?)) [.tcl]) ∧
    (∃ t, exec (.setTextQuorum h [a, b]) s = .next t ∧
      t.tcl = put { s.tcl.table with quorum := max 1 (min 255 v) } ∧
      s.answers t s.cpi 19 h (done (decide (v < 1 ∨ 255 < v))) [.tcl])) ∧
  (∀ (h : CmdHeader) (s : State), s.takes h.port →
    (∀ notes : List RawNote, notes.length ≤ 4 →
      ∃ t, exec (.setFeedNotes h (notes.flatMap RawNote.bytes)) s = .next t ∧
        t.flc = { s.flc with notes := notes.map RawNote.writes } ∧
        s.answers t s.cpi 30 h (done (notes.any RawNote.outside)) [.flc]) ∧
    (∀ high low start : Byte,
      let hm := max 2 (min 64 high.toNat)
      ∃ t, exec (.setFeedMarks h [high, low, start]) s = .next t ∧
        t.flc = { s.flc with
          marks := { high := hm, low := min (hm - 1) low.toNat, start := max 1 (min hm start.toNat) } } ∧
        s.answers t s.cpi 31 h (done (decide (high.toNat < 2 ∨ 64 < high.toNat ∨ hm - 1 < low.toNat ∨ start.toNat < 1 ∨
          hm < start.toNat))) [.flc]) ∧
    (∀ b : Byte, ∃ t, exec (.setPlaceRetryLimit h [b]) s = .next t ∧ t.lsc = { s.lsc with retryLimit := min 3 b.toNat } ∧
      s.answers t s.cpi 46 h (done (decide (3 < b.toNat))) [.lsc]))

/-- SET_CLASSIFIER_ENTRY replaces the six fields of one entry, each limited or replaced as the rule says (02 R27).
SET_CLASSIFIER_ENTRIES writes a list of 1 to 8 entries from an index on; entries beyond index 31 are discarded, and the reply
carries how many were written (02 R28). SET_PROFILE replaces the four fields of one profile; SET_PROFILES replaces all four
profiles, with each field limited as for one; the frame copy stays (03 R35, R44, R45). -/
def Obligations.ClassifierAndProfilesWritten : Prop :=
  (∀ (h : CmdHeader) (index : Byte) (r : RawEntry) (s : State), s.takes h.port →
    ∃ t e open?, r.writes e ∧ (r.flagsStated → open? = false) ∧
      exec (.setClassifierEntry h (index :: r.bytes)) s = .next t ∧
      t.tcl = { s.tcl with table := { s.tcl.table with entries := s.tcl.table.entries.set (min 31 index.toNat) e } } ∧
      s.answers t s.cpi 15 h (done (decide (31 < index.toNat) || r.outside || open?)) [.tcl]) ∧
  (∀ (h : CmdHeader) (index : Byte) (rs : List RawEntry) (s : State), s.takes h.port → s.tcl.table.entries.length = 32 →
    1 ≤ rs.length → rs.length ≤ 8 →
    let first := min 31 index.toNat
    let n := min rs.length (32 - first)
    ∃ (t : State) (es : List ClassifierEntry) (open? : Bool), es.length = rs.length ∧
      (∀ (k : Nat) (r : RawEntry) (e : ClassifierEntry), rs[k]? = some r → es[k]? = some e → r.writes e) ∧
      ((∀ r ∈ rs.take n, r.flagsStated) → open? = false) ∧
      exec (.setClassifierEntries h (index :: rs.flatMap RawEntry.bytes)) s = .next t ∧
      t.tcl = { s.tcl with table := { s.tcl.table with entries := t.tcl.table.entries } } ∧
      t.tcl.table.entries.length = 32 ∧
      (∀ k, k < 32 → t.tcl.table.entries[k]? =
        if first ≤ k ∧ k < first + n then es[k - first]? else s.tcl.table.entries[k]?) ∧
      s.answers t s.cpi 16 h (doneWith (decide (31 < index.toNat ∨ n < rs.length) || (rs.take n).any RawEntry.outside || open?)
        (.entriesWritten n)) [.tcl]) ∧
  (∀ (h : CmdHeader) (s : State), s.takes h.port →
    (∀ (index : Byte) (r : RawProfile), ∃ t, exec (.setProfile h (index :: r.bytes)) s = .next t ∧
      t.peu = { s.peu with profiles := s.peu.profiles.set (min 3 index.toNat) r.writes } ∧
      s.answers t s.cpi 22 h (done (decide (3 < index.toNat) || r.outside)) [.peu]) ∧
    (∀ p0 p1 p2 p3 : RawProfile,
      ∃ t, exec (.setProfiles h (p0.bytes ++ p1.bytes ++ p2.bytes ++ p3.bytes)) s = .next t ∧
        t.peu = { s.peu with profiles := [p0.writes, p1.writes, p2.writes, p3.writes] } ∧
        s.answers t s.cpi 23 h (done (p0.outside || p1.outside || p2.outside || p3.outside)) [.peu]))

/-! ### Reports -/

/-- READ_VIEW, READ_EDGE_THRESHOLD, READ_TILE, READ_CLASSIFIER, READ_PAGE_BOX, READ_PROFILES, READ_SLOTS, READ_OUTPUT, READ_STATUS
and READ_COUNTERS are answered DONE with what their blocks hold, and change nothing (05 R86; 01 R11, R16; 02 R31, R32; 03 R46; 04
R65; 06 R100; 10 R160). READ_FEED reports the agreement, the partner's offer, the result with its interval, the note list, the
marks, the buffer's occupancy, the frame in flight and the export frame, the last frame fed and the due flag; of a hold it reports
between 1 and the hold's units, a free value (log 14). It changes nothing (07 R121). READ_STORE, READ_LESSON and READ_JOBS report
the store; while it is STARTING, READ_STORE gives the mode only and READ_LESSON is refused BUSY; READ_LESSON from a port without
the SHOW right is refused OUT_OF_REACH, with the clamping of its lesson reported (log 52). READ_JOBS gives every job's kind, port,
marker, state, withdrawn mark, serial and lesson, and a running STORE's stage, place and retries; that such a run has a stage of
its own and no place in its last write after failing is the model's (log 49). They change nothing (08 R136; 09 R152). -/
def Obligations.ReportsGiven : Prop :=
  (∀ (h : CmdHeader) (s : State), s.takes h.port →
    let gives := fun (c : Instr) (kind : Byte) (clamped : Bool) (d : ResultData) =>
      ∃ t, exec c s = .next t ∧ s.answers t s.cpi kind h (doneWith clamped d) []
    gives (.readView h []) 11 false (.viewRecord s.vwc) ∧
    gives (.readEdgeThreshold h []) 13 false (.edgeThreshold s.tsu.threshold) ∧
    (∀ col row : Byte, gives (.readTile h [col, row]) 14 (decide (59 < col.toNat ∨ 44 < row.toNat))
      (.tile (match s.tsu.settled with
        | none => none
        | some set => (set.tiles[60 * min 44 row.toNat + min 59 col.toNat]?).map fun r => (r, set.frame)))) ∧
    (∀ first count : Byte, 1 ≤ count.toNat → count.toNat ≤ 8 →
      ∃ l : List (Nat × ClassifierEntry),
        l.length = min count.toNat (s.tcl.table.entries.length - min 31 first.toNat) ∧
        (∀ k e, l[k]? = some e →
          e.1 = min 31 first.toNat + k ∧ s.tcl.table.entries[min 31 first.toNat + k]? = some e.2) ∧
        gives (.readClassifier h [first, count]) 20 (decide (31 < first.toNat))
          (.classifier l s.tcl.table.fallback s.tcl.table.quorum)) ∧
    gives (.readPageBox h []) 21 false
      (.pageBox s.tcl.box s.tcl.count s.tcl.boxQuorum (s.tsu.settled.map (·.frame))) ∧
    gives (.readProfiles h []) 24 false (.profiles s.peu.profiles) ∧
    gives (.readSlots h []) 25 false
      (.slots (s.spm.slots.map fun x : Slot => ({ state := x.state, content := x.content, holders := x.holders } : SlotReport))
        (s.spm.find .latest) s.spm.freeCount) ∧
    (let wide := (rasterSize s.dou.mode).1
     let pane := if s.dou.right = none then wide else wide / 2
     let fitted := fun l : Option Latch => match l with
       | some (.pageFit _) => some (fitInto 1920 1440 pane (rasterSize s.dou.mode).2)
       | _ => none
     gives (.readOutput h []) 29 false (.output
       { mode := s.dou.mode, pending := s.dou.pendingMode, raster := s.dou.raster, blank := s.dou.blank, left := s.dou.left,
         right := s.dou.right, leftFit := fitted s.dou.left, rightFit := fitted s.dou.right })) ∧
    gives (.readStatus h []) 50 false (.status
      { intake := s.siu.intake, frameNumber := s.siu.frameNumber, latestFrame := s.spm.latestFrame, count := s.tcl.count,
        source := s.peu.source, latestSlot := s.spm.find .latest, free := s.spm.freeCount, gen := s.vwc.gen,
        freeze := s.vwc.freeze, mode := s.dou.mode, pending := s.dou.pendingMode, raster := s.dou.raster,
        agreement := s.flc.agreement, storeMode := s.lsc.mode, current := currentLesson s.lsc.lessons }) ∧
    gives (.readCounters h []) 56 false (.counters s.cpi.counters s.cpi.halfFlags s.cpi.halfMasks)) ∧
  (∀ (h : CmdHeader) (s : State), s.takes h.port →
    let inFlight := match s.flc.frame with
      | some f => (match f.kind with
        | .exported _ _ => true
        | .live _ => false)
      | none => false
    let frame := s.flc.frame.map fun f : FeedFrame =>
      ({ kind := f.kind, produced := f.produced, sent := f.sent, cut := f.cut } : FrameReport)
    let waiting := s.flc.exportFrame.map fun e : ExportFrame =>
      ({ inFlight := inFlight, lesson := e.lesson, serial := e.serial, port := e.port, marker := e.marker } : ExportReport)
    let drawn : State := { s with freeCount := s.freeCount + 1 }
    ∃ t left, exec (.readFeed h []) s = .next t ∧
      (s.flc.hold = none → left = none) ∧
      (∀ units late, s.flc.hold = running units late → 1 ≤ units → ∃ n, left = some n ∧ 1 ≤ n ∧ n ≤ units) ∧
      drawn.answers t s.cpi 33 h (doneWith false (.feed
        { agreement := s.flc.agreement, restartCount := s.flc.restartCount, partner := s.flc.partner, result := s.flc.result,
          interval := s.flc.result.map fun r => (1000 + r.rate - 1) / r.rate, notes := s.flc.notes, marks := s.flc.marks,
          occupancy := s.flc.buffer.length, holdLeft := left, frame := frame, exportFrame := waiting,
          lastFed := s.flc.lastFed, due := s.flc.due })) []) ∧
  (∀ (h : CmdHeader) (b : Byte) (s : State), s.takes h.port →
    let lesson := min 31 b.toNat
    let summary := fun r : LessonRecord =>
      ({ state := r.state, pages := r.pages.length, kept := r.kept, lock := r.lock } : LessonSummary)
    (∃ t, exec (.readStore h []) s = .next t ∧
      s.answers t s.cpi 47 h (doneWith false (if s.lsc.mode = .starting then .storeStarting else .store
        { mode := s.lsc.mode, current := currentLesson s.lsc.lessons,
          lessons := s.lsc.lessons.map summary,
          free := 510 - ((recordsOf s.lsc.lessons).length + s.lsc.retired.length), retired := s.lsc.retired.length,
          assigned := (recordsOf s.lsc.lessons).length, retiredIds := s.lsc.retired, nextSerial := s.lsc.nextSerial,
          catSeq := s.lsc.catSeq, lastBlock := s.lsc.lastBlock, due := s.lsc.due })) []) ∧
    (s.lsc.mode = .starting → ∃ t, exec (.readLesson h [b]) s = .next t ∧ s.refuses t 48 h .busy) ∧
    (s.lsc.mode ≠ .starting → s.cpi.allows h.port lesson .toShow = false →
      ∃ t, exec (.readLesson h [b]) s = .next t ∧
        s.answers t s.cpi 48 h { refuse .outOfReach with clamped := decide (31 < b.toNat) } []) ∧
    (s.lsc.mode ≠ .starting → s.cpi.allows h.port lesson .toShow = true →
      ∃ t, exec (.readLesson h [b]) s = .next t ∧
        s.answers t s.cpi 48 h (doneWith (decide (31 < b.toNat)) (.lesson (lessonAt s.lsc.lessons lesson))) []) ∧
    let place := fun q : Half => ((recordsOf s.lsc.lessons).find? (·.serial == q)).map (·.place)
    let job := fun j : Job =>
      ({ kind := j.task.named.1, port := j.port, marker := j.marker, state := j.state, withdrawn := j.withdrawn, serial := j.serial,
         lesson := j.task.named.2,
         detail := (match j.task, j.state with
           | .store _ _, .running => some (j.stage, j.serial.bind place, j.retries)
           | _, _ => none) } : JobReport)
    (∃ t, exec (.readJobs h []) s = .next t ∧
      s.answers t s.cpi 49 h (doneWith false (.jobs s.lsc.retryLimit (s.lsc.queue.map job))) []))

/-! ### The slot pool (04) -/

/-- The removal of a holder that leaves the slot's holder set empty makes the slot FREE with no content, the FREE count rises by 1
and a slot-freed notice is given; one that leaves a holder keeps the content. A replacement of INTAKE or LOAD keeps content, FREE
count and notices; a holder that moves to another slot is placed beside that slot's holders and removed from the old slot (04 R50).
A capture pin is placed beside the others; the removal of a tag takes one pin with that tag, and frees the slot as any removal does
(04 R47, R50, R56). Nothing clears the picture of a slot that becomes FREE. -/
def Obligations.HoldersRemovedAndMoved : Prop :=
  (∀ (p : Spm) (n : Nat) (k : HolderKind), n < p.slots.length → (p.slot n).holders.has k = true →
    let q := p.remove n k
    (p.slot n).released (q.slot n) k ∧ (∀ m, m ≠ n → q.slot m = p.slot m) ∧
    ((p.slot n).holders.put k false = noHolders → q.freeCount = p.freeCount + 1 ∧ q.notices = p.notices + 1) ∧
    ((p.slot n).holders.put k false ≠ noHolders → q.freeCount = p.freeCount ∧ q.notices = p.notices)) ∧
  (∀ (p : Spm) (n : Nat) (old new : HolderKind), n < p.slots.length → (p.slot n).holders.has old = true → old ≠ new →
    let q := p.replace n old new
    q.slot n = { p.slot n with holders := ((p.slot n).holders.put old false).put new true } ∧
    (∀ m, m ≠ n → q.slot m = p.slot m) ∧ q.freeCount = p.freeCount ∧ q.notices = p.notices) ∧
  (∀ (p : Spm) (k : HolderKind) (o n : Nat), n < p.slots.length → p.find k = some o → n ≠ o →
    let q := p.move k (some n)
    q.slot n = { p.slot n with holders := (p.slot n).holders.put k true } ∧ (p.slot o).released (q.slot o) k ∧
    (∀ m, m ≠ n → m ≠ o → q.slot m = p.slot m)) ∧
  (∀ (p : Spm) (k : HolderKind) (n : Nat), p.find k = some n → p.move k (some n) = p) ∧
  (∀ (p : Spm) (n : Nat) (tag : PinTag), n < p.slots.length → tag ∈ (p.slot n).holders.pins →
    let q := p.unpin n tag
    let left : Holders := { (p.slot n).holders with pins := (p.slot n).holders.pins.erase tag }
    (∀ m, m ≠ n → q.slot m = p.slot m) ∧ q.pinCount + 1 = p.pinCount ∧
    (left = noHolders → q.slot n = { p.slot n with holders := noHolders, content := .nothing } ∧ q.freeCount = p.freeCount + 1 ∧ q.notices = p.notices + 1) ∧
    (left ≠ noHolders → q.slot n = { p.slot n with holders := left } ∧ q.freeCount = p.freeCount ∧ q.notices = p.notices)) ∧
  (∀ (p : Spm) (n : Nat) (tag : PinTag), tag ∉ (p.slot n).holders.pins → p.unpin n tag = p) ∧
  (∀ (p : Spm) (n : Nat) (tag : PinTag), n < p.slots.length → (p.slot n).holders ≠ noHolders →
    let q := p.pin n tag
    q.slot n = { p.slot n with holders := { (p.slot n).holders with pins := (p.slot n).holders.pins ++ [tag] } } ∧
    (∀ m, m ≠ n → q.slot m = p.slot m) ∧ q.pinCount = p.pinCount + 1 ∧ q.freeCount = p.freeCount ∧ q.notices = p.notices)

/-! ### Tile statistics and classification (01, 02) -/

/-- The figures of every tile once all 2880 lines of a frame have been gathered: the mean of its 4096 pixels, the largest mean of
its 16 sub-blocks, and a 64th of its count of steps to the right-hand neighbour above the threshold, at most 63; the last column
of the frame is not tested (01 R12, R13). -/
def Obligations.TileFiguresOfFrame : Prop :=
  ∀ (threshold : Nat) (lines : List (List Nat)), lines.length = 2880 → (∀ l ∈ lines, l.length = 3840) →
    let pixel := fun x y : Nat => (lines.getD y []).getD x 0
    let total := fun (x y w h : Nat) =>
      ((List.range h).map fun v => ((List.range w).map fun u => pixel (x + u) (y + v)).sum).sum
    let set := (lines.zipIdx).foldl (fun set l => gatherLine threshold l.2 l.1 set) openSet
    ∀ col row, col < 60 → row < 45 → ∃ tile, set[60 * row + col]? = some tile ∧
      tile.mean = total (64 * col) (64 * row) 64 64 / 4096 ∧
      (∀ i j, i < 4 → j < 4 → total (64 * col + 16 * i) (64 * row + 16 * j) 16 16 / 256 ≤ tile.white) ∧
      (∃ i j, i < 4 ∧ j < 4 ∧ tile.white = total (64 * col + 16 * i) (64 * row + 16 * j) 16 16 / 256) ∧
      tile.edge = min 63 (((List.range 64).map fun v => (List.range 64).countP fun u =>
        decide (64 * col + u ≤ 3838 ∧
          threshold < max (pixel (64 * col + u) (64 * row + v)) (pixel (64 * col + u + 1) (64 * row + v)) -
            min (pixel (64 * col + u) (64 * row + v)) (pixel (64 * col + u + 1) (64 * row + v)))).sum / 64)

/-- A tile is decided by the first entry, in index order, that is enabled and matches its signature, otherwise by the default
action; RANGE, PAIR and MASK match as their operands say (02 R17, R18). -/
def Obligations.FirstMatchDecides : Prop :=
  ∀ (c : Classifier) (sig : Nat),
    let hits := fun e : ClassifierEntry => e.enabled = true ∧
      (match e.kind with
        | .range => e.a ≤ sig ∧ sig ≤ e.b
        | .pair => sig = e.a ∨ sig = e.b
        | .mask => sig &&& e.b = e.a &&& e.b)
    (∀ (k : Nat) (e : ClassifierEntry), c.entries[k]? = some e → hits e →
      (∀ (j : Nat) (e' : ClassifierEntry), j < k → c.entries[j]? = some e' → ¬ hits e') →
      c.decision sig = { action := e.action, text := e.text }) ∧
    ((∀ e ∈ c.entries, ¬ hits e) → c.decision sig = c.fallback)

/-- The completed record of every tile: its figures, the white level smoothed over the tile and its existing horizontal and
vertical neighbours, the signature, and the action and mark that the frame copy decides (01 R14; 02 R21). The page box is EMPTY
when fewer tiles than the quorum are marked; otherwise it is the smallest rectangle that holds every marked tile, and its pixel
rectangle follows (02 R25). -/
def Obligations.TilesRecordedAndBoxed : Prop :=
  (∀ (c : Classifier) (set : List TileAcc), set.length = 2700 → ∀ col row, col < 60 → row < 45 →
    let white := fun x y : Nat => ((set[60 * y + x]?).map TileAcc.white).getD 0
    let near := [white col row] ++ (if col = 0 then [] else [white (col - 1) row]) ++
      (if col = 59 then [] else [white (col + 1) row]) ++ (if row = 0 then [] else [white col (row - 1)]) ++
      (if row = 44 then [] else [white col (row + 1)])
    ∃ t r, set[60 * row + col]? = some t ∧ (classified c set)[60 * row + col]? = some r ∧
      r.m = t.mean ∧ r.w = t.white ∧ r.e = t.edge ∧ r.ws = near.sum / near.length ∧ r.sig = 64 * (t.mean / 16) + t.edge ∧
      { action := r.action, text := r.text } = c.decision r.sig) ∧
  (∀ (tiles : List TileRecord) (quorum : Nat), 1 ≤ quorum →
    let marked := fun n : Nat => ∃ r, tiles[n]? = some r ∧ r.text = true
    (textCount tiles < quorum → formBox tiles quorum = none) ∧
    (quorum ≤ textCount tiles → ∃ b, formBox tiles quorum = some b ∧
      (∀ n, marked n → b.c0 ≤ n % 60 ∧ n % 60 ≤ b.c1 ∧ b.r0 ≤ n / 60 ∧ n / 60 ≤ b.r1) ∧
      (∃ n, marked n ∧ n % 60 = b.c0) ∧ (∃ n, marked n ∧ n % 60 = b.c1) ∧ (∃ n, marked n ∧ n / 60 = b.r0) ∧
      (∃ n, marked n ∧ n / 60 = b.r1) ∧
      b.rect = { x0 := 64 * b.c0, y0 := 64 * b.r0, w := 64 * (b.c1 - b.c0 + 1), h := 64 * (b.r1 - b.r0 + 1) }))

/-! ### Enhancement (03) -/

/-- Whitening: the offset is floor(S x (1023 - Ws) / 16), which is 0..1023, and the whitened value is limited to 1023 (03 R40).
Coring shrinks every detail by C toward zero; gain is truncated toward zero, alike for light and dark; the detail step is limited
to -L..+L (03 R42). -/
def Obligations.PixelStepsTaken : Prop :=
  (∀ (p : Profile) (ws y : Nat), p.inRange = true → ws ≤ 1023 → y ≤ 1023 →
    whiteningOffset p ws = p.s * (1023 - ws) / 16 ∧ whiteningOffset p ws ≤ 1023 ∧
    (y + whiteningOffset p ws ≤ 1023 → whitened p ws y = y + whiteningOffset p ws) ∧
    (1023 ≤ y + whiteningOffset p ws → whitened p ws y = 1023) ∧ y ≤ whitened p ws y ∧
    (p.s = 0 ∨ ws = 1023 → whitened p ws y = y) ∧ (p.s = 16 → whitened p ws ws = 1023)) ∧
  (∀ (p : Profile) (d : Int), p.inRange = true → -1023 ≤ d → d ≤ 1023 →
    let dc := cored p.c d
    let a0 := Int.tdiv (dc * p.g) 16
    (-(p.c : Int) ≤ d → d ≤ p.c → dc = 0) ∧ (p.c < d → dc = d - p.c) ∧ (d < -(p.c : Int) → dc = d + p.c) ∧
    (0 ≤ dc * p.g → a0 = dc * p.g / 16) ∧ (dc * p.g < 0 → a0 = -(-(dc * p.g) / 16)) ∧ -4028 ≤ a0 ∧ a0 ≤ 4028 ∧
    detailStep p d = max (-(p.l : Int)) (min p.l a0) ∧ detailStep p (-d) = -detailStep p d ∧
    (p.l = 0 → detailStep p d = 0))

/-- A finished line of the enhanced picture: a pixel in a PASS tile, or without a tile reference, keeps its luminance; every other
pixel becomes Y1 + A limited to 0..1023, with the box mean of its nine neighbours where positions outside the line repeat the
nearest, and differs from Y1 by at most L. Chroma is as it arrived (03 R39, R41, R43). -/
def Obligations.LineIsEnhanced : Prop :=
  ∀ (profiles : List Profile) (tiles : Option (List TileRecord)) (row : Nat) (above mid below : List PixelClock),
    profilesInRange profiles = true → above.length = 3840 → mid.length = 3840 → below.length = 3840 →
    let line := finishLine profiles tiles row above mid below
    let lum := fun (l : List PixelClock) (x : Nat) => ((l[x]?).map fun q => q.y.toNat).getD 0
    let three := fun (l : List PixelClock) (x : Nat) => lum l (x - 1) + lum l x + lum l (min 3839 (x + 1))
    line.c = mid.map (·.c) ∧ line.y.length = 3840 ∧
    ∀ x, x < 3840 →
      let b := (three above x + three mid x + three below x) / 9
      let out := line.y.getD x 0
      let tile := tiles.bind fun ts => ts[60 * (row / 64) + x / 64]?
      (tile = none → out = lum mid x) ∧
      (∀ r, tile = some r → (r.action = .pass → out = lum mid x) ∧
        ∀ (k : Nat) (p : Profile), (k, r.action) ∈ [(0, Action.p0), (1, .p1), (2, .p2), (3, .p3)] →
          profiles[k]? = some p →
          let y1 := whitened p r.ws (lum mid x)
          (out : Int) = max 0 (min 1023 ((y1 : Int) + detailStep p ((lum mid x : Int) - b))) ∧
          out ≤ y1 + p.l ∧ y1 ≤ out + p.l)

/-! ### Intake (01) -/

/-- A frame start, in every intake state: a frame in progress in RECEIVING is broken, in NO_SIGNAL the event SIGNAL_BACK is raised;
the timer is started, so that an expiry that waits does not happen (log 58), the frame number advances (up to 281474976710655), the
frame copies are latched, and the lowest FREE slot is taken with a new building set, or else the frame is skipped and counted (01
R3, R4, R5, R6; 02 R20; 03 R35, R36, R37; 04 R51). The slot taken holds an empty picture (log 44). -/
def Obligations.FrameStarts : Prop :=
  ∀ s : State, s.powered = true →
    let pool := if s.siu.intake = .receiving then s.spm.removeKind .intake else s.spm
    let c := match s.siu.intake with
      | .receiving => (s.cpi.count .framesBroken).raise .intakeBroken
      | .noSignal => s.cpi.raise .signalBack
      | _ => s.cpi
    let number := min 281474976710655 (s.siu.frameNumber + 1)
    let timer := running 500 (s.pending.count .noSignalTimerExpiry)
    let begun := fun state => ({ intake := state, frameNumber := number, timer := timer, lines := 0 } : Siu)
    (∀ n, pool.lowestFree = some n → ∃ t, exec .frameStart s = .next t ∧ t.siu = begun .receiving ∧
      t.spm = pool.take n .intake (.liveFrame number) (.live []) ∧
      t.tsu = { s.tsu with thresholdCopy := s.tsu.threshold, building := some openSet } ∧
      t.tcl = { s.tcl with copy := some s.tcl.table } ∧
      t.peu = { s.peu with copy := some s.peu.profiles, source := s.tsu.settled.map (·.frame), lineStore := [] } ∧
      s.becomes t c [.siu, .spm, .tsu, .tcl, .peu]) ∧
    (pool.lowestFree = none → ∃ t, exec .frameStart s = .next t ∧ t.siu = begun .skipping ∧ t.spm = pool ∧
      t.tsu = { s.tsu with thresholdCopy := s.tsu.threshold, building := none } ∧
      t.tcl = { s.tcl with copy := some s.tcl.table } ∧
      t.peu = { s.peu with copy := some s.peu.profiles, lineStore := [] } ∧
      s.becomes t (c.count .framesSkipped) [.siu, .spm, .tsu, .tcl, .peu])

/-- A line end: in RECEIVING, a line of 3840 pixels that is at most the 2880th is counted, gathered and given to the enhancement,
which finishes the line before it; any other line breaks the frame, whose slot and building set go and which is counted. In the
other states the line is ignored (01 R4, R7, R12; 03 R38). -/
def Obligations.LineEnds : Prop :=
  ∀ (s : State) (line : List PixelClock), s.powered = true →
    (s.siu.intake = .receiving → line.length = 3840 → s.siu.lines < 2880 → s.peu.lineStore.length = min 3 s.siu.lines →
      ∃ t, exec (.lineEnd line) s = .next t ∧ t.siu = { s.siu with lines := s.siu.lines + 1 } ∧
        t.tsu = { s.tsu with
          building := s.tsu.building.map (gatherLine s.tsu.thresholdCopy s.siu.lines (line.map fun q => q.y.toNat)) } ∧
        t.peu = { s.peu with lineStore := (s.peu.lineStore ++ [line]).drop (s.peu.lineStore.length - 2) } ∧
        (s.siu.lines = 0 → t.spm = s.spm) ∧
        (∀ n above mid, s.spm.find .intake = some n →
          (s.peu.lineStore = [mid] ∧ above = mid ∨ ∃ l, s.peu.lineStore = l ++ [above, mid]) →
          t.spm = s.spm.draw n fun p => p.addLine (finishLine (s.peu.copy.getD s.peu.profiles)
            (s.tsu.settled.map (·.tiles)) (s.siu.lines - 1) above mid line)) ∧
        s.becomes t s.cpi [.siu, .tsu, .peu, .spm]) ∧
    (s.siu.intake = .receiving → (line.length ≠ 3840 ∨ 2880 ≤ s.siu.lines) →
      ∃ t, exec (.lineEnd line) s = .next t ∧ t.siu = { s.siu with intake := .discarding } ∧
        t.tsu = { s.tsu with building := none } ∧ t.spm = s.spm.removeKind .intake ∧
        s.becomes t ((s.cpi.count .framesBroken).raise .intakeBroken) [.siu, .tsu, .spm]) ∧
    (s.siu.intake ≠ .receiving → ∃ t, exec (.lineEnd line) s = .next t ∧ s.becomes t s.cpi [])

/-- A frame end: with exactly 2880 lines the last line is finished, INTAKE becomes LATEST, FRAMES_IN counts, the classified
building set replaces the settled set, the text map count and the page box follow, and a changed page box raises its event. With
fewer lines the frame is broken. A skipped or discarded frame ends; in WAITING and NO_SIGNAL nothing happens (01 R8, R15; 02 R20,
R21, R23, R25, R26; 03 R38; 04 R52). -/
def Obligations.FrameEnds : Prop :=
  ∀ s : State, s.powered = true →
    (∀ n set l above mid, s.siu.intake = .receiving → s.siu.lines = 2880 → s.spm.find .intake = some n →
      s.tsu.building = some set → s.peu.lineStore = [l, above, mid] →
      let judge := s.tcl.copy.getD s.tcl.table
      let tiles := classified judge set
      let last := finishLine (s.peu.copy.getD s.peu.profiles) (s.tsu.settled.map (·.tiles)) 2879 above mid mid
      let c := if formBox tiles judge.quorum = s.tcl.box then s.cpi.count .framesIn
        else (s.cpi.count .framesIn).raise .pageBoxChanged
      ∃ t, exec .frameEnd s = .next t ∧ t.siu = { s.siu with intake := .waiting } ∧
        t.spm = (s.spm.draw n fun p => p.addLine last).succeed n .intake .latest ∧
        t.tsu = { s.tsu with building := none, settled := some { frame := s.siu.frameNumber, tiles := tiles } } ∧
        t.tcl = { s.tcl with count := textCount tiles, box := formBox tiles judge.quorum, boxQuorum := some judge.quorum } ∧
        s.becomes t c [.siu, .spm, .tsu, .tcl]) ∧
    (s.siu.intake = .receiving → s.siu.lines ≠ 2880 → ∃ t, exec .frameEnd s = .next t ∧
      t.siu = { s.siu with intake := .waiting } ∧ t.tsu = { s.tsu with building := none } ∧
      t.spm = s.spm.removeKind .intake ∧
      s.becomes t ((s.cpi.count .framesBroken).raise .intakeBroken) [.siu, .tsu, .spm]) ∧
    (s.siu.intake = .skipping ∨ s.siu.intake = .discarding → ∃ t, exec .frameEnd s = .next t ∧
      t.siu = { s.siu with intake := .waiting } ∧ s.becomes t s.cpi [.siu]) ∧
    (s.siu.intake = .waiting ∨ s.siu.intake = .noSignal → ∃ t, exec .frameEnd s = .next t ∧ s.becomes t s.cpi [])

/-- The expiry of the running no-signal timer: a frame in RECEIVING is broken, the intake state becomes NO_SIGNAL, the event is
raised and the timer stays stopped; the settled set stays, and so does the LATEST slot. An expiry that waited when a frame start
started the timer anew does not happen: neither intake nor frame is touched (01 R4, R9, R10; log 58). A stopped timer does not
expire (01 R9; log 3). -/
def Obligations.SignalIsLost : Prop :=
  ∀ s : State, s.powered = true →
    (∀ d, s.siu.timer = running d 0 →
      ∃ t, exec .noSignalTimerExpiry s = .next t ∧ t.siu = { s.siu with intake := .noSignal, timer := none } ∧
        (s.siu.intake = .receiving → t.tsu = { s.tsu with building := none } ∧ t.spm = s.spm.removeKind .intake ∧
          s.becomes t (((s.cpi.count .framesBroken).raise .intakeBroken).raise .noSignal) [.siu, .tsu, .spm]) ∧
        (s.siu.intake ≠ .receiving → s.becomes t (s.cpi.raise .noSignal) [.siu])) ∧
    (∀ d n, s.siu.timer = running d (n + 1) → ∃ t, exec .noSignalTimerExpiry s = .next t ∧
      t.siu = { s.siu with timer := running d n } ∧ s.becomes t s.cpi [.siu]) ∧
    (s.siu.timer = none → ∃ t, exec .noSignalTimerExpiry s = .next t ∧ s.becomes t s.cpi [])

/-- A slot-freed notice: a head job in WAIT_SLOT takes the lowest FREE slot with LOAD when two are FREE and begins to read its
page, and stays waiting otherwise; without such a job the notice has no effect (04 R59, R60; 09 R145; 08 R123). The slot's content
names the lesson that holds the page being read (04 R49); its picture is empty (log 44). -/
def Obligations.SlotFreedNoticeTests : Prop :=
  ∀ s : State, s.powered = true → s.spm.notices ≠ 0 →
    let heard := { s.spm with notices := s.spm.notices - 1 }
    (∀ j rest r q k n, s.lsc.queue = j :: rest → j.state = .waitSlot → j.serial = some q →
      recordWith s.lsc.lessons q = some r → holdsPage s.lsc.lessons k q → s.spm.lowestFree = some n → 2 ≤ s.spm.freeCount →
      ∃ t, exec .slotFreedNotice s = .next t ∧
        t.spm = heard.take n .load (.storedPage k q) (.stored []) ∧
        t.lsc = { s.lsc with
          queue := { j with state := .running } :: rest, flash := some (.read (64 + 32 * r.place) 0),
          activity := .loading n { page := 0, crc := 0xFFFFFFFF, sound := true } } ∧
        s.becomes t s.cpi [.spm, .lsc]) ∧
    (s.spm.freeCount < 2 → ∃ t, exec .slotFreedNotice s = .next t ∧ t.spm = heard ∧ t.lsc = s.lsc ∧
      s.becomes t s.cpi [.spm]) ∧
    ((∀ j rest, s.lsc.queue = j :: rest → j.state ≠ .waitSlot) →
      ∃ t, exec .slotFreedNotice s = .next t ∧ t.spm = heard ∧ s.becomes t s.cpi [.spm])

/-! ### Pictures (05, 06, 09) -/

/-- Bilinear sampling gives the weighted mean of four neighbours rounded half up: it stays within the range of the source, equals
the source at a whole position, and repeats the last column and row beyond the edges. A fitted page keeps its aspect, fills the
pane in one direction, and lies inside it (05 R74; 06 R97; 09 R142). A position's 16-bit fraction is rounded to 8 bits, and a
fraction that rounds to 1 is the next position (05 R74). A feed line samples a live frame through its source region, or is a
stored page's line (07 R112, R118; log 15). A capture's place page holds its image run's bytes (08 R128; 09 R142). A latch draws
its fill, its live window or its fitted page; the raster's pins carry the panes' pixels while RUNNING, black without sync while
STOPPED, no sync while RESTARTING (06 R87, R92, R95 to R97; log 39, log 51). Chroma lies at half the position (log 42). Said for
pictures of any length: a value that is not there reads 0 (log 44). -/
def Obligations.PicturesAreSampledAndFitted : Prop :=
  (∀ (src : Nat → Nat → Nat) (lastX lastY p q lo hi : Nat), (∀ x y, lo ≤ src x y ∧ src x y ≤ hi) →
    lo ≤ bilinear src lastX lastY p q ∧ bilinear src lastX lastY p q ≤ hi) ∧
  (∀ (src : Nat → Nat → Nat) (lastX lastY x y : Nat),
    bilinear src lastX lastY (65536 * x) (65536 * y) = src (min x lastX) (min y lastY)) ∧
  (∀ (src : Nat → Nat → Nat) (lastX lastY x y fx fy : Nat), fx ≤ 255 → fy ≤ 255 → x < lastX → y < lastY →
    bilinear src lastX lastY (65536 * x + 256 * fx) (65536 * y + 256 * fy) =
      ((256 - fx) * (256 - fy) * src x y + fx * (256 - fy) * src (x + 1) y + (256 - fx) * fy * src x (y + 1) +
        fx * fy * src (x + 1) (y + 1) + 32768) / 65536) ∧
  (∀ sw sh aw ah : Nat, 0 < sw → 0 < sh → 0 < aw → 0 < ah →
    let f := fitInto sw sh aw ah
    f.left + f.fw ≤ aw ∧ f.top + f.fh ≤ ah ∧ f.left = (aw - f.fw) / 2 ∧ f.top = (ah - f.fh) / 2 ∧
    (ah * sw ≤ aw * sh → f.fh = ah ∧ f.fw = sw * ah / sh) ∧ (aw * sh ≤ ah * sw → f.fw = aw ∧ f.fh = sh * aw / sw) ∧
    f.sx = sw * 65536 / f.fw ∧ f.sy = sh * 65536 / f.fh) ∧
  (∀ (src : Nat → Nat → Nat) (lastX lastY n f q : Nat), f < 65536 →
    let rounded := 65536 * n + 256 * ((f + 128) / 256)
    bilinear src lastX lastY (65536 * n + f) q = bilinear src lastX lastY rounded q ∧
    bilinear src lastX lastY q (65536 * n + f) = bilinear src lastX lastY q rounded ∧
    (65408 ≤ f → rounded = 65536 * (n + 1))) ∧
  (∀ (lines : List PictureLine) (spm : Spm),
    let lum := fun x y : Nat => ((lines[y]?).map fun l => l.y.getD x 0).getD 0
    let chroma := fun (odd x y : Nat) => ((lines[y]?).map fun l => (l.c.getD (2 * x + odd) 0).toNat).getD 0
    let sampled := fun px py : Nat =>
      ({ y := bilinear lum 3839 2879 px py, cb := bilinear (chroma 0) 1919 2879 (px / 2) py,
         cr := bilinear (chroma 1) 1919 2879 (px / 2) py } : Ycc)
    (∀ (f : FeedFrame) (n j : Nat), f.kind = .live n →
      let at_ := fun i : Nat => sampled (f.x0 * 65536 + i * f.sx) (f.y0 * 65536 + j * f.sy)
      let line := f.line (.live lines) j
      line.index = j ∧ line.y.length = f.width ∧ line.cb.length = f.width / 2 ∧ line.cr.length = f.width / 2 ∧
      (∀ i, i < f.width → line.y[i]? = some (BitVec.ofNat 8 ((at_ i).y / 4))) ∧
      (∀ k, k < f.width / 2 → line.cb[k]? = some (BitVec.ofNat 8 ((at_ (2 * k)).cb / 4)) ∧
        line.cr[k]? = some (BitVec.ofNat 8 ((at_ (2 * k)).cr / 4)))) ∧
    (∀ (r : Rect) (k b : Nat), 1 ≤ k → b < 2048 →
      let n := 2048 * (k - 1) + b
      let fit := fitInto r.w r.h 1920 1440
      let covers := fun x y : Nat => fit.left ≤ x ∧ x < fit.left + fit.fw ∧ fit.top ≤ y ∧ y < fit.top + fit.fh
      let at_ := fun x y : Nat => sampled (r.x0 * 65536 + (x - fit.left) * fit.sx) (r.y0 * 65536 + (y - fit.top) * fit.sy)
      let holds := fun v : Nat => (capturePage (.live lines) r k)[b]? = some (BitVec.ofNat 8 v)
      (capturePage (.live lines) r k).length = 2048 ∧
      (∀ x y, x < 1920 → n = 1920 * y + x → y < 1440 →
        (covers x y → holds ((at_ x y).y / 4)) ∧ (¬ covers x y → holds 255)) ∧
      (∀ x y, x < 960 → y < 720 → n = 2764800 + 960 * y + x →
        (covers (2 * x) (2 * y) → holds ((at_ (2 * x) (2 * y)).cb / 4)) ∧ (¬ covers (2 * x) (2 * y) → holds 128)) ∧
      (∀ x y, x < 960 → y < 720 → n = 3456000 + 960 * y + x →
        (covers (2 * x) (2 * y) → holds ((at_ (2 * x) (2 * y)).cr / 4)) ∧ (¬ covers (2 * x) (2 * y) → holds 128))) ∧
    (∀ (n : Nat) (w : Window) (pw ph i j : Nat), (spm.slot n).picture = .live lines →
      (Latch.liveWindow n w).draw spm pw ph i j = sampled (w.x0 * 65536 + i * w.sx) (w.y0 * 65536 + j * w.sy))) ∧
  (∀ (bytes : List Byte) (spm : Spm),
    let stored := fun (base wide x y : Nat) => (bytes.getD (base + wide * y + x) 0).toNat
    (∀ (f : FeedFrame) (lesson : Nat) (serial : Half) (j : Nat), f.kind = .exported lesson serial →
      let line := f.line (.stored bytes) j
      line.index = j ∧ line.y = (List.range 1920).map (fun i => BitVec.ofNat 8 (stored 0 1920 i j)) ∧
      line.cb = (List.range 960).map (fun k => BitVec.ofNat 8 (stored 2764800 960 k (j / 2))) ∧
      line.cr = (List.range 960).map (fun k => BitVec.ofNat 8 (stored 3456000 960 k (j / 2)))) ∧
    (∀ n pw ph i j : Nat, (spm.slot n).picture = .stored bytes →
      let f := fitInto 1920 1440 pw ph
      let px := (i - f.left) * f.sx
      let py := (j - f.top) * f.sy
      let four := fun (base wide : Nat) (x y : Nat) => 4 * stored base wide x y
      let inside := f.left ≤ i ∧ i < f.left + f.fw ∧ f.top ≤ j ∧ j < f.top + f.fh
      (inside → (Latch.pageFit n).draw spm pw ph i j =
        { y := bilinear (four 0 1920) 1919 1439 px py, cb := bilinear (four 2764800 960) 959 719 (px / 2) (py / 2),
          cr := bilinear (four 3456000 960) 959 719 (px / 2) (py / 2) }) ∧
      (¬ inside → (Latch.pageFit n).draw spm pw ph i j = { y := 0, cb := 512, cr := 512 }))) ∧
  (∀ (spm : Spm) (pw ph i j : Nat),
    (Latch.fill .grey).draw spm pw ph i j = { y := 512, cb := 512, cr := 512 } ∧
    (Latch.fill .white).draw spm pw ph i j = { y := 1023, cb := 512, cr := 512 } ∧
    (Latch.fill .black).draw spm pw ph i j = { y := 0, cb := 512, cr := 512 }) ∧
  (∀ (s : State) (i j : Nat),
    let wide := (rasterSize s.dou.mode).1
    let high := (rasterSize s.dou.mode).2
    let pane := fun (l : Latch) (pw x : Nat) => some ({ sync := true, tone := l.draw s.spm pw high x j } : RasterPins)
    (s.dou.raster = .stopped → s.rasterPins i j = some { sync := false, tone := { y := 0, cb := 512, cr := 512 } }) ∧
    (s.dou.raster = .restarting → ∃ tone, s.rasterPins i j = some { sync := false, tone := tone }) ∧
    (s.dou.raster = .running → (wide ≤ i ∨ high ≤ j) → s.rasterPins i j = none) ∧
    (∀ l, s.dou.raster = .running → s.dou.left = some l → i < wide → j < high →
      (s.dou.right = none → s.rasterPins i j = pane l wide i) ∧
      (∀ r, s.dou.right = some r → (i < wide / 2 → s.rasterPins i j = pane l (wide / 2) i) ∧
        (wide / 2 ≤ i → s.rasterPins i j = pane r (wide / 2) (i - wide / 2)))))

/-! ### The feed (07) -/

/-- A base offer without fault during an agreement is stored and answered by an acknowledging offer, but for one in ACK_SEEN that
acknowledges, which is stored unanswered. Without acknowledgement the state is ACK_SEEN; with it the base exchange is complete: the
first note page goes, or the agreement is resolved at the highest common format, or fails without one (07 R102, R104, R105, R107).
In NOTE_EXCHANGE the rate limit and the agreed flags so far stay and decide the result (log 16). Every page sent starts the page
timer anew, so that its expiries that wait do not happen (07 R108; log 58). Pages take their turn on the tether link (10 R155; log
23). -/
def Obligations.BaseOffersAnswered : Prop :=
  ∀ (s : State) (o : BaseOffer), s.powered = true → s.flc.started = true → o.fault = .noFault →
    s.flc.agreement ∈ [Agreement.offering, .ackSeen, .noteExchange] →
    let own : BaseOffer :=
      { formats := 0xFF, nextPage := !s.flc.latched.isEmpty, ack := true, fault := .noFault, restart := false }
    let pages := s.flc.latched.flatMap Note.pages
    let first := pages.headD { kind := .message, code := 1 }
    let note : NotePage :=
      { nextPage := decide (1 < pages.length), ack := true, kind := first.kind, ack2 := false, toggle := true,
        code := first.code }
    let held : Flc := { s.flc with partner := some o }
    let fresh : Flc := { held with unsent := pages, lastPage := none, bridgeToggle := false, expectRate := false }
    let sent := if s.flc.agreement = .ackSeen then [] else [AgreementPage.base own]
    let quiet := s.flc.latched = [] ∧ o.nextPage = false
    (o.ack = false → ∃ t, exec (.baseOffer o) s = .next t ∧ s.givesPages t [.base own] ∧
      t.flc = { fresh with agreement := .ackSeen, pageTimer := s.pageTimerAnew, pages := t.flc.pages } ∧ s.becomes t s.cpi [.flc]) ∧
    (o.ack = true → ¬ quiet → ∃ t, exec (.baseOffer o) s = .next t ∧ s.givesPages t (sent ++ [.note note]) ∧
      t.flc = { fresh with
        agreement := .noteExchange, pageTimer := s.pageTimerAnew, unsent := pages.tail, lastPage := some note, pages := t.flc.pages } ∧
      s.becomes t s.cpi [.flc]) ∧
    (∀ f, o.ack = true → quiet → f < 8 → o.formats.getLsbD f = true → (∀ g, f < g → o.formats.getLsbD g = false) →
      ∃ t, exec (.baseOffer o) s = .next t ∧ s.givesPages t sent ∧
        t.flc = { held with
          pages := t.flc.pages, agreement := .feedUp, restartCount := 0, pageTimer := none, due := true, intervalTimer := none,
          result := some { format := f, rate := (s.flc.rateLimit.elim (feedFormat f).2.2 fun r => min (feedFormat f).2.2 r),
                           crop := s.flc.cropAgreed, exporting := s.flc.exportAgreed } } ∧
        s.becomes t (s.cpi.raise .feedUp) [.flc]) ∧
    (o.ack = true → quiet → o.formats = 0 →
      ∃ t last, exec (.baseOffer o) s = .next t ∧ s.givesPages t (sent ++ [.base last]) ∧ last.fault = .refused ∧
        t.flc = { held with pages := t.flc.pages, agreement := .feedDown, pageTimer := none, result := none } ∧
        s.becomes t (s.cpi.raise .noCommonFormat) [.flc])

/-- A new note page of the bridge in NOTE_EXCHANGE: its ack2 settles the part's page before it, its contents are taken by the rule's
table, and exactly one page answers it, with the toggle complemented; when neither side has more notes the agreement is resolved. A
duplicate draws the last page again. In the other states a note page is discarded (07 R104, R105, R106, R107). The page timer starts
anew with every page sent (07 R108; log 58 on its expiries that wait). Pages take their turn on the tether link (10 R155; log 23).
-/
def Obligations.NotePagesAnswered : Prop :=
  ∀ (s : State) (p : NotePage), s.powered = true → s.flc.started = true →
    let mine := fun (kind : NoteKind) (code : Nat) => p.ack2 && (match s.flc.lastPage with
      | some q => q.kind == kind && (kind == .plain || q.code.toNat == code)
      | none => false)
    let tells := fun code : Nat => p.kind == .message && p.code.toNat == code
    let rate := p.kind == .plain && s.flc.expectRate && decide (1 ≤ p.code.toNat) && decide (p.code.toNat ≤ 60)
    let limits := s.flc.rateLimit.toList ++
      (if mine .plain 0 then (s.flc.lastPage.toList.map fun q => q.code.toNat) else []) ++ (if rate then [p.code.toNat] else [])
    let next := s.flc.unsent.headD { kind := .message, code := 1 }
    let answer : NotePage :=
      { nextPage := decide (1 < s.flc.unsent.length), ack := true, kind := next.kind,
        ack2 := tells 1 || tells 2 || tells 3 || tells 4 || rate,
        toggle := (s.flc.lastPage.elim true fun q => !q.toggle), code := next.code }
    let crop := s.flc.cropAgreed || mine .message 3 || tells 3
    let exporting := s.flc.exportAgreed || mine .message 4 || tells 4
    let taken : Flc := { s.flc with
      rateLimit := limits.min?, cropAgreed := crop, exportAgreed := exporting, expectRate := tells 2, bridgeToggle := p.toggle,
      unsent := s.flc.unsent.tail, lastPage := some answer }
    (s.flc.agreement ≠ .noteExchange → ∃ t, exec (.notePage p) s = .next t ∧ s.givesPages t [] ∧
      t.flc = { s.flc with pages := t.flc.pages } ∧ s.becomes t s.cpi [.flc]) ∧
    (∀ q, s.flc.agreement = .noteExchange → p.toggle = s.flc.bridgeToggle → s.flc.lastPage = some q →
      ∃ t, exec (.notePage p) s = .next t ∧ s.givesPages t [.note q] ∧
        t.flc = { s.flc with pageTimer := s.pageTimerAnew, pages := t.flc.pages } ∧
        s.becomes t s.cpi [.flc]) ∧
    (s.flc.agreement = .noteExchange → p.toggle ≠ s.flc.bridgeToggle → (p.nextPage = true ∨ answer.nextPage = true) →
      ∃ t, exec (.notePage p) s = .next t ∧ s.givesPages t [.note answer] ∧
        t.flc = { taken with pageTimer := s.pageTimerAnew, pages := t.flc.pages } ∧
        s.becomes t s.cpi [.flc]) ∧
    (∀ o f, s.flc.agreement = .noteExchange → p.toggle ≠ s.flc.bridgeToggle → p.nextPage = false → answer.nextPage = false →
      s.flc.partner = some o → f < 8 → o.formats.getLsbD f = true → (∀ g, f < g → o.formats.getLsbD g = false) →
      ∃ t, exec (.notePage p) s = .next t ∧ s.givesPages t [.note answer] ∧
        t.flc = { taken with
          pages := t.flc.pages, agreement := .feedUp, restartCount := 0, pageTimer := none, due := true, intervalTimer := none,
          result := some { format := f, rate := (limits.min?.elim (feedFormat f).2.2 fun r => min (feedFormat f).2.2 r),
                           crop := crop, exporting := exporting } } ∧
        s.becomes t (s.cpi.raise .feedUp) [.flc]) ∧
    (∀ o, s.flc.agreement = .noteExchange → p.toggle ≠ s.flc.bridgeToggle → p.nextPage = false → answer.nextPage = false →
      s.flc.partner = some o → o.formats = 0 →
      ∃ t last, exec (.notePage p) s = .next t ∧ s.givesPages t [.note answer, .base last] ∧
        last.fault = .refused ∧ t.flc = { taken with pages := t.flc.pages, agreement := .feedDown, pageTimer := none, result := none } ∧
        s.becomes t (s.cpi.raise .noCommonFormat) [.flc])

/-- The page timer's expiry begins the agreement again with the note list latched anew, up to the seventh; the eighth fails the
feed. The interval timer's expiry sets the due flag; during a frame in flight the interval is passed over and counted, and the timer
runs again; otherwise it stops (07 R103, R106, R108, R110). An expiry that waited when its timer was started anew does not happen
(07 R108; log 58), and a stopped timer does not expire (log 3). The base offer takes its turn on the tether link (10 R155; log 23).
-/
def Obligations.FeedTimersExpire : Prop :=
  ∀ s : State, s.powered = true →
    let own : BaseOffer :=
      { formats := 0xFF, nextPage := !s.flc.notes.isEmpty, ack := false, fault := .noFault, restart := false }
    (∀ d, s.flc.pageTimer = running d 0 → s.flc.restartCount < 7 → ∃ t, exec .pageTimerExpiry s = .next t ∧
      s.givesPages t [.base own] ∧
      t.flc = { s.flc with
        pages := t.flc.pages, agreement := .offering, restartCount := s.flc.restartCount + 1, partner := none, result := none,
        latched := s.flc.notes, unsent := s.flc.notes.flatMap Note.pages, lastPage := none, bridgeToggle := false,
        expectRate := false, rateLimit := none, cropAgreed := false, exportAgreed := false, pageTimer := s.pageTimerAnew } ∧
      s.becomes t s.cpi [.flc]) ∧
    (∀ d, s.flc.pageTimer = running d 0 → s.flc.restartCount = 7 → ∃ t, exec .pageTimerExpiry s = .next t ∧ s.givesPages t [] ∧
      t.flc = { s.flc with pages := t.flc.pages, agreement := .feedFailed, restartCount := 8, result := none, pageTimer := none } ∧
      s.becomes t (s.cpi.raise .feedFailed) [.flc]) ∧
    (∀ d, s.flc.intervalTimer = running d 0 →
      (s.flc.frame = none → ∃ t, exec .intervalTimerExpiry s = .next t ∧
        t.flc = { s.flc with due := true, intervalTimer := none } ∧ s.becomes t s.cpi [.flc]) ∧
      (∀ f, s.flc.frame = some f → ∃ t, exec .intervalTimerExpiry s = .next t ∧
        t.flc = { s.flc with due := true, intervalTimer := running d (s.pending.count .intervalTimerExpiry) } ∧
        s.becomes t (s.cpi.count .feedFramesPassedOver) [.flc])) ∧
    (∀ d n, s.flc.pageTimer = running d (n + 1) → ∃ t, exec .pageTimerExpiry s = .next t ∧
      t.flc = { s.flc with pageTimer := running d n } ∧ t.sentFeed [] ∧ s.becomes t s.cpi [.flc]) ∧
    (∀ d n, s.flc.intervalTimer = running d (n + 1) → ∃ t, exec .intervalTimerExpiry s = .next t ∧
      t.flc = { s.flc with intervalTimer := running d n } ∧ t.sentFeed [] ∧ s.becomes t s.cpi [.flc]) ∧
    (∀ c, (c = .pageTimerExpiry ∧ s.flc.pageTimer = none) ∨ (c = .intervalTimerExpiry ∧ s.flc.intervalTimer = none) →
      ∃ t, exec c s = .next t ∧ t.sentFeed [] ∧ s.becomes t s.cpi [])

/-- A HOLD above 0 starts the hold timer with at least 16 units, anew if one runs; a HOLD of 0 and the timer's expiry end the hold.
The allowance timer's expiry cuts the frame in flight: its lines are dropped, FEED is removed, the cut is counted. The FRAME_END
packet with CUT goes once no hold is in force and the tether link is free for it, after FRAME_START when nothing of the frame had
gone, and a live frame's flight ends there; until then it waits (07 R113, R115, R116; 10 R155). An expiry that waited when its timer
was started anew does not happen (log 58), and a stopped timer does not expire (log 3). A hold is taken also before the hand-over
(log 36); when the link is free for the packet is the model's (log 23). -/
def Obligations.HoldsAndCuts : Prop :=
  ∀ s : State, s.powered = true →
    let start := fun f : FeedFrame => if f.sent = 0 then [FeedPacket.frameStart f.kind f.width f.height] else []
    let counted := s.cpi.count .feedFramesCut
    let released := fun (c : Instr) =>
      ((∀ f, s.flc.frame = some f → f.cut = false) → ∃ t, exec c s = .next t ∧ t.sentFeed [] ∧
        t.flc = { s.flc with hold := none } ∧ s.becomes t s.cpi [.flc]) ∧
      (∀ f, s.flc.frame = some f → f.cut = true → ¬ s.cpi.linkFree → ∃ t, exec c s = .next t ∧ t.sentFeed [] ∧
        t.flc = { s.flc with hold := none } ∧ s.becomes t s.cpi [.flc]) ∧
      (∀ f n, s.flc.frame = some f → f.cut = true → f.kind = .live n → s.cpi.linkFree → ∃ t, exec c s = .next t ∧
        t.sentFeed (start f ++ [.frameEnd true]) ∧
        t.flc = { s.flc with hold := none, frame := none, buffer := [], allowanceTimer := none } ∧
        s.becomes t s.cpi [.flc])
    (∀ d : Half, d ≠ 0 → ∃ t, exec (.hold d) s = .next t ∧ t.sentFeed [] ∧
      t.flc = { s.flc with hold := running (max 16 d.toNat) (s.pending.count .holdTimerExpiry) } ∧ s.becomes t s.cpi [.flc]) ∧
    released (.hold 0) ∧ (∀ d, s.flc.hold = running d 0 → released .holdTimerExpiry) ∧
    (∀ f r, s.flc.allowanceTimer = running r 0 → s.flc.frame = some f → (s.flc.hold ≠ none ∨ ¬ counted.linkFree) →
      ∃ t, exec .allowanceTimerExpiry s = .next t ∧ t.sentFeed [] ∧
        t.flc = { s.flc with frame := some { f with cut := true }, buffer := [], allowanceTimer := none } ∧
        t.spm = s.spm.removeKind .feed ∧ s.becomes t counted [.flc, .spm]) ∧
    (∀ f r n, s.flc.allowanceTimer = running r 0 → s.flc.frame = some f → s.flc.hold = none → f.kind = .live n → counted.linkFree →
      ∃ t, exec .allowanceTimerExpiry s = .next t ∧ t.sentFeed (start f ++ [.frameEnd true]) ∧
        t.flc = { s.flc with frame := none, buffer := [], allowanceTimer := none } ∧
        t.spm = s.spm.removeKind .feed ∧ s.becomes t counted [.flc, .spm]) ∧
    (∀ d n, s.flc.hold = running d (n + 1) → ∃ t, exec .holdTimerExpiry s = .next t ∧
      t.flc = { s.flc with hold := running d n } ∧ t.sentFeed [] ∧ s.becomes t s.cpi [.flc]) ∧
    (∀ d n, s.flc.allowanceTimer = running d (n + 1) → ∃ t, exec .allowanceTimerExpiry s = .next t ∧
      t.flc = { s.flc with allowanceTimer := running d n } ∧ t.sentFeed [] ∧ s.becomes t s.cpi [.flc]) ∧
    (∀ c, (c = .holdTimerExpiry ∧ s.flc.hold = none) ∨ (c = .allowanceTimerExpiry ∧ s.flc.allowanceTimer = none) →
      ∃ t, exec c s = .next t ∧ t.sentFeed [] ∧ s.becomes t s.cpi [])

/-- A feed frame starts in FEED_UP when the due flag is set and none is in flight: a waiting export frame first, else a LATEST frame
newer than the last fed, which gets the FEED holder and is read through the largest centred rectangle of the feed's aspect in its
region. The marks are latched and both timers start, so that their expiries that wait do not happen (log 58). Without such a frame
nothing starts (07 R110, R111, R112, R113, R116, R118). -/
def Obligations.FeedFramesStart : Prop :=
  ∀ (s : State) (r : AgreementResult), s.powered = true → s.flc.agreement = .feedUp → s.flc.result = some r →
    s.flc.frame = none → s.flc.due = true →
    let size := feedFormat r.format
    let w := s.vwc.window
    let region : Rect := if r.crop then { x0 := w.x0, y0 := w.y0, w := w.ww, h := w.wh } else { x0 := 0, y0 := 0, w := 3840, h := 2880 }
    let sw := if region.h * size.1 ≤ region.w * size.2.1 then region.h * size.1 / size.2.1 else region.w
    let sh := if region.h * size.1 ≤ region.w * size.2.1 then region.h else region.w * size.2.1 / size.1
    let interval := (1000 + r.rate - 1) / r.rate
    let launched : FeedFrame → Flc := fun f =>
      { s.flc with frame := some f, buffer := [], intervalTimer := running interval (s.pending.count .intervalTimerExpiry),
                   allowanceTimer := running (4 * interval) (s.pending.count .allowanceTimerExpiry), due := false }
    (∀ e, s.flc.exportFrame = some e → ∃ t, exec .feedFrameStart s = .next t ∧
      t.flc = launched { kind := .exported e.lesson e.serial, slot := e.slot, width := 1920, height := 1440, x0 := 0, y0 := 0,
                         sx := 65536, sy := 65536, marks := s.flc.marks, produced := 0, sent := 0, stopped := false,
                         sending := false, cut := false } ∧
      s.becomes t s.cpi [.flc]) ∧
    (∀ n f, s.flc.exportFrame = none → s.spm.find .latest = some n → (s.spm.slot n).content = .liveFrame f →
      s.flc.lastFed < f → ∃ t, exec .feedFrameStart s = .next t ∧
      t.flc = { launched { kind := .live f, slot := n, width := size.1, height := size.2.1,
                           x0 := region.x0 + (region.w - sw) / 2, y0 := region.y0 + (region.h - sh) / 2,
                           sx := sw * 65536 / size.1, sy := sh * 65536 / size.2.1, marks := s.flc.marks, produced := 0,
                           sent := 0, stopped := false, sending := false, cut := false } with lastFed := f } ∧
      t.spm = s.spm.place n .feed ∧ s.becomes t s.cpi [.flc, .spm]) ∧
    (s.flc.exportFrame = none → (∀ n f, s.spm.find .latest = some n → (s.spm.slot n).content = .liveFrame f → f ≤ s.flc.lastFed) →
      ∃ t, exec .feedFrameStart s = .next t ∧ s.becomes t s.cpi [])

/-- A line is produced while the frame is not cut, the marks do not stop it and a line is left: it joins the buffer; at the high
mark production stops; at the start mark or with the last line sending begins; the last line of a live frame removes FEED (07
R113). A line is sent while sending has begun, the buffer holds one, no hold is in force and the link carries no command-channel
packet (log 40): FRAME_START goes before the first; at the low mark production resumes; the last line goes with FRAME_END, is
counted and ends a live frame's flight (07 R114). On the link a packet of the feed link controller is a header of two words, with
its kind, the odd-length bit, the CUT bit of a FRAME_END and the payload's length in words, then its payload, which is not stated
(10 R162; log 9, log 13). -/
def Obligations.FeedLinesProducedAndSent : Prop :=
  (∀ p : FeedPacket, ∃ (first : Byte) (payload padding : List Byte),
    let words := (payload.length + 1) / 2
    let kind : Byte := match p with
      | .page (.base _) => 8
      | .page (.note _) => 9
      | .frameStart _ _ _ => 12
      | .feedLine _ => 13
      | .frameEnd _ => 14
    p.bytes = [first, kind, BitVec.ofNat 8 words, BitVec.ofNat 8 (words / 256)] ++ payload ++ padding ∧
    (first.getLsbD 0 = true ↔ p = .frameEnd true) ∧ first.getLsbD 1 = decide (payload.length % 2 = 1) ∧
    padding.length = payload.length % 2) ∧
  (∀ (s : State) (f : FeedFrame), s.powered = true → s.flc.frame = some f → f.cut = false →
    let occupancy := s.flc.buffer.length
    (f.stopped = false → f.produced < f.height → ∃ t, exec .feedLineProduced s = .next t ∧ t.sentFeed [] ∧
      t.flc = { s.flc with
        buffer := s.flc.buffer ++ [f.line (s.spm.slot f.slot).picture f.produced],
        frame := some { f with
          produced := f.produced + 1, stopped := decide (f.marks.high ≤ occupancy + 1),
          sending := f.sending || decide (f.marks.start ≤ occupancy + 1 ∨ f.produced + 1 = f.height) } } ∧
      t.spm = (if f.produced + 1 = f.height then s.spm.removeKind .feed else s.spm) ∧ s.becomes t s.cpi [.flc, .spm]) ∧
    ((f.stopped = true ∨ f.height ≤ f.produced) → ∃ t, exec .feedLineProduced s = .next t ∧ s.becomes t s.cpi []) ∧
    (∀ l rest, s.flc.buffer = l :: rest → f.sending = true → s.flc.hold = none → s.cpi.tetherTx = none →
      let before := if f.sent = 0 then [FeedPacket.frameStart f.kind f.width f.height] else []
      (f.sent + 1 ≠ f.height → ∃ t, exec .feedLineSent s = .next t ∧ t.sentFeed (before ++ [.feedLine l]) ∧
        t.flc = { s.flc with
          buffer := rest,
          frame := some { f with sent := f.sent + 1, stopped := f.stopped && decide (f.marks.low < rest.length) } } ∧
        s.becomes t s.cpi [.flc]) ∧
      (∀ n, f.sent + 1 = f.height → f.kind = .live n → ∃ t, exec .feedLineSent s = .next t ∧
        t.sentFeed (before ++ [.feedLine l, .frameEnd false]) ∧
        t.flc = { s.flc with buffer := [], frame := none, allowanceTimer := none } ∧
        s.becomes t (s.cpi.count .feedFramesSent) [.flc])) ∧
    ((s.flc.hold ≠ none ∨ s.flc.buffer = [] ∨ f.sending = false) → ∃ t, exec .feedLineSent s = .next t ∧
      t.sentFeed [] ∧ s.becomes t s.cpi []))

/-- A base offer with a fault brings an agreement or the feed to FEED_DOWN; in FEED_UP one with the restart flag makes a remote
restart, which goes on as any agreement does, another is discarded. FEED_RESTART, refused BUSY before the hand-over, begins the
agreement anew from every state. Leaving FEED_UP ends a frame in flight, counted as cut unless it had been cut, and removes FEED; an
export frame held then, waiting or in flight, ends as FEED_LOST (07 R104, R107, R109, R117 to R120). The sending of an export frame
also ends when it is fully sent, DONE, and when its FRAME_END with CUT goes, FEED_CUT, at a hold's end, at the allowance timer's
expiry, or when the sending of a command-channel packet ends and it is its turn. EXPORT is then removed and the job leaves the queue
with its record (log 47 on its lesson). Said for a queue that holds this job alone (07 R114, R116 to R118; 04 R58; 09 R149). The
page timer starts anew with every page sent (07 R108; log 58 on its expiries that wait). Pages take their turn on the tether link
(10 R155; log 23). -/
def Obligations.FeedLeavesUpAndExportEnds : Prop :=
  (∀ (s : State) (x : Option Job), s.powered = true → (x = none → s.flc.exportFrame = none) →
    (∀ j, x = some j → s.flc.agreement = .feedUp ∧ s.flc.exportFrame ≠ none ∧ s.lsc.queue = [j] ∧
      ∃ l p, j.task = .exportPage l p) →
    let up := s.flc.agreement = .feedUp
    let counted := match s.flc.frame with
      | some f => if up ∧ f.cut = false then s.cpi.count .feedFramesCut else s.cpi
      | none => s.cpi
    let dropped := match x with
      | none => counted
      | some j => counted.given j.port
          { marker := j.marker, kind := 36, ending := .failed, reason := .feedLost, lesson := j.task.lesson, serial := j.serial,
            frame := s.siu.frameNumber }
    let unfed := if up then s.spm.removeKind .feed else s.spm
    let pool := if x = none then unfed else unfed.removeKind .exported
    let jobs := if x = none then s.lsc else { s.lsc with queue := [] }
    let left : Flc := if up then
        { s.flc with result := none, frame := none, buffer := [], intervalTimer := none, allowanceTimer := none, due := false,
                     exportFrame := none }
      else s.flc
    let own : BaseOffer :=
      { formats := 0xFF, nextPage := !s.flc.notes.isEmpty, ack := true, fault := .noFault, restart := false }
    let pages := s.flc.notes.flatMap Note.pages
    let first := pages.headD { kind := .message, code := 1 }
    let note : NotePage :=
      { nextPage := decide (1 < pages.length), ack := true, kind := first.kind, ack2 := false, toggle := true,
        code := first.code }
    let anew : Flc := { left with
      result := none, latched := s.flc.notes, unsent := pages, lastPage := none, bridgeToggle := false, expectRate := false,
      rateLimit := none, cropAgreed := false, exportAgreed := false, pageTimer := s.pageTimerAnew }
    let all := [Block.flc, .spm, .lsc]
    (∀ o : BaseOffer, s.flc.started = true → o.fault ≠ .noFault →
      s.flc.agreement ∈ [Agreement.offering, .ackSeen, .noteExchange, .feedUp] →
      ∃ t, exec (.baseOffer o) s = .next t ∧ s.givesPages t [] ∧
        t.flc = { left with agreement := .feedDown, pageTimer := none, result := none, pages := t.flc.pages } ∧
        t.spm = pool ∧ t.lsc = jobs ∧ s.becomes t (dropped.raise .feedDown) all) ∧
    (∀ o : BaseOffer, s.flc.started = true → up → o.fault = .noFault → o.restart = true →
      let held : Flc := { anew with partner := some o }
      let quiet := s.flc.notes = [] ∧ o.nextPage = false
      let restarted := dropped.raise .feedRemoteRestart
      let goes := fun (t : State) (new : List AgreementPage) (flc : Flc) (c : Cpi) => exec (.baseOffer o) s = .next t ∧
        s.givesPages t (.base own :: new) ∧ t.flc = { flc with pages := t.flc.pages } ∧ t.spm = pool ∧ t.lsc = jobs ∧
        s.becomes t c all
      (o.ack = false → ∃ t, goes t [] { held with agreement := .ackSeen } restarted) ∧
      (o.ack = true → ¬ quiet → ∃ t, goes t [.note note]
        { held with agreement := .noteExchange, unsent := pages.tail, lastPage := some note } restarted) ∧
      (∀ f, o.ack = true → quiet → f < 8 → o.formats.getLsbD f = true → (∀ g, f < g → o.formats.getLsbD g = false) →
        ∃ t, goes t []
          { held with
            agreement := .feedUp, restartCount := 0, pageTimer := none, due := true,
            result := some { format := f, rate := (feedFormat f).2.2, crop := false, exporting := false } }
          (restarted.raise .feedUp)) ∧
      (o.ack = true → quiet → o.formats = 0 → ∃ t last, last.fault = .refused ∧
        goes t [.base last] { held with agreement := .feedDown, pageTimer := none } (restarted.raise .noCommonFormat))) ∧
    (∀ o : BaseOffer, s.flc.started = false → ∃ t, exec (.baseOffer o) s = .next t ∧ t.sentFeed [] ∧ s.becomes t s.cpi []) ∧
    (∀ o : BaseOffer, s.flc.started = true →
      (s.flc.agreement ∈ [Agreement.feedDown, .feedFailed] ∨ (up ∧ o.fault = .noFault ∧ o.restart = false)) →
      ∃ t, exec (.baseOffer o) s = .next t ∧ s.givesPages t [] ∧ t.flc = { s.flc with pages := t.flc.pages } ∧
        s.becomes t s.cpi [.flc]) ∧
    (∀ h : CmdHeader, s.takes h.port →
      (s.flc.started = false → ∃ t, exec (.feedRestart h []) s = .next t ∧ s.refuses t 32 h .busy) ∧
      (s.flc.started = true → (s.flc.frame ≠ none → up) → ∃ t, exec (.feedRestart h []) s = .next t ∧
        s.givesPages t [.base { own with ack := false }] ∧
        t.flc = { anew with
          agreement := .offering, partner := none, restartCount := 0, hold := none, buffer := [], pages := t.flc.pages } ∧
        t.spm = pool ∧ t.lsc = jobs ∧ s.answers t dropped 32 h (done false) all))) ∧
  (∀ (s : State) (f : FeedFrame) (e : ExportFrame) (j : Job) (lesson position : Nat), s.powered = true →
    s.flc.frame = some f → f.kind = .exported e.lesson e.serial → s.flc.exportFrame = some e → s.lsc.queue = [j] →
    j.task = .exportPage lesson position →
    let record := fun (ending : Ending) (r : Reason) =>
      ({ marker := j.marker, kind := 36, ending := ending, reason := r, lesson := some lesson, serial := j.serial,
         frame := s.siu.frameNumber } : Completion)
    let start := if f.sent = 0 then [FeedPacket.frameStart f.kind f.width f.height] else []
    let counted := s.cpi.count .feedFramesCut
    let ended : Flc := { s.flc with frame := none, buffer := [], allowanceTimer := none, exportFrame := none }
    (∀ l rest, f.cut = false → s.flc.buffer = l :: rest → f.sending = true → s.flc.hold = none → s.cpi.tetherTx = none →
      f.sent + 1 = f.height → ∃ t, exec .feedLineSent s = .next t ∧ t.sentFeed (start ++ [.feedLine l, .frameEnd false]) ∧
        t.flc = ended ∧ t.spm = s.spm.removeKind .exported ∧ t.lsc = { s.lsc with queue := [] } ∧
        s.becomes t ((s.cpi.count .feedFramesSent).given j.port
          (record (if j.withdrawn then .doneDespiteWithdraw else .done) .noReason)) [.flc, .spm, .lsc]) ∧
    (∀ c, f.cut = true → s.cpi.linkFree → (c = .hold 0 ∨ (c = .holdTimerExpiry ∧ ∃ d, s.flc.hold = running d 0)) →
      ∃ t, exec c s = .next t ∧ t.sentFeed (start ++ [.frameEnd true]) ∧ t.flc = { ended with hold := none } ∧
        t.spm = s.spm.removeKind .exported ∧ t.lsc = { s.lsc with queue := [] } ∧
        s.becomes t (s.cpi.given j.port (record .failed .feedCut)) [.flc, .spm, .lsc]) ∧
    (∀ r, s.flc.allowanceTimer = running r 0 → s.flc.hold = none → counted.linkFree →
      ∃ t, exec .allowanceTimerExpiry s = .next t ∧ t.sentFeed (start ++ [.frameEnd true]) ∧ t.flc = ended ∧
        t.spm = (s.spm.removeKind .feed).removeKind .exported ∧ t.lsc = { s.lsc with queue := [] } ∧
        s.becomes t (counted.given j.port (record .failed .feedCut)) [.flc, .spm, .lsc]) ∧
    (∀ k, f.cut = true → s.flc.hold = none → s.cpi.tetherTx = some k → s.cpi.lastSide = some .cpi →
      ∃ t p, exec .tetherPacketSent s = .next t ∧ s.cpi.tether.sentOne p k ∧
        let has := p.owed ≠ none ∨ p.completions ≠ [] ∨ p.flags ≠ 0
        (s.flc.pages = [] ∨ ¬ has →
          t.sentFeed (s.flc.pages.map FeedPacket.page ++ start ++ [.frameEnd true]) ∧ t.flc = { ended with pages := [] } ∧
          t.spm = s.spm.removeKind .exported ∧ t.lsc = { s.lsc with queue := [] } ∧
          s.becomes t ({ s.cpi with tether := p }.given j.port (record .failed .feedCut)) [.flc, .spm, .lsc])))

/-! ### Store jobs: acceptance, withdrawal, runs (09) -/

/-- A store job command that meets every check is answered ACCEPTED and its job joins the tail of the queue, with what its
acceptance fixes: the page serial, the lesson, the limited position, name and flags, and for a STORE the capture pin on the LATEST
slot, the lesson that is OPEN, the frame, the crop and the view. Said for a queue that holds a job, so that no run begins (09
R137, R138, R139, R146, R147; 04 R56). -/
def Obligations.JobsJoinQueue : Prop :=
  ∀ (h : CmdHeader) (s : State), s.takes h.port → s.lsc.mode ≠ .starting → s.lsc.queue ≠ [] → s.lsc.queue.length < 16 →
    let job := fun (task : JobTask) (serial : Option Half) (pin : Option Nat) =>
      ({ task := task, port := h.port, marker := h.marker, state := .queued, withdrawn := false, serial := serial, pin := pin,
         stage := .notBegun, retries := 0 } : Job)
    let joins := fun (c : Instr) (kind : Byte) (task : JobTask) (serial : Option Half) (clamped : Bool) =>
      ∃ t, exec c s = .next t ∧ t.lsc = { s.lsc with queue := s.lsc.queue ++ [job task serial none] } ∧
        s.answers t s.cpi kind h (accepted clamped .nothing) [.lsc]
    let lesson := fun l : Byte => s.lsc.lessons.getD l.toNat Config.emptyLesson
    let page := fun (l p : Byte) (r : PageRecord) => (lesson l).pages[p.toNat]? = some r ∧ r.state ≠ .writing
    let may := fun (l : Byte) (r : Right) => l.toNat < 32 ∧ s.cpi.allows h.port l.toNat r = true
    let writable := s.lsc.mode = .ready
    (∀ (b : Byte) (l n f : Nat), writable → currentLesson s.lsc.lessons = some l → s.cpi.allows h.port l .toSave = true →
      s.spm.find .latest = some n → (s.spm.slot n).content = .liveFrame f → s.spm.pinCount < 2 →
      let crop : CropKind × Rect :=
        if b = 0 then (.view, { x0 := s.vwc.window.x0, y0 := s.vwc.window.y0, w := s.vwc.window.ww, h := s.vwc.window.wh })
        else if b = 1 then
          match s.tcl.box with
          | some x => (.page, { x0 := 64 * x.c0, y0 := 64 * x.r0, w := 64 * (x.c1 - x.c0 + 1), h := 64 * (x.r1 - x.r0 + 1) })
          | none => (.fullFallback, { x0 := 0, y0 := 0, w := 3840, h := 2880 })
        else (.full, { x0 := 0, y0 := 0, w := 3840, h := 2880 })
      let capture : Capture :=
        { crop := crop.1, rect := crop.2, frame := f, cx := s.vwc.window.cx, cy := s.vwc.window.cy, zc := s.vwc.zc }
      ∃ t, exec (.store h [b]) s = .next t ∧
        t.lsc = { s.lsc with queue := s.lsc.queue ++ [job (.store l capture) none (some n)] } ∧
        t.spm = s.spm.pin n { port := h.port, marker := h.marker } ∧
        s.answers t s.cpi 34 h (accepted (decide (2 < b.toNat)) .nothing) [.lsc, .spm]) ∧
    (∀ l p r, may l .toShow → page l p r → joins (.recall h [l, p]) 35 (.recall l.toNat p.toNat) (some r.serial) false) ∧
    (∀ l p r a, may l .toExport → page l p r → (lesson l).lock = false → s.flc.agreement = .feedUp → s.flc.result = some a →
      a.exporting = true → joins (.exportPage h [l, p]) 36 (.exportPage l.toNat p.toNat) (some r.serial) false) ∧
    (∀ l p r, writable → may l .toSave → page l p r → (lesson l).kept = false →
      joins (.delete h [l, p]) 37 (.delete l.toNat p.toNat) (some r.serial) false) ∧
    (∀ l p q r, writable → may l .toSave → page l p r →
      joins (.move h [l, p, q]) 38 (.move l.toNat p.toNat (min 63 q.toNat)) (some r.serial) (decide (63 < q.toNat))) ∧
    (∀ l, writable → may l .toSave → joins (.openLesson h [l]) 39 (.openLesson l.toNat) none false) ∧
    (∀ l, writable → currentLesson s.lsc.lessons = some l → s.cpi.allows h.port l .toSave = true →
      joins (.closeLesson h []) 40 (.closeLesson l) none false) ∧
    (∀ l, writable → may l .toSave → (lesson l).kept = false → joins (.clearLesson h [l]) 41 (.clearLesson l.toNat) none false) ∧
    (∀ (l : Byte) (name : List Byte), writable → may l .toSave → (lesson l).state ≠ .empty →
      joins (.nameLesson h (l :: name)) 42
        (.nameLesson l.toNat ((name.take 24).map fun b => if 32 ≤ b.toNat ∧ b.toNat ≤ 126 then b else 32)) none
        (decide (24 < name.length ∨ ∃ b ∈ name.take 24, b.toNat < 32 ∨ 126 < b.toNat))) ∧
    (∀ l k x, writable → l.toNat < 32 → (lesson l).state ≠ .empty → h.port = .panel →
      ∃ kept lock open1 open2, flagSays k kept open1 ∧ flagSays x lock open2 ∧
        joins (.setLessonFlags h [l, k, x]) 43 (.setLessonFlags l.toNat kept lock) none (open1 || open2)) ∧
    (writable → joins (.saveSettings h []) 44 .saveSettings none false)

/-- While the store is STARTING every store job command is refused BUSY; otherwise one that fails a check of Table 9-2 is refused
with the reason of the first check that it fails. A refused command changes nothing (09 R138; 08 R132). -/
def Obligations.JobsCheckedInOrder : Prop :=
  ∀ (c : Instr) (kind : Byte) (h : CmdHeader) (args : List Byte) (s : State),
    asCommand c = some (kind, h, args) → namedCommand c = true → 34 ≤ kind.toNat → kind.toNat ≤ 44 →
    lengthAllowed kind.toNat args.length = true → s.takes h.port →
    (s.lsc.mode = .starting → ∃ t, exec c s = .next t ∧ s.refuses t kind h .busy) ∧
    (s.lsc.mode ≠ .starting → ∀ before after reason,
      s.jobChecks h.port kind.toNat args = before ++ (false, reason) :: after → (∀ x ∈ before, x.1 = true) →
      ∃ t, exec c s = .next t ∧ s.refuses t kind h reason)

/-- WITHDRAW acts on the oldest job of its own port with its marker. A RUNNING job is marked and goes on; another leaves the queue
with its pin and the record WITHDRAWN. When that was the head, the next job begins its run: here a DELETE whose page is gone,
which fails with NO_SUCH_PAGE and leaves as well, or a RECALL, which takes the lowest FREE slot where two are FREE and begins its
load, and else waits (04 R49, R59; 09 R145; log 44 on the slot's picture). Without such a job WITHDRAW is refused NO_SUCH_JOB,
while STARTING it is refused BUSY (09 R137, R146, R149, R150). The record WITHDRAWN carries the job's serial (log 29). -/
def Obligations.WithdrawalsTaken : Prop :=
  ∀ (h : CmdHeader) (m : Byte) (s : State), s.takes h.port →
    let mine := fun j : Job => j.port = h.port ∧ j.marker = m
    let record := fun (j : Job) (e : Ending) (r : Reason) =>
      ({ marker := j.marker, kind := j.task.code, ending := e, reason := r, lesson := j.task.lesson, serial := j.serial,
         frame := s.siu.frameNumber } : Completion)
    (s.lsc.mode = .starting → ∃ t, exec (.withdraw h [m]) s = .next t ∧ s.refuses t 45 h .busy) ∧
    (s.lsc.mode ≠ .starting → (∀ j ∈ s.lsc.queue, ¬ mine j) →
      ∃ t, exec (.withdraw h [m]) s = .next t ∧ s.refuses t 45 h .noSuchJob) ∧
    (s.lsc.mode ≠ .starting → ∀ before j after, s.lsc.queue = before ++ j :: after → (∀ i ∈ before, ¬ mine i) → mine j →
      (j.state = .running → ∃ t, exec (.withdraw h [m]) s = .next t ∧
        t.lsc = { s.lsc with queue := before ++ { j with withdrawn := true } :: after } ∧
        s.answers t s.cpi 45 h (doneWith false (.withdrawal true)) [.lsc]) ∧
      (j.state ≠ .running → (before ≠ [] ∨ after = [] ∨ s.lsc.activity ≠ .idle) → ∃ t, exec (.withdraw h [m]) s = .next t ∧
        t.lsc = { s.lsc with queue := before ++ after } ∧
        t.spm = (match j.pin with
          | none => s.spm
          | some n => s.spm.unpin n { port := j.port, marker := j.marker }) ∧
        s.answers t (s.cpi.given j.port (record j .withdrawn .noReason)) 45 h (doneWith false (.withdrawal false)) [.lsc, .spm]) ∧
      (∀ k l p q, j.state ≠ .running → before = [] → after = [k] → s.lsc.activity = .idle → s.lsc.mode = .ready →
        k.task = .delete l p → k.serial = some q → (∀ r ∈ recordsOf s.lsc.lessons, r.serial ≠ q) → j.pin = none →
        ∃ t, exec (.withdraw h [m]) s = .next t ∧ t.lsc = { s.lsc with queue := [] } ∧
          s.answers t ((s.cpi.given j.port (record j .withdrawn .noReason)).given k.port (record k .failed .noSuchPage)) 45 h
            (doneWith false (.withdrawal false)) [.lsc]) ∧
      (∀ k l p q r i n, j.state ≠ .running → before = [] → after = [k] → s.lsc.activity = .idle → j.pin = none →
        k.task = .recall l p → k.serial = some q → (recordsOf s.lsc.lessons).find? (·.serial == q) = some r →
        holdsPage s.lsc.lessons i q →
        let withdrawn := fun (t : State) (bs : List Block) => exec (.withdraw h [m]) s = .next t ∧
          s.answers t (s.cpi.given j.port (record j .withdrawn .noReason)) 45 h (doneWith false (.withdrawal false)) bs
        (s.spm.lowestFree = some n → 2 ≤ s.spm.freeCount → ∃ t, withdrawn t [.lsc, .spm] ∧
          t.spm = s.spm.take n .load (.storedPage i q) (.stored []) ∧
          t.lsc = { s.lsc with
            queue := [{ k with state := .running }], flash := some (.read (64 + 32 * r.place) 0),
            activity := .loading n { page := 0, crc := 0xFFFFFFFF, sound := true } }) ∧
        (s.spm.freeCount < 2 → ∃ t, withdrawn t [.lsc] ∧
          t.lsc = { s.lsc with queue := [{ k with state := .waitSlot }] })))

/-- An edit makes its effect when its run begins, here at its acceptance into an empty queue: OPEN_LESSON, CLOSE_LESSON,
CLEAR_LESSON, NAME_LESSON, SET_LESSON_FLAGS, DELETE and MOVE change the lesson table as stated, SAVE_SETTINGS takes the settings
in force. A catalogue write follows where the due flag is set; where it is clear, the job leaves at once as DONE. A write that
finds no further sequence number makes no attempt: the store becomes READ_ONLY and the job fails with STORE_MEDIA (08 R131; 09
R146, R147, R148, R149; log 26). What ends a job when its run begins, here when the job before it is withdrawn. In READ_ONLY mode
every job but RECALL and EXPORT fails with STORE_MEDIA (SAVE_SETTINGS among them: log 45). A STORE fails with LESSON_CLOSED,
LESSON_FULL or STORE_FULL; RECALL, EXPORT, DELETE and MOVE with NO_SUCH_PAGE; EXPORT with EXPORT_LOCKED or FEED_LOST; DELETE and
CLEAR_LESSON with LESSON_KEPT. The lock and the kept flag are those of the lesson that holds the page, and the record names the
lesson of the command, also where the two differ (log 47). The job leaves the queue with its FAILED record, and nothing else
changes but that a STORE's pin goes (09 R140, R144 to R147, R149; the withdrawn job's record: log 29). -/
def Obligations.EditsTakeEffectOrFail : Prop :=
  (∀ (h : CmdHeader) (s : State), s.takes h.port → s.lsc.mode = .ready → s.lsc.queue = [] → s.lsc.activity = .idle →
    let works := fun (c : Instr) (kind : Byte) (task : JobTask) (serial : Option Half) (clamped : Bool)
        (ls : List LessonRecord) (saved : SavedSettings) (changed : Prop) =>
      let record : Completion :=
        { marker := h.marker, kind := kind, ending := .done, reason := .noReason, lesson := task.lesson, serial := serial,
          frame := s.siu.frameNumber }
      (¬ (changed ∨ s.lsc.due = true) → ∃ t, exec c s = .next t ∧ t.lsc = s.lsc ∧
        s.answers t (s.cpi.given h.port record) kind h (accepted clamped .nothing) []) ∧
      ((changed ∨ s.lsc.due = true) → s.lsc.catSeq ≠ 0xFFFFFFFF → ∃ t, exec c s = .next t ∧
        t.lsc = ({ s.lsc with
          lessons := ls, saved := saved, due := true,
          queue := [{ task := task, port := h.port, marker := h.marker, state := .running, withdrawn := false,
                      serial := serial, pin := none, stage := .notBegun, retries := 0 }] } : Lsc).startsWrite .job ∧
        s.answers t s.cpi kind h (accepted clamped .nothing) [.lsc]) ∧
      ((changed ∨ s.lsc.due = true) → s.lsc.catSeq = 0xFFFFFFFF → ∃ t, exec c s = .next t ∧
        t.lsc = { s.lsc.rests with lessons := ls, saved := saved, due := true, mode := .readOnly } ∧
        s.answers t ((s.cpi.raise .storeReadOnly).given h.port { record with ending := .failed, reason := .storeMedia }) kind h
          (accepted clamped .nothing) [.lsc])
    let edits := fun (c : Instr) (kind : Byte) (task : JobTask) (serial : Option Half) (clamped : Bool)
        (new : Nat → LessonRecord → LessonRecord) =>
      let ls := s.lsc.lessons.mapIdx new
      works c kind task serial clamped ls s.lsc.saved (ls ≠ s.lsc.lessons)
    let lesson := fun l : Byte => s.lsc.lessons.getD l.toNat Config.emptyLesson
    let may := fun l : Byte => l.toNat < 32 ∧ s.cpi.allows h.port l.toNat .toSave = true
    let pageOf := fun (l p : Byte) (r : PageRecord) =>
      (lesson l).pages[p.toNat]? = some r ∧ r.state ≠ .writing ∧
      ∀ (k : Nat) (x : LessonRecord) (i : Nat) (y : PageRecord), s.lsc.lessons[k]? = some x → x.pages[i]? = some y →
        y.serial = r.serial → k = l.toNat ∧ i = p.toNat
    (∀ l, may l → edits (.openLesson h [l]) 39 (.openLesson l.toNat) none false fun i r =>
      if i = l.toNat then (if r.state = .empty then { r with state := .opened, name := [], pages := [] } else { r with state := .opened })
      else if r.state = .opened then { r with state := .closed } else r) ∧
    (∀ l, currentLesson s.lsc.lessons = some l → s.cpi.allows h.port l .toSave = true →
      edits (.closeLesson h []) 40 (.closeLesson l) none false fun i r => if i = l then { r with state := .closed } else r) ∧
    (∀ l, may l → (lesson l).kept = false → edits (.clearLesson h [l]) 41 (.clearLesson l.toNat) none false fun i r =>
      if i = l.toNat ∧ r.state ≠ .empty then { state := .empty, name := [], kept := false, lock := false, pages := [] } else r) ∧
    (∀ (l : Byte) (name : List Byte), may l → (lesson l).state ≠ .empty →
      let taken := (name.take 24).map fun b => if 32 ≤ b.toNat ∧ b.toNat ≤ 126 then b else (32 : Byte)
      edits (.nameLesson h (l :: name)) 42 (.nameLesson l.toNat taken) none
        (decide (24 < name.length ∨ ∃ b ∈ name.take 24, b.toNat < 32 ∨ 126 < b.toNat))
        fun i r => if i = l.toNat then { r with name := taken } else r) ∧
    (∀ l k x, h.port = .panel → l.toNat < 32 → (lesson l).state ≠ .empty →
      ∃ kept lock open1 open2, flagSays k kept open1 ∧ flagSays x lock open2 ∧
        edits (.setLessonFlags h [l, k, x]) 43 (.setLessonFlags l.toNat kept lock) none (open1 || open2)
          fun i r => if i = l.toNat then { r with kept := kept, lock := lock } else r) ∧
    (∀ l p r, may l → (lesson l).kept = false → pageOf l p r →
      edits (.delete h [l, p]) 37 (.delete l.toNat p.toNat) (some r.serial) false
        fun i x => if i = l.toNat then { x with pages := x.pages.eraseIdx p.toNat } else x) ∧
    (∀ l p q r, may l → pageOf l p r →
      edits (.move h [l, p, q]) 38 (.move l.toNat p.toNat (min 63 q.toNat)) (some r.serial) (decide (63 < q.toNat))
        fun i x => if i = l.toNat then
          { x with pages := (x.pages.eraseIdx p.toNat).insertIdx (min (min 63 q.toNat) (x.pages.length - 1)) r } else x) ∧
    works (.saveSettings h []) 44 .saveSettings none false s.lsc.lessons
      { classifier := s.tcl.table, edge := s.tsu.threshold, profiles := s.peu.profiles, glide := s.vwc.glide,
        mode := s.dou.pendingMode, marks := s.flc.marks, reachRoom := s.cpi.reachRoom, reachTether := s.cpi.reachTether,
        enablesPanel := s.cpi.panel.enables, enablesRoom := s.cpi.room.enables, enablesTether := s.cpi.tether.enables } True) ∧
  (∀ (s : State) (j : Job),
    let record := fun (k : Job) (e : Ending) (r : Reason) =>
      ({ marker := k.marker, kind := k.task.code, ending := e, reason := r, lesson := k.task.lesson, serial := k.serial,
         frame := s.siu.frameNumber } : Completion)
    let ends := fun (pool : Spm) (r : Reason) =>
      s.beginRun j = (s.withSpm pool, some r) ∧
      ∀ (h : CmdHeader) (m : Byte) (i : Job), s.takes h.port → s.lsc.mode ≠ .starting → s.lsc.activity = .idle →
        s.lsc.queue = [i, j] → i.port = h.port → i.marker = m → i.state ≠ .running → i.pin = none →
        ∃ t, exec (.withdraw h [m]) s = .next t ∧ t.lsc = { s.lsc with queue := [] } ∧ t.spm = pool ∧
          s.answers t ((s.cpi.given i.port (record i .withdrawn .noReason)).given j.port (record j .failed r)) 45 h
            (doneWith false (.withdrawal false)) [.lsc, .spm]
    let fails := fun r : Reason => ends s.spm r
    let failsUnpinned := fun r : Reason =>
      (j.pin = none → ends s.spm r) ∧
      (∀ n, j.pin = some n → ends (s.spm.unpin n { port := j.port, marker := j.marker }) r)
    let gone := ∀ q, j.serial = some q → ∀ r ∈ recordsOf s.lsc.lessons, r.serial ≠ q
    let lesson := fun l : Nat => s.lsc.lessons.getD l Config.emptyLesson
    (s.lsc.mode = .readOnly → (∀ l p, j.task ≠ .recall l p) → (∀ l p, j.task ≠ .exportPage l p) → failsUnpinned .storeMedia) ∧
    (∀ l c, j.task = .store l c → s.lsc.mode = .ready →
      ((lesson l).state ≠ .opened → failsUnpinned .lessonClosed) ∧
      ((lesson l).state = .opened → 64 ≤ (lesson l).pages.length → failsUnpinned .lessonFull) ∧
      ((lesson l).state = .opened → (lesson l).pages.length < 64 →
        (∀ p < 510, p ∈ s.lsc.retired ∨ ∃ r ∈ recordsOf s.lsc.lessons, r.place = p) → failsUnpinned .storeFull)) ∧
    (∀ l p, j.task = .recall l p → gone → fails .noSuchPage) ∧
    (∀ l p, j.task = .exportPage l p → gone → fails .noSuchPage) ∧
    (∀ l p, j.task = .delete l p → s.lsc.mode = .ready → gone → fails .noSuchPage) ∧
    (∀ l p q, j.task = .move l p q → s.lsc.mode = .ready → gone → fails .noSuchPage) ∧
    (∀ q k x, j.serial = some q → s.lsc.lessons[k]? = some x → (∃ r ∈ x.pages, r.serial = q) →
      (∀ (i : Nat) (y : LessonRecord), i < k → s.lsc.lessons[i]? = some y → ∀ r ∈ y.pages, r.serial ≠ q) →
      (∀ l p, j.task = .exportPage l p → x.lock = true → fails .exportLocked) ∧
      (∀ l p, j.task = .exportPage l p → x.lock = false →
        (s.flc.agreement ≠ .feedUp ∨ s.flc.result.map (·.exporting) ≠ some true) → fails .feedLost) ∧
      (∀ l p, j.task = .delete l p → s.lsc.mode = .ready → x.kept = true → fails .lessonKept)) ∧
    (∀ l, j.task = .clearLesson l → s.lsc.mode = .ready → (lesson l).kept = true → fails .lessonKept))

/-! ### The catalogue, the STORE run, loads, recovery (08, 09) -/

/-- A catalogue write goes from the erase of its block over the programming of every page to the reading back and comparing of
every page. The first operation that fails or page that differs ends the attempt: the next one takes the next sequence number and
the next block; after four, or without a further number, the store becomes READ_ONLY. When every page agrees the block is the last
written one, the write is counted, the due flag is cleared. An edit then ends as DONE, a RECALL or EXPORT whose page was unsound
as PAGE_DAMAGED, and the next job begins its run, as it does after RESTART's write (08 R130, R131, R134, R135; 09 R137, R145,
R148, R149). The end when the sequence number runs out between two attempts is log 27, the filling of the last page log 35, the
lesson of a RECALL's or EXPORT's record log 47. -/
def Obligations.CatalogueWriteGoes : Prop :=
  ∀ (s : State) (w : CatalogueWrite) (op : FlashOp), s.powered = true → s.lsc.activity = .writing w → s.lsc.flash = some op →
    let goes := fun (r : FlashResult) (next : FlashOp) (phase : WritePhase) =>
      ∃ t, exec (.flashOperationComplete r) s = .next t ∧
        t.lsc = { s.lsc with flash := some next, activity := .writing { w with phase := phase } } ∧ s.becomes t s.cpi [.lsc]
    let page := fun k : Nat =>
      (w.bytes.drop (2048 * k)).take 2048 ++ List.replicate (2048 - (w.bytes.length - 2048 * k)) Config.imagePadding
    let pages := max 1 ((w.bytes.length + 2047) / 2048)
    let block := (w.block + 1) % 64
    let fails := fun r : FlashResult =>
      r = .fail ∨ ∃ k data, w.phase = .readBack k ∧ r = .pass data ∧ data ≠ page k
    let record := fun (j : Job) (e : Ending) (r : Reason) =>
      ({ marker := j.marker, kind := j.task.code, ending := e, reason := r, lesson := j.task.lesson, serial := j.serial,
         frame := s.siu.frameNumber } : Completion)
    let edit := fun j : Job => (∀ l c, j.task ≠ .store l c) ∧ (∀ l p, j.task ≠ .recall l p) ∧ (∀ l p, j.task ≠ .exportPage l p)
    let goesOn := fun (r : FlashResult) (lsc : Lsc) (c : Cpi) =>
      let left : State := { s with lsc := lsc, cpi := c, emitted := [] }
      ∃ t, exec (.flashOperationComplete r) s = .next t ∧ left.runNext.becomes t left.runNext.cpi [] ∧
        (lsc.queue = [] → s.becomes t c [.lsc] ∧ t.lsc = lsc)
    (∀ data, w.phase = .erase → goes (.pass data) (.program w.block 0 (page 0)) (.program 0)) ∧
    (∀ data k, w.phase = .program k → k + 1 < pages →
      goes (.pass data) (.program w.block (k + 1) (page (k + 1))) (.program (k + 1))) ∧
    (∀ data k, w.phase = .program k → pages ≤ k + 1 → goes (.pass data) (.read w.block 0) (.readBack 0)) ∧
    (∀ k, w.phase = .readBack k → k + 1 < pages → goes (.pass (page k)) (.read w.block (k + 1)) (.readBack (k + 1))) ∧
    (∀ r, fails r → w.attempt < 4 → s.lsc.catSeq ≠ 0xFFFFFFFF →
      let image := { w.image with sequence := s.lsc.catSeq + 1 }
      ∃ t, exec (.flashOperationComplete r) s = .next t ∧
        t.lsc = { s.lsc with
          catSeq := s.lsc.catSeq + 1, flash := some (.erase block),
          activity := .writing { owner := w.owner, image := image, attempt := w.attempt + 1, block := block,
                                 bytes := image.bytes, phase := .erase } } ∧
        s.becomes t s.cpi [.lsc]) ∧
    (∀ r, fails r → (4 ≤ w.attempt ∨ s.lsc.catSeq = 0xFFFFFFFF) →
      (w.owner = .recovery → ∃ t, exec (.flashOperationComplete r) s = .next t ∧
        t.lsc = { s.lsc.rests with mode := .readOnly } ∧ s.becomes t (s.cpi.raise .storeReadOnly) [.lsc]) ∧
      (w.owner = .afterRestart → goesOn r { s.lsc.rests with mode := .readOnly } (s.cpi.raise .storeReadOnly)) ∧
      (∀ j rest, w.owner = .job → s.lsc.queue = j :: rest → (∀ l c, j.task ≠ .store l c) →
        goesOn r { s.lsc.rests with mode := .readOnly, queue := rest }
          ((s.cpi.raise .storeReadOnly).given j.port (record j .failed .storeMedia)))) ∧
    (∀ k, w.phase = .readBack k → pages ≤ k + 1 →
      let written := { s.lsc.rests with lastBlock := w.block, due := false }
      let counted := s.cpi.count .catalogueWrites
      (w.owner = .recovery → ∃ t, exec (.flashOperationComplete (.pass (page k))) s = .next t ∧
        t.lsc = { written with mode := .ready } ∧ s.becomes t (counted.raise .storeReady) [.lsc]) ∧
      (w.owner = .afterRestart → goesOn (.pass (page k)) written counted) ∧
      (∀ j rest, w.owner = .job → s.lsc.queue = j :: rest → edit j →
        goesOn (.pass (page k)) { written with queue := rest }
          (counted.given j.port (record j (if j.withdrawn then .doneDespiteWithdraw else .done) .noReason))) ∧
      (∀ j rest l p, w.owner = .job → s.lsc.queue = j :: rest → (j.task = .recall l p ∨ j.task = .exportPage l p) →
        goesOn (.pass (page k)) { written with queue := rest } (counted.given j.port (record j .failed .pageDamaged))))

/-- The stages of a STORE run: at its beginning, here its acceptance into an empty queue, it takes the lowest FREE place and the
first free serial, appends its WRITING record and makes a catalogue write; then it erases the place's 32 blocks, programs its 2025
image pages and the header, reads all 2026 back, sets the record KEPT with a second write, and ends. The pin goes when the read-back
is sound. Where no sequence number is left for one of the two writes, the store becomes READ_ONLY and the run fails with
STORE_MEDIA: at the first its record and pin go again, at the second the record stays KEPT (08 R131; 09 R139 to R142, R144, R149; 08
R122, R127, R128, R129). The read-back goes on after a failed read or a bad header (log 18). A header page has 2048 bytes and
carries the page mark; it is found again as the header of its own serial alone, its CRC is taken over bytes of the page that hold
the page mark and every other field, and an erased page is no header (08 R128, R129; the bytes themselves: log 8). -/
def Obligations.StoreRunGoes : Prop :=
  (∀ (h : CmdHeader) (b : Byte) (s : State) (l n f p k : Nat) (x : LessonRecord), s.takes h.port → s.lsc.mode = .ready →
    s.lsc.queue = [] → s.lsc.activity = .idle → currentLesson s.lsc.lessons = some l → s.lsc.lessons[l]? = some x →
    s.cpi.allows h.port l .toSave = true → s.spm.find .latest = some n → (s.spm.slot n).content = .liveFrame f →
    s.spm.pinCount < 2 → x.pages.length < 64 → (recordsOf s.lsc.lessons).length ≤ 510 →
    let used := fun p : Nat => p ∈ s.lsc.retired ∨ ∃ r ∈ recordsOf s.lsc.lessons, r.place = p
    let held := fun q : Half => ∃ r ∈ recordsOf s.lsc.lessons, r.serial = q
    let q := s.lsc.nextSerial + BitVec.ofNat 16 k
    p < 510 → ¬ used p → (∀ i < p, used i) → k < 65536 → ¬ held q →
    (∀ i < k, held (s.lsc.nextSerial + BitVec.ofNat 16 i)) →
    let pinned := s.spm.pin n { port := h.port, marker := h.marker }
    ∃ t c, exec (.store h [b]) s = .next t ∧ c = s.capture (cropArg b).1 ∧
      (s.lsc.catSeq ≠ 0xFFFFFFFF →
        t.lsc = ({ s.lsc with
          lessons := s.lsc.lessons.modify l fun y =>
            { y with pages := y.pages ++ [{ serial := q, place := p, state := .writing, crop := c.crop, frame := f,
                                            cx := s.vwc.window.cx, cy := s.vwc.window.cy, zc := s.vwc.zc, crc := none }] },
          nextSerial := q + 1, due := true,
          queue := [{ task := .store l c, port := h.port, marker := h.marker, state := .running, withdrawn := false,
                      serial := some q, pin := some n, stage := .record, retries := 0 }] } : Lsc).startsWrite .job ∧
        t.spm = pinned ∧ s.answers t s.cpi 34 h (accepted (decide (2 < b.toNat)) .nothing) [.lsc, .spm]) ∧
      (s.lsc.catSeq = 0xFFFFFFFF →
        t.lsc = { s.lsc.rests with nextSerial := q + 1, due := true, mode := .readOnly } ∧
        t.spm = pinned.unpin n { port := h.port, marker := h.marker } ∧
        s.answers t ((s.cpi.raise .storeReadOnly).given h.port
          { marker := h.marker, kind := 34, ending := .failed, reason := .storeMedia, lesson := some l, serial := some q,
            frame := s.siu.frameNumber }) 34 h (accepted (decide (2 < b.toNat)) .nothing) [.lsc, .spm])) ∧
  (∀ (s : State) (op : FlashOp) (j : Job) (rest : List Job) (l n : Nat) (c : Capture) (q : Half) (r : PageRecord),
    s.powered = true → s.lsc.flash = some op → s.lsc.queue = j :: rest → j.task = .store l c → j.serial = some q →
    j.pin = some n → (recordsOf s.lsc.lessons).find? (·.serial == q) = some r →
    let block := 64 + 32 * r.place
    let data := capturePage (s.spm.slot n).picture c.rect
    let goes := fun (result : FlashResult) (lsc : Lsc) =>
      ∃ t, exec (.flashOperationComplete result) s = .next t ∧ t.lsc = lsc ∧ s.becomes t s.cpi [.lsc]
    let at_ := fun (stage : StoreStage) => { s.lsc with queue := { j with stage := stage } :: rest }
    (∀ w k bytes, s.lsc.activity = .writing w → w.owner = .job → j.stage = .record → w.phase = .readBack k →
      imagePages w.bytes.length ≤ k + 1 → bytes = imagePage w.bytes k →
      ∃ t, exec (.flashOperationComplete (.pass bytes)) s = .next t ∧
        t.lsc = { at_ .erase with lastBlock := w.block, due := false, flash := some (.erase block), activity := .erasing 0 } ∧
        s.becomes t (s.cpi.count .catalogueWrites) [.lsc]) ∧
    (∀ k x, s.lsc.activity = .erasing k → k < 31 →
      goes (.pass x) { s.lsc with flash := some (.erase (block + k + 1)), activity := .erasing (k + 1) }) ∧
    (∀ x, s.lsc.activity = .erasing 31 →
      goes (.pass x) { at_ .program with
        flash := some (.program block 1 (data 1)), activity := .programming 1 (crcRun 0xFFFFFFFF (data 1)) }) ∧
    (∀ k crc x, s.lsc.activity = .programming k crc → 1 ≤ k → k < 2025 →
      goes (.pass x) { s.lsc with
        flash := some (.program (block + (k + 1) / 64) ((k + 1) % 64) (data (k + 1))),
        activity := .programming (k + 1) (crcRun crc (data (k + 1))) }) ∧
    (∀ crc x, s.lsc.activity = .programming 2025 crc →
      let header : PageHeader :=
        { serial := q, lesson := l, crop := r.crop, frame := r.frame, cx := r.cx, cy := r.cy, zc := r.zc, crc := ~~~ crc }
      goes (.pass x) { s.lsc with
        lessons := changeRecord s.lsc.lessons q fun y => { y with crc := some (~~~ crc) }, due := true,
        flash := some (.program block 0 (Config.header.page header (crc32 (Config.header.fieldBytes header)))),
        activity := .programming 0 crc }) ∧
    (∀ crc x, s.lsc.activity = .programming 0 crc →
      goes (.pass x) { at_ .readBack with
        flash := some (.read block 0), activity := .readingBack { page := 0, crc := 0xFFFFFFFF, sound := true } }) ∧
    (∀ d, s.lsc.activity = .readingBack d → d.page < 2025 →
      let reads := fun (result : FlashResult) (crc : Quad) (sound : Bool) =>
        goes result { s.lsc with
          flash := some (.read (block + (d.page + 1) / 64) ((d.page + 1) % 64)),
          activity := .readingBack { page := d.page + 1, crc := crc, sound := sound } }
      (∀ x, d.page = 0 → reads (.pass x) d.crc (d.sound && headerAgrees x q)) ∧
      (∀ x, d.page ≠ 0 → reads (.pass x) (crcRun d.crc x) d.sound) ∧ reads .fail d.crc false) ∧
    (∀ d x, s.lsc.activity = .readingBack d → d.page = 2025 → d.sound = true → r.crc = some (~~~ (crcRun d.crc x)) →
      let kept : Lsc := { s.lsc with lessons := changeRecord s.lsc.lessons q fun y => { y with state := .kept }, due := true }
      let unpinned := s.spm.unpin n { port := j.port, marker := j.marker }
      (s.lsc.catSeq ≠ 0xFFFFFFFF → ∃ t, exec (.flashOperationComplete (.pass x)) s = .next t ∧
        t.lsc = ({ kept with queue := { j with stage := .keep, pin := none } :: rest } : Lsc).startsWrite .job ∧
        t.spm = unpinned ∧ s.becomes t s.cpi [.lsc, .spm]) ∧
      (s.lsc.catSeq = 0xFFFFFFFF → rest = [] → ∃ t, exec (.flashOperationComplete (.pass x)) s = .next t ∧
        t.lsc = { kept.rests with mode := .readOnly, queue := [] } ∧ t.spm = unpinned ∧
        s.becomes t ((s.cpi.raise .storeReadOnly).given j.port
          { marker := j.marker, kind := 34, ending := .failed, reason := .storeMedia, lesson := some l, serial := some q,
            frame := s.siu.frameNumber }) [.lsc, .spm]))) ∧
  (∀ (s : State) (op : FlashOp) (j : Job) (w : CatalogueWrite) (l k : Nat) (c : Capture), s.powered = true → s.lsc.flash = some op →
    s.lsc.queue = [j] → j.task = .store l c → s.lsc.activity = .writing w → w.owner = .job → w.phase = .readBack k →
    imagePages w.bytes.length ≤ k + 1 →
    let ends := fun (e : Ending) (r : Reason) => ∃ t, exec (.flashOperationComplete (.pass (imagePage w.bytes k))) s = .next t ∧
      t.lsc = { s.lsc.rests with lastBlock := w.block, due := false, queue := [] } ∧
      s.becomes t ((s.cpi.count .catalogueWrites).given j.port
        { marker := j.marker, kind := 34, ending := e, reason := r, lesson := some l, serial := j.serial,
          frame := s.siu.frameNumber }) [.lsc]
    (j.stage = .keep → ends (if j.withdrawn then .doneDespiteWithdraw else .done) .noReason) ∧
    (∀ r, j.stage = .ending r → r ≠ .noReason → ends .failed r)) ∧
  (∀ header : PageHeader,
    let page := Config.header.page header (crc32 (Config.header.fieldBytes header))
    page.length = 2048 ∧ (∀ m ∈ Config.header.mark, page[m.1]? = some m.2) ∧
    (Config.header.covered header).map (fun p => page[p]?) = (Config.header.fieldBytes header).map some ∧
    (∀ m ∈ Config.header.mark, m.1 ∈ Config.header.covered header) ∧
    (header.inRange = true → ∀ q : Half, headerAgrees page q = true ↔ q = header.serial) ∧
    (∀ other : PageHeader, header.inRange = true → other.inRange = true →
      Config.header.fieldBytes header = Config.header.fieldBytes other → header = other) ∧
    ∀ q : Half, headerAgrees (List.replicate 2048 0xFF) q = false)

/-- An attempt of a STORE run ends with an erase fail, a program fail or an unsound read-back: its place is retired and
PLACE_RETIRED is raised. Below the retry limit the retry is counted and the record moves to the lowest FREE place, without its
CRC; without a place, or at the limit, the record and the pin go and the run fails with STORE_FULL or STORE_MEDIA. A catalogue
write follows; with no sequence number left it makes no attempt, and the record and the pin go (08 R131). When a write of the run
itself fails four times the run ends as STORE_MEDIA: at the write of its record the record and the pin go, at the write that keeps
the page the record stays KEPT, at a failing run's own write the record is gone already (09 R143, R144; 08 R124). An unsound
read-back is decided at its last page (log 18). -/
def Obligations.StoreAttemptFails : Prop :=
  (∀ (s : State) (op : FlashOp) (j : Job) (w : CatalogueWrite) (l : Nat) (c : Capture) (result : FlashResult), s.powered = true →
    s.lsc.flash = some op → s.lsc.queue = [j] → j.task = .store l c → (j.stage = .keep ∨ ∃ r, j.stage = .ending r) →
    s.lsc.activity = .writing w → w.owner = .job → w.attempt = 4 →
    (result = .fail ∨ ∃ k x, w.phase = .readBack k ∧ result = .pass x ∧ x ≠ imagePage w.bytes k) →
    ∃ t, exec (.flashOperationComplete result) s = .next t ∧
      t.lsc = { s.lsc.rests with mode := .readOnly, queue := [] } ∧
      s.becomes t ((s.cpi.raise .storeReadOnly).given j.port
        { marker := j.marker, kind := 34, ending := .failed, reason := .storeMedia, lesson := some l, serial := j.serial,
          frame := s.siu.frameNumber }) [.lsc]) ∧
  (∀ (s : State) (op : FlashOp) (j : Job) (l n : Nat) (c : Capture) (q : Half) (r : PageRecord) (result : FlashResult),
    s.powered = true → s.lsc.flash = some op → s.lsc.queue = [j] → j.task = .store l c → j.serial = some q → j.pin = some n →
    (recordsOf s.lsc.lessons).find? (·.serial == q) = some r →
    let unpinned := s.spm.unpin n { port := j.port, marker := j.marker }
    let removed := s.lsc.lessons.map fun y => { y with pages := y.pages.filter fun z => z.serial != q }
    let failed := (∃ k, s.lsc.activity = .erasing k ∧ result = .fail) ∨ (∃ k crc, s.lsc.activity = .programming k crc ∧ result = .fail) ∨
      (∃ d, s.lsc.activity = .readingBack d ∧ d.page = 2025 ∧
        (d.sound = false ∨ result = .fail ∨ ∃ x, result = .pass x ∧ r.crc ≠ some (~~~ (crcRun d.crc x))))
    let used := fun p : Nat => p ∈ s.lsc.retired ∨ p = r.place ∨ ∃ x ∈ recordsOf s.lsc.lessons, x.place = p
    let retired : Lsc := { s.lsc with retired := s.lsc.retired ++ [r.place], due := true }
    (failed → s.lsc.catSeq ≠ 0xFFFFFFFF →
      (∀ p, j.retries < s.lsc.retryLimit → p < 510 → ¬ used p → (∀ i < p, used i) →
        ∃ t, exec (.flashOperationComplete result) s = .next t ∧
          t.lsc = ({ retired with
            lessons := changeRecord s.lsc.lessons q fun y => { y with place := p, crc := none },
            queue := [{ j with retries := j.retries + 1, stage := .record }] } : Lsc).startsWrite .job ∧
          s.becomes t ((s.cpi.raise .placeRetired).count .storeRetries) [.lsc]) ∧
      (j.retries < s.lsc.retryLimit → (∀ p < 510, used p) → ∃ t, exec (.flashOperationComplete result) s = .next t ∧
        t.lsc = ({ retired with
          lessons := removed,
          queue := [{ j with retries := j.retries + 1, pin := none, stage := .ending .storeFull }] } : Lsc).startsWrite .job ∧
        t.spm = unpinned ∧ s.becomes t ((s.cpi.raise .placeRetired).count .storeRetries) [.lsc, .spm]) ∧
      (s.lsc.retryLimit ≤ j.retries → ∃ t, exec (.flashOperationComplete result) s = .next t ∧
        t.lsc = ({ retired with
          lessons := removed, queue := [{ j with pin := none, stage := .ending .storeMedia }] } : Lsc).startsWrite .job ∧
        t.spm = unpinned ∧ s.becomes t (s.cpi.raise .placeRetired) [.lsc, .spm])) ∧
    (failed → s.lsc.catSeq = 0xFFFFFFFF →
      let noted := s.cpi.raise .placeRetired
      let counted := if j.retries < s.lsc.retryLimit then noted.count .storeRetries else noted
      ∃ t, exec (.flashOperationComplete result) s = .next t ∧
        t.lsc = { retired.rests with lessons := removed, mode := .readOnly, queue := [] } ∧ t.spm = unpinned ∧
        s.becomes t ((counted.raise .storeReadOnly).given j.port
          { marker := j.marker, kind := 34, ending := .failed, reason := .storeMedia, lesson := some l, serial := some q,
            frame := s.siu.frameNumber }) [.lsc, .spm]) ∧
    (∀ w, s.lsc.activity = .writing w → w.owner = .job → w.attempt = 4 → result = .fail → j.stage = .record →
      ∃ t, exec (.flashOperationComplete result) s = .next t ∧
        t.lsc = { s.lsc.rests with mode := .readOnly, lessons := removed, due := true, queue := [] } ∧ t.spm = unpinned ∧
        s.becomes t ((s.cpi.raise .storeReadOnly).given j.port
          { marker := j.marker, kind := 34, ending := .failed, reason := .storeMedia, lesson := some l, serial := some q,
            frame := s.siu.frameNumber }) [.lsc, .spm]))

/-- A RECALL or EXPORT run, here at its acceptance into an empty queue, takes the lowest-numbered FREE slot when at least two are
FREE and begins its load, and waits otherwise. The slot's content names the lesson that holds the page (04 R49), its picture is
empty at first (log 44). Its reads fill the slot's picture and go on after a failed one (log 18). A sound page of a RECALL becomes
the PAGE slot and is shown; of an EXPORT it is handed to the feed link controller, and ends as FEED_LOST at once where the feed
takes no export frames. An unsound page frees the slot and becomes DAMAGED; in READ_ONLY mode the job fails at once, in READY mode
after a catalogue write, or at once with STORE_MEDIA where that write has no sequence number (08 R131; 09 R145; 04 R59, R60; 05
R85; 07 R118; 08 R129; log 47 on the lesson of the record). -/
def Obligations.LoadsGo : Prop :=
  (∀ (h : CmdHeader) (l p : Byte) (s : State) (r : PageRecord), s.takes h.port → s.lsc.mode ≠ .starting → s.lsc.queue = [] →
    s.lsc.activity = .idle → l.toNat < 32 →
    (s.lsc.lessons.getD l.toNat Config.emptyLesson).pages[p.toNat]? = some r → r.state ≠ .writing →
    (recordsOf s.lsc.lessons).find? (·.serial == r.serial) = some r → holdsPage s.lsc.lessons l.toNat r.serial →
    let loading := fun q : Half =>
      ({ holders := { noHolders with load := true }, content := .storedPage l.toNat q, picture := .stored [] } : Slot)
    let begins := fun (c : Instr) (kind : Byte) (task : JobTask) =>
      let job := fun state : JobState =>
        ({ task := task, port := h.port, marker := h.marker, state := state, withdrawn := false, serial := some r.serial,
           pin := none, stage := .notBegun, retries := 0 } : Job)
      (∀ n, 2 ≤ s.spm.freeCount → n < s.spm.slots.length → (s.spm.slot n).holders = noHolders →
        (∀ m < n, (s.spm.slot m).holders ≠ noHolders) → ∃ t, exec c s = .next t ∧
          t.lsc = { s.lsc with
            queue := [job .running], flash := some (.read (64 + 32 * r.place) 0),
            activity := .loading n { page := 0, crc := 0xFFFFFFFF, sound := true } } ∧
          t.spm = { s.spm with slots := s.spm.slots.set n (loading r.serial) } ∧
          s.answers t s.cpi kind h (accepted false .nothing) [.lsc, .spm]) ∧
      (s.spm.freeCount < 2 → ∃ t, exec c s = .next t ∧ t.lsc = { s.lsc with queue := [job .waitSlot] } ∧
        s.answers t s.cpi kind h (accepted false .nothing) [.lsc])
    (s.cpi.allows h.port l.toNat .toShow = true → begins (.recall h [l, p]) 35 (.recall l.toNat p.toNat)) ∧
    (s.cpi.allows h.port l.toNat .toExport = true →
      (∀ (k : Nat) (x : LessonRecord), s.lsc.lessons[k]? = some x → (k = l.toNat ∨ ∃ y ∈ x.pages, y.serial = r.serial) →
        x.lock = false) →
      s.flc.agreement = .feedUp → s.flc.result.map (·.exporting) = some true →
      begins (.exportPage h [l, p]) 36 (.exportPage l.toNat p.toNat))) ∧
  (∀ (s : State) (op : FlashOp) (j : Job) (n l p k : Nat) (q : Half) (r : PageRecord) (d : PageCheck) (result : FlashResult),
    s.powered = true → s.lsc.flash = some op → s.lsc.queue = [j] → j.serial = some q → s.lsc.activity = .loading n d →
    (recordsOf s.lsc.lessons).find? (·.serial == q) = some r → holdsPage s.lsc.lessons k q →
    let page := fun old : Picture => match old, result with
      | .stored bytes, .pass x => if d.page = 0 then Picture.stored bytes else .stored (bytes ++ x)
      | _, _ => old
    let drawn : Spm := { s.spm with slots := s.spm.slots.modify n fun y => { y with picture := page y.picture } }
    let sound := d.sound = true ∧ ∃ x, result = .pass x ∧ r.crc = some (~~~ (crcRun d.crc x))
    let record := fun (kind : Byte) (e : Ending) (reason : Reason) =>
      ({ marker := j.marker, kind := kind, ending := e, reason := reason, lesson := some l, serial := some q,
         frame := s.siu.frameNumber } : Completion)
    let damaged := changeRecord s.lsc.lessons q fun y => { y with state := .damaged }
    (d.page < 2025 → ∃ t e, exec (.flashOperationComplete result) s = .next t ∧ t.spm = drawn ∧
      t.lsc = { s.lsc with
        flash := some (.read (64 + 32 * r.place + (d.page + 1) / 64) ((d.page + 1) % 64)), activity := .loading n e } ∧
      e.page = d.page + 1 ∧ (result = .fail → e.sound = false) ∧
      (∀ x, result = .pass x → e.crc = (if d.page = 0 then d.crc else crcRun d.crc x) ∧
        e.sound = (d.sound && (decide (d.page ≠ 0) || headerAgrees x q))) ∧
      s.becomes t s.cpi [.lsc, .spm]) ∧
    (d.page = 2025 → j.task = .recall l p → sound → ∃ t, exec (.flashOperationComplete result) s = .next t ∧
      t.lsc = { s.lsc.rests with queue := [] } ∧ t.spm = drawn.succeed n .load .page ∧
      t.vwc = { s.vwc with page := some { slot := n, lesson := k, serial := q }, gen := s.vwc.gen + 1 } ∧
      s.becomes t ((s.cpi.raise .viewChanged).given j.port
        (record 35 (if j.withdrawn then .doneDespiteWithdraw else .done) .noReason)) [.lsc, .spm, .vwc]) ∧
    (d.page = 2025 → j.task = .exportPage l p → sound → s.flc.agreement = .feedUp →
      s.flc.result.map (·.exporting) = some true → ∃ t, exec (.flashOperationComplete result) s = .next t ∧
      t.lsc = s.lsc.rests ∧ t.spm = drawn.replace n .load .exported ∧
      t.flc = { s.flc with exportFrame := some { slot := n, port := j.port, marker := j.marker, lesson := k, serial := q } } ∧
      s.becomes t s.cpi [.lsc, .spm, .flc]) ∧
    (d.page = 2025 → j.task = .exportPage l p → sound →
      (s.flc.agreement ≠ .feedUp ∨ s.flc.result.map (·.exporting) ≠ some true) →
      ∃ t, exec (.flashOperationComplete result) s = .next t ∧ t.lsc = { s.lsc.rests with queue := [] } ∧
      t.spm = (drawn.replace n .load .exported).removeKind .exported ∧
      s.becomes t (s.cpi.given j.port (record 36 .failed .feedLost)) [.lsc, .spm]) ∧
    (∀ kind, d.page = 2025 → ((j.task = .recall l p ∧ kind = 35) ∨ (j.task = .exportPage l p ∧ kind = 36)) → ¬ sound →
      s.lsc.mode = .readOnly → ∃ t, exec (.flashOperationComplete result) s = .next t ∧
        t.lsc = { s.lsc.rests with lessons := damaged, due := true, queue := [] } ∧ t.spm = drawn.remove n .load ∧
        s.becomes t (s.cpi.given j.port (record kind .failed .pageDamaged)) [.lsc, .spm]) ∧
    (d.page = 2025 → (j.task = .recall l p ∨ j.task = .exportPage l p) → ¬ sound → s.lsc.mode = .ready →
      s.lsc.catSeq ≠ 0xFFFFFFFF → ∃ t, exec (.flashOperationComplete result) s = .next t ∧
        t.lsc = ({ s.lsc.rests with lessons := damaged, due := true } : Lsc).startsWrite .job ∧ t.spm = drawn.remove n .load ∧
        s.becomes t s.cpi [.lsc, .spm]) ∧
    (∀ kind, d.page = 2025 → ((j.task = .recall l p ∧ kind = 35) ∨ (j.task = .exportPage l p ∧ kind = 36)) → ¬ sound →
      s.lsc.mode = .ready → s.lsc.catSeq = 0xFFFFFFFF → ∃ t, exec (.flashOperationComplete result) s = .next t ∧
        t.lsc = { s.lsc.rests with lessons := damaged, due := true, mode := .readOnly, queue := [] } ∧
        t.spm = drawn.remove n .load ∧
        s.becomes t ((s.cpi.raise .storeReadOnly).given j.port (record kind .failed .storeMedia)) [.lsc, .spm]))

/-- The recovery reads the catalogue area block by block and keeps the valid image with the highest sequence, of equal ones the
first found. At its end it adopts that image or finds the store blank, and hands the saved settings to their blocks; the window is
worked out anew, the raster starts, the first base offer goes. Without a WRITING record the store is READY; with one these records
go and a write follows, which without a further sequence number makes no attempt and leaves the store READ_ONLY (08 R131; 08 R125,
R133, R134; 05 R72; 06 R87; 07 R103, R120; 10 R159; log 19, log 23, log 30, log 48, log 50, log 58). A written image, with its parts in
the manual's order, lies in its block's 64 pages, and the pages hold it: what is read back is the image that was written (08 R130,
R133; log 7 on its bytes, log 31 on its ranges). -/
def Obligations.RecoveryAndHandOver : Prop :=
  (∀ (i : CatalogueImage) (fill : List Byte), i.inRange = true →
    let parts := Config.catalogue.parts
    let covered := parts.mark ++ parts.lengthField i.bytes.length ++ parts.sequenceField i.sequence ++
      parts.lessonTable i.lessons ++ parts.retiredList i.retired ++ parts.serialField i.nextSerial ++ parts.settings i.saved
    i.bytes = covered ++ parts.crcField (crc32 covered) ∧ i.bytes.length = covered.length + 4 ∧ i.bytes.length ≤ 131072 ∧
    imageLength (i.bytes ++ fill) = i.bytes.length ∧ validImage (i.bytes ++ fill) = some i) ∧
  (∀ (s : State) (op : FlashOp) (v : RecoveryRead) (result : FlashResult), s.powered = true → s.lsc.flash = some op →
    s.lsc.activity = .recovering v →
    let reads := fun next : RecoveryRead => ∃ t, exec (.flashOperationComplete result) s = .next t ∧
      t.lsc = { s.lsc with flash := some (.read next.block next.page), activity := .recovering next } ∧ s.becomes t s.cpi [.lsc]
    let bytes := fun x : List Byte => if v.page = 0 then x else v.bytes ++ x
    let whole := fun x : List Byte => max 1 ((imageLength (bytes x) + 2047) / 2048) ≤ v.page + 1
    let startsOk := fun x : List Byte => v.page ≠ 0 ∨ (Config.catalogue.parts.mark <+: x ∧ imageLength x ≤ 131072)
    let better := fun found : Option CatalogueImage => match v.best, found with
      | none, some i => some (v.block, i)
      | some (n, b), some i => if b.sequence < i.sequence then some (v.block, i) else some (n, b)
      | best, none => best
    let best? := fun best : Option (Nat × CatalogueImage) =>
      (result = .fail ∧ best = v.best) ∨ (∃ x, result = .pass x ∧ ¬ startsOk x ∧ best = v.best) ∨
      (∃ x, result = .pass x ∧ startsOk x ∧ whole x ∧ best = better (validImage (bytes x)))
    let hands := fun (t : State) (k : SavedSettings) (notes : List Note) =>
      t.tcl = { s.tcl with table := k.classifier } ∧ t.tsu = { s.tsu with threshold := k.edge } ∧
      t.peu = { s.peu with profiles := k.profiles } ∧
      t.vwc = { s.vwc with glide := k.glide, window := windowOf k.mode s.vwc.layout s.vwc.zc s.vwc.tx s.vwc.ty } ∧
      t.dou = { s.dou with
        mode := k.mode, pendingMode := k.mode, raster := .restarting, stale := s.pending.count .outputFrameStart } ∧
      t.flc = { s.flc with
        pages := t.flc.pages,
        marks := k.marks, started := true, agreement := .offering, partner := none, pageTimer := s.pageTimerAnew, result := none,
        latched := notes, unsent := notes.flatMap Note.pages, lastPage := none, bridgeToggle := false, expectRate := false,
        rateLimit := none, cropAgreed := false, exportAgreed := false } ∧
      s.givesPages t [.base { formats := 0xFF, nextPage := !notes.isEmpty, ack := false, fault := .noFault, restart := false }]
    let port := fun (p : PortState) (e : Quad) => { p with enables := e, flags := p.flags &&& e }
    let handed := fun k : SavedSettings =>
      { s.cpi with
        reachRoom := k.reachRoom, reachTether := k.reachTether, panel := port s.cpi.panel k.enablesPanel,
        room := port s.cpi.room k.enablesRoom, tether := port s.cpi.tether k.enablesTether }
    let all := [Block.tcl, .tsu, .peu, .vwc, .dou, .flc, .lsc]
    (∀ x, result = .pass x → startsOk x → ¬ whole x → reads { v with page := v.page + 1, bytes := bytes x }) ∧
    (∀ best, best? best → v.block < 63 → reads { block := v.block + 1, page := 0, bytes := [], best := best }) ∧
    (best? none → 63 ≤ v.block → ∃ t, exec (.flashOperationComplete result) s = .next t ∧
      t.lsc = { s.lsc.rests with
        mode := .ready, lessons := List.replicate 32 Config.emptyLesson, retired := [], nextSerial := 0,
        saved := Config.factorySettings, catSeq := 0, lastBlock := 63, due := false } ∧
      hands t Config.factorySettings s.flc.notes ∧
      s.becomes t (((handed Config.factorySettings).raise .storeBlank).raise .storeReady) all) ∧
    (∀ n i, best? (some (n, i)) → 63 ≤ v.block →
      let adopted : Lsc := { s.lsc.rests with
        lessons := i.lessons, retired := i.retired, nextSerial := i.nextSerial, saved := i.saved, catSeq := i.sequence,
        lastBlock := n, due := false }
      ((∀ r ∈ recordsOf i.lessons, r.state ≠ .writing) → ∃ t, exec (.flashOperationComplete result) s = .next t ∧
        t.lsc = { adopted with mode := .ready } ∧ hands t i.saved s.flc.notes ∧
        s.becomes t ((handed i.saved).raise .storeReady) all) ∧
      let dropped : Lsc := { adopted with
        lessons := i.lessons.map fun y => { y with pages := y.pages.filter fun z => z.state != .writing }, due := true }
      let noted := (handed i.saved).raise .pageDroppedAtStart
      ((∃ r ∈ recordsOf i.lessons, r.state = .writing) → i.sequence ≠ 0xFFFFFFFF →
        ∃ t, exec (.flashOperationComplete result) s = .next t ∧ t.lsc = dropped.startsWrite .recovery ∧
          hands t i.saved s.flc.notes ∧ s.becomes t noted all) ∧
      ((∃ r ∈ recordsOf i.lessons, r.state = .writing) → i.sequence = 0xFFFFFFFF →
        ∃ t, exec (.flashOperationComplete result) s = .next t ∧ t.lsc = { dropped with mode := .readOnly } ∧
          hands t i.saved s.flc.notes ∧ s.becomes t (noted.raise .storeReadOnly) all)))

/-! ### The whole part (00, 10) -/

/-- START_UP leaves the start-up state and POWER_LOSS a part without power, without a flash operation and with start-up values, both
with the queue of waiting arrivals as it was (the model's choices, log 2). At START_UP and RESTART the picture data of the slots is
not cleared (04 R63); that POWER_LOSS keeps it as well is the model's (log 43). RESTART is taken from the Panel port alone and
refused BUSY while STARTING; it restarts every block, keeps the settings, the lesson table, the places and the store mode, removes
the WRITING record of a STORE it abandons, and makes a catalogue write in READY mode where the due flag is set; without a further
sequence number the store becomes READ_ONLY instead (08 R131; 01 R2, R15; 02 R19; 03 R34; 04 R63; 05 R67; 06 R91; 07 R120; 08 R135;
09 R151; 10 R156, R161). At RESTART no slot-freed notice is left (log 28), the SIU's line count is 0 (log 60), the line store is
empty (log 46), the frame copy of the edge threshold is kept (log 21), waiting output frame starts are the old raster's (log 50),
waiting expiries of the page timer are from before (log 58), the base offer takes its turn on the tether link (log 23), and the
restart's clearing of flags does not take a STORE_READ_ONLY that its own write raises (log 59). -/
def Obligations.WholePart : Prop :=
  (∀ s : State,
    let started : State := { State.reset with
      pending := s.pending,
      spm := { slots := s.spm.slots.map fun x => { x with holders := noHolders, content := .nothing }, notices := 0 } }
    exec .startUp s = .next started ∧
    exec .powerLoss s = .next { started with powered := false, lsc := { started.lsc with flash := none, activity := .idle } }) ∧
  (∀ (h : CmdHeader) (s : State), s.takes h.port → h.port ≠ .panel →
    ∃ t, exec (.restart h []) s = .next t ∧ s.refuses t 59 h .notPanel) ∧
  (∀ (h : CmdHeader) (s : State), s.takes h.port → h.port = .panel → s.lsc.mode = .starting →
    ∃ t, exec (.restart h []) s = .next t ∧ s.refuses t 59 h .busy) ∧
  (∀ (h : CmdHeader) (s : State), s.takes h.port → h.port = .panel → s.lsc.mode ≠ .starting →
    let port := fun p : PortState =>
      ({ owed := none, busy := none, completions := [], overflow := false, enables := p.enables, flags := 0 } : PortState)
    let cpi := { s.cpi with
      panel := port s.cpi.panel, room := port s.cpi.room, tether := port s.cpi.tether, roomTx := none, tetherTx := none,
      roomRx := .hunting }
    let emptied : Lsc := { s.lsc with queue := [], activity := .idle, flash := none }
    let abandoned := fun q : Half => ∃ j r l c, s.lsc.queue.head? = some j ∧ j.task = .store l c ∧ j.serial = some q ∧
      (recordsOf s.lsc.lessons).find? (·.serial == q) = some r ∧ r.state = .writing
    let restarts := fun (lsc : Lsc) (c : Cpi) => ∃ t, exec (.restart h []) s = .next t ∧ t.lsc = lsc ∧
      t.siu = { intake := .waiting, frameNumber := 0, timer := none, lines := 0 } ∧
      t.tsu = { s.tsu with building := none, settled := none } ∧
      t.tcl = { s.tcl with copy := none, count := 0, box := none, boxQuorum := none } ∧
      t.peu = { s.peu with copy := none, source := none, lineStore := [] } ∧
      t.spm = { slots := s.spm.slots.map fun x => { x with holders := noHolders, content := .nothing }, notices := 0 } ∧
      t.vwc = { zt := 256, zc := 256, glide := s.vwc.glide, tx := 1920, ty := 1440, freeze := none, layout := .single, page := none,
                gen := 0, watch := none, window := windowOf s.dou.pendingMode .single 256 1920 1440 } ∧
      t.dou = { mode := s.dou.pendingMode, pendingMode := s.dou.pendingMode, raster := .restarting, blank := false, left := none,
                right := none, stale := s.pending.count .outputFrameStart } ∧
      t.flc = { agreement := .offering, started := true, restartCount := 0, partner := none, result := none, notes := s.flc.notes,
                latched := s.flc.notes, unsent := s.flc.notes.flatMap Note.pages, lastPage := none, pages := t.flc.pages,
                bridgeToggle := false, expectRate := false, rateLimit := none, cropAgreed := false, exportAgreed := false, pageTimer := s.pageTimerAnew,
                intervalTimer := none, allowanceTimer := none, due := false, hold := none, marks := s.flc.marks, buffer := [],
                frame := none, exportFrame := none, lastFed := 0 } ∧
      t.servedPages none s.cpi.lastSide
        [.base { formats := 0xFF, nextPage := !s.flc.notes.isEmpty, ack := false, fault := .noFault, restart := false }] ∧
      s.answers t c 59 h (done false) [.siu, .tsu, .tcl, .peu, .spm, .vwc, .dou, .flc, .lsc]
    let written := fun lsc : Lsc =>
      ((lsc.due = false ∨ lsc.mode ≠ .ready) → restarts lsc cpi) ∧
      (lsc.due = true → lsc.mode = .ready → lsc.catSeq ≠ 0xFFFFFFFF → restarts (lsc.startsWrite .afterRestart) cpi) ∧
      (lsc.due = true → lsc.mode = .ready → lsc.catSeq = 0xFFFFFFFF →
        restarts { lsc with mode := .readOnly } (cpi.raise .storeReadOnly))
    ((∀ q, ¬ abandoned q) → written emptied) ∧
    (∀ q, abandoned q → written { emptied with
      due := true, lessons := s.lsc.lessons.map fun y => { y with pages := y.pages.filter fun z => z.serial != q } }))
end

