-- ==== Sys2Proof/Laws/State.lean ====
section
/-! SUPPORT. What each field of the state is after each update: one lemma per field per update. -/

namespace Sys2Proof.Machine

variable (s : State)

/-! `withSiu` -/
@[simp] theorem State.withSiu_siu (x : Siu) : (s.withSiu x).siu = x := rfl
@[simp] theorem State.withSiu_tsu (x : Siu) : (s.withSiu x).tsu = s.tsu := rfl
@[simp] theorem State.withSiu_tcl (x : Siu) : (s.withSiu x).tcl = s.tcl := rfl
@[simp] theorem State.withSiu_peu (x : Siu) : (s.withSiu x).peu = s.peu := rfl
@[simp] theorem State.withSiu_spm (x : Siu) : (s.withSiu x).spm = s.spm := rfl
@[simp] theorem State.withSiu_vwc (x : Siu) : (s.withSiu x).vwc = s.vwc := rfl
@[simp] theorem State.withSiu_dou (x : Siu) : (s.withSiu x).dou = s.dou := rfl
@[simp] theorem State.withSiu_flc (x : Siu) : (s.withSiu x).flc = s.flc := rfl
@[simp] theorem State.withSiu_lsc (x : Siu) : (s.withSiu x).lsc = s.lsc := rfl
@[simp] theorem State.withSiu_cpi (x : Siu) : (s.withSiu x).cpi = s.cpi := rfl
@[simp] theorem State.withSiu_powered (x : Siu) : (s.withSiu x).powered = s.powered := rfl
@[simp] theorem State.withSiu_emitted (x : Siu) : (s.withSiu x).emitted = s.emitted := rfl
@[simp] theorem State.withSiu_freeCount (x : Siu) : (s.withSiu x).freeCount = s.freeCount := rfl
@[simp] theorem State.withSiu_pending (x : Siu) : (s.withSiu x).pending = s.pending := rfl
@[simp] theorem State.withSiu_self : s.withSiu s.siu = s := rfl
@[simp] theorem State.withSiu_withSiu (x y : Siu) : (s.withSiu x).withSiu y = s.withSiu y := rfl

/-! `withTsu` -/
@[simp] theorem State.withTsu_siu (x : Tsu) : (s.withTsu x).siu = s.siu := rfl
@[simp] theorem State.withTsu_tsu (x : Tsu) : (s.withTsu x).tsu = x := rfl
@[simp] theorem State.withTsu_tcl (x : Tsu) : (s.withTsu x).tcl = s.tcl := rfl
@[simp] theorem State.withTsu_peu (x : Tsu) : (s.withTsu x).peu = s.peu := rfl
@[simp] theorem State.withTsu_spm (x : Tsu) : (s.withTsu x).spm = s.spm := rfl
@[simp] theorem State.withTsu_vwc (x : Tsu) : (s.withTsu x).vwc = s.vwc := rfl
@[simp] theorem State.withTsu_dou (x : Tsu) : (s.withTsu x).dou = s.dou := rfl
@[simp] theorem State.withTsu_flc (x : Tsu) : (s.withTsu x).flc = s.flc := rfl
@[simp] theorem State.withTsu_lsc (x : Tsu) : (s.withTsu x).lsc = s.lsc := rfl
@[simp] theorem State.withTsu_cpi (x : Tsu) : (s.withTsu x).cpi = s.cpi := rfl
@[simp] theorem State.withTsu_powered (x : Tsu) : (s.withTsu x).powered = s.powered := rfl
@[simp] theorem State.withTsu_emitted (x : Tsu) : (s.withTsu x).emitted = s.emitted := rfl
@[simp] theorem State.withTsu_freeCount (x : Tsu) : (s.withTsu x).freeCount = s.freeCount := rfl
@[simp] theorem State.withTsu_pending (x : Tsu) : (s.withTsu x).pending = s.pending := rfl
@[simp] theorem State.withTsu_self : s.withTsu s.tsu = s := rfl
@[simp] theorem State.withTsu_withTsu (x y : Tsu) : (s.withTsu x).withTsu y = s.withTsu y := rfl

/-! `withTcl` -/
@[simp] theorem State.withTcl_siu (x : Tcl) : (s.withTcl x).siu = s.siu := rfl
@[simp] theorem State.withTcl_tsu (x : Tcl) : (s.withTcl x).tsu = s.tsu := rfl
@[simp] theorem State.withTcl_tcl (x : Tcl) : (s.withTcl x).tcl = x := rfl
@[simp] theorem State.withTcl_peu (x : Tcl) : (s.withTcl x).peu = s.peu := rfl
@[simp] theorem State.withTcl_spm (x : Tcl) : (s.withTcl x).spm = s.spm := rfl
@[simp] theorem State.withTcl_vwc (x : Tcl) : (s.withTcl x).vwc = s.vwc := rfl
@[simp] theorem State.withTcl_dou (x : Tcl) : (s.withTcl x).dou = s.dou := rfl
@[simp] theorem State.withTcl_flc (x : Tcl) : (s.withTcl x).flc = s.flc := rfl
@[simp] theorem State.withTcl_lsc (x : Tcl) : (s.withTcl x).lsc = s.lsc := rfl
@[simp] theorem State.withTcl_cpi (x : Tcl) : (s.withTcl x).cpi = s.cpi := rfl
@[simp] theorem State.withTcl_powered (x : Tcl) : (s.withTcl x).powered = s.powered := rfl
@[simp] theorem State.withTcl_emitted (x : Tcl) : (s.withTcl x).emitted = s.emitted := rfl
@[simp] theorem State.withTcl_freeCount (x : Tcl) : (s.withTcl x).freeCount = s.freeCount := rfl
@[simp] theorem State.withTcl_pending (x : Tcl) : (s.withTcl x).pending = s.pending := rfl
@[simp] theorem State.withTcl_self : s.withTcl s.tcl = s := rfl
@[simp] theorem State.withTcl_withTcl (x y : Tcl) : (s.withTcl x).withTcl y = s.withTcl y := rfl

/-! `withPeu` -/
@[simp] theorem State.withPeu_siu (x : Peu) : (s.withPeu x).siu = s.siu := rfl
@[simp] theorem State.withPeu_tsu (x : Peu) : (s.withPeu x).tsu = s.tsu := rfl
@[simp] theorem State.withPeu_tcl (x : Peu) : (s.withPeu x).tcl = s.tcl := rfl
@[simp] theorem State.withPeu_peu (x : Peu) : (s.withPeu x).peu = x := rfl
@[simp] theorem State.withPeu_spm (x : Peu) : (s.withPeu x).spm = s.spm := rfl
@[simp] theorem State.withPeu_vwc (x : Peu) : (s.withPeu x).vwc = s.vwc := rfl
@[simp] theorem State.withPeu_dou (x : Peu) : (s.withPeu x).dou = s.dou := rfl
@[simp] theorem State.withPeu_flc (x : Peu) : (s.withPeu x).flc = s.flc := rfl
@[simp] theorem State.withPeu_lsc (x : Peu) : (s.withPeu x).lsc = s.lsc := rfl
@[simp] theorem State.withPeu_cpi (x : Peu) : (s.withPeu x).cpi = s.cpi := rfl
@[simp] theorem State.withPeu_powered (x : Peu) : (s.withPeu x).powered = s.powered := rfl
@[simp] theorem State.withPeu_emitted (x : Peu) : (s.withPeu x).emitted = s.emitted := rfl
@[simp] theorem State.withPeu_freeCount (x : Peu) : (s.withPeu x).freeCount = s.freeCount := rfl
@[simp] theorem State.withPeu_pending (x : Peu) : (s.withPeu x).pending = s.pending := rfl
@[simp] theorem State.withPeu_self : s.withPeu s.peu = s := rfl
@[simp] theorem State.withPeu_withPeu (x y : Peu) : (s.withPeu x).withPeu y = s.withPeu y := rfl

/-! `withSpm` -/
@[simp] theorem State.withSpm_siu (x : Spm) : (s.withSpm x).siu = s.siu := rfl
@[simp] theorem State.withSpm_tsu (x : Spm) : (s.withSpm x).tsu = s.tsu := rfl
@[simp] theorem State.withSpm_tcl (x : Spm) : (s.withSpm x).tcl = s.tcl := rfl
@[simp] theorem State.withSpm_peu (x : Spm) : (s.withSpm x).peu = s.peu := rfl
@[simp] theorem State.withSpm_spm (x : Spm) : (s.withSpm x).spm = x := rfl
@[simp] theorem State.withSpm_vwc (x : Spm) : (s.withSpm x).vwc = s.vwc := rfl
@[simp] theorem State.withSpm_dou (x : Spm) : (s.withSpm x).dou = s.dou := rfl
@[simp] theorem State.withSpm_flc (x : Spm) : (s.withSpm x).flc = s.flc := rfl
@[simp] theorem State.withSpm_lsc (x : Spm) : (s.withSpm x).lsc = s.lsc := rfl
@[simp] theorem State.withSpm_cpi (x : Spm) : (s.withSpm x).cpi = s.cpi := rfl
@[simp] theorem State.withSpm_powered (x : Spm) : (s.withSpm x).powered = s.powered := rfl
@[simp] theorem State.withSpm_emitted (x : Spm) : (s.withSpm x).emitted = s.emitted := rfl
@[simp] theorem State.withSpm_freeCount (x : Spm) : (s.withSpm x).freeCount = s.freeCount := rfl
@[simp] theorem State.withSpm_pending (x : Spm) : (s.withSpm x).pending = s.pending := rfl
@[simp] theorem State.withSpm_self : s.withSpm s.spm = s := rfl
@[simp] theorem State.withSpm_withSpm (x y : Spm) : (s.withSpm x).withSpm y = s.withSpm y := rfl

/-! `withVwc` -/
@[simp] theorem State.withVwc_siu (x : Vwc) : (s.withVwc x).siu = s.siu := rfl
@[simp] theorem State.withVwc_tsu (x : Vwc) : (s.withVwc x).tsu = s.tsu := rfl
@[simp] theorem State.withVwc_tcl (x : Vwc) : (s.withVwc x).tcl = s.tcl := rfl
@[simp] theorem State.withVwc_peu (x : Vwc) : (s.withVwc x).peu = s.peu := rfl
@[simp] theorem State.withVwc_spm (x : Vwc) : (s.withVwc x).spm = s.spm := rfl
@[simp] theorem State.withVwc_vwc (x : Vwc) : (s.withVwc x).vwc = x := rfl
@[simp] theorem State.withVwc_dou (x : Vwc) : (s.withVwc x).dou = s.dou := rfl
@[simp] theorem State.withVwc_flc (x : Vwc) : (s.withVwc x).flc = s.flc := rfl
@[simp] theorem State.withVwc_lsc (x : Vwc) : (s.withVwc x).lsc = s.lsc := rfl
@[simp] theorem State.withVwc_cpi (x : Vwc) : (s.withVwc x).cpi = s.cpi := rfl
@[simp] theorem State.withVwc_powered (x : Vwc) : (s.withVwc x).powered = s.powered := rfl
@[simp] theorem State.withVwc_emitted (x : Vwc) : (s.withVwc x).emitted = s.emitted := rfl
@[simp] theorem State.withVwc_freeCount (x : Vwc) : (s.withVwc x).freeCount = s.freeCount := rfl
@[simp] theorem State.withVwc_pending (x : Vwc) : (s.withVwc x).pending = s.pending := rfl
@[simp] theorem State.withVwc_self : s.withVwc s.vwc = s := rfl
@[simp] theorem State.withVwc_withVwc (x y : Vwc) : (s.withVwc x).withVwc y = s.withVwc y := rfl

/-! `withDou` -/
@[simp] theorem State.withDou_siu (x : Dou) : (s.withDou x).siu = s.siu := rfl
@[simp] theorem State.withDou_tsu (x : Dou) : (s.withDou x).tsu = s.tsu := rfl
@[simp] theorem State.withDou_tcl (x : Dou) : (s.withDou x).tcl = s.tcl := rfl
@[simp] theorem State.withDou_peu (x : Dou) : (s.withDou x).peu = s.peu := rfl
@[simp] theorem State.withDou_spm (x : Dou) : (s.withDou x).spm = s.spm := rfl
@[simp] theorem State.withDou_vwc (x : Dou) : (s.withDou x).vwc = s.vwc := rfl
@[simp] theorem State.withDou_dou (x : Dou) : (s.withDou x).dou = x := rfl
@[simp] theorem State.withDou_flc (x : Dou) : (s.withDou x).flc = s.flc := rfl
@[simp] theorem State.withDou_lsc (x : Dou) : (s.withDou x).lsc = s.lsc := rfl
@[simp] theorem State.withDou_cpi (x : Dou) : (s.withDou x).cpi = s.cpi := rfl
@[simp] theorem State.withDou_powered (x : Dou) : (s.withDou x).powered = s.powered := rfl
@[simp] theorem State.withDou_emitted (x : Dou) : (s.withDou x).emitted = s.emitted := rfl
@[simp] theorem State.withDou_freeCount (x : Dou) : (s.withDou x).freeCount = s.freeCount := rfl
@[simp] theorem State.withDou_pending (x : Dou) : (s.withDou x).pending = s.pending := rfl
@[simp] theorem State.withDou_self : s.withDou s.dou = s := rfl
@[simp] theorem State.withDou_withDou (x y : Dou) : (s.withDou x).withDou y = s.withDou y := rfl

/-! `withFlc` -/
@[simp] theorem State.withFlc_siu (x : Flc) : (s.withFlc x).siu = s.siu := rfl
@[simp] theorem State.withFlc_tsu (x : Flc) : (s.withFlc x).tsu = s.tsu := rfl
@[simp] theorem State.withFlc_tcl (x : Flc) : (s.withFlc x).tcl = s.tcl := rfl
@[simp] theorem State.withFlc_peu (x : Flc) : (s.withFlc x).peu = s.peu := rfl
@[simp] theorem State.withFlc_spm (x : Flc) : (s.withFlc x).spm = s.spm := rfl
@[simp] theorem State.withFlc_vwc (x : Flc) : (s.withFlc x).vwc = s.vwc := rfl
@[simp] theorem State.withFlc_dou (x : Flc) : (s.withFlc x).dou = s.dou := rfl
@[simp] theorem State.withFlc_flc (x : Flc) : (s.withFlc x).flc = x := rfl
@[simp] theorem State.withFlc_lsc (x : Flc) : (s.withFlc x).lsc = s.lsc := rfl
@[simp] theorem State.withFlc_cpi (x : Flc) : (s.withFlc x).cpi = s.cpi := rfl
@[simp] theorem State.withFlc_powered (x : Flc) : (s.withFlc x).powered = s.powered := rfl
@[simp] theorem State.withFlc_emitted (x : Flc) : (s.withFlc x).emitted = s.emitted := rfl
@[simp] theorem State.withFlc_freeCount (x : Flc) : (s.withFlc x).freeCount = s.freeCount := rfl
@[simp] theorem State.withFlc_pending (x : Flc) : (s.withFlc x).pending = s.pending := rfl
@[simp] theorem State.withFlc_self : s.withFlc s.flc = s := rfl
@[simp] theorem State.withFlc_withFlc (x y : Flc) : (s.withFlc x).withFlc y = s.withFlc y := rfl

/-! `withLsc` -/
@[simp] theorem State.withLsc_siu (x : Lsc) : (s.withLsc x).siu = s.siu := rfl
@[simp] theorem State.withLsc_tsu (x : Lsc) : (s.withLsc x).tsu = s.tsu := rfl
@[simp] theorem State.withLsc_tcl (x : Lsc) : (s.withLsc x).tcl = s.tcl := rfl
@[simp] theorem State.withLsc_peu (x : Lsc) : (s.withLsc x).peu = s.peu := rfl
@[simp] theorem State.withLsc_spm (x : Lsc) : (s.withLsc x).spm = s.spm := rfl
@[simp] theorem State.withLsc_vwc (x : Lsc) : (s.withLsc x).vwc = s.vwc := rfl
@[simp] theorem State.withLsc_dou (x : Lsc) : (s.withLsc x).dou = s.dou := rfl
@[simp] theorem State.withLsc_flc (x : Lsc) : (s.withLsc x).flc = s.flc := rfl
@[simp] theorem State.withLsc_lsc (x : Lsc) : (s.withLsc x).lsc = x := rfl
@[simp] theorem State.withLsc_cpi (x : Lsc) : (s.withLsc x).cpi = s.cpi := rfl
@[simp] theorem State.withLsc_powered (x : Lsc) : (s.withLsc x).powered = s.powered := rfl
@[simp] theorem State.withLsc_emitted (x : Lsc) : (s.withLsc x).emitted = s.emitted := rfl
@[simp] theorem State.withLsc_freeCount (x : Lsc) : (s.withLsc x).freeCount = s.freeCount := rfl
@[simp] theorem State.withLsc_pending (x : Lsc) : (s.withLsc x).pending = s.pending := rfl
@[simp] theorem State.withLsc_self : s.withLsc s.lsc = s := rfl
@[simp] theorem State.withLsc_withLsc (x y : Lsc) : (s.withLsc x).withLsc y = s.withLsc y := rfl

/-! `withCpi` -/
@[simp] theorem State.withCpi_siu (x : Cpi) : (s.withCpi x).siu = s.siu := rfl
@[simp] theorem State.withCpi_tsu (x : Cpi) : (s.withCpi x).tsu = s.tsu := rfl
@[simp] theorem State.withCpi_tcl (x : Cpi) : (s.withCpi x).tcl = s.tcl := rfl
@[simp] theorem State.withCpi_peu (x : Cpi) : (s.withCpi x).peu = s.peu := rfl
@[simp] theorem State.withCpi_spm (x : Cpi) : (s.withCpi x).spm = s.spm := rfl
@[simp] theorem State.withCpi_vwc (x : Cpi) : (s.withCpi x).vwc = s.vwc := rfl
@[simp] theorem State.withCpi_dou (x : Cpi) : (s.withCpi x).dou = s.dou := rfl
@[simp] theorem State.withCpi_flc (x : Cpi) : (s.withCpi x).flc = s.flc := rfl
@[simp] theorem State.withCpi_lsc (x : Cpi) : (s.withCpi x).lsc = s.lsc := rfl
@[simp] theorem State.withCpi_cpi (x : Cpi) : (s.withCpi x).cpi = x := rfl
@[simp] theorem State.withCpi_powered (x : Cpi) : (s.withCpi x).powered = s.powered := rfl
@[simp] theorem State.withCpi_emitted (x : Cpi) : (s.withCpi x).emitted = s.emitted := rfl
@[simp] theorem State.withCpi_freeCount (x : Cpi) : (s.withCpi x).freeCount = s.freeCount := rfl
@[simp] theorem State.withCpi_pending (x : Cpi) : (s.withCpi x).pending = s.pending := rfl
@[simp] theorem State.withCpi_self : s.withCpi s.cpi = s := rfl
@[simp] theorem State.withCpi_withCpi (x y : Cpi) : (s.withCpi x).withCpi y = s.withCpi y := rfl

/-! `withPower` -/
@[simp] theorem State.withPower_siu (x : Bool) : (s.withPower x).siu = s.siu := rfl
@[simp] theorem State.withPower_tsu (x : Bool) : (s.withPower x).tsu = s.tsu := rfl
@[simp] theorem State.withPower_tcl (x : Bool) : (s.withPower x).tcl = s.tcl := rfl
@[simp] theorem State.withPower_peu (x : Bool) : (s.withPower x).peu = s.peu := rfl
@[simp] theorem State.withPower_spm (x : Bool) : (s.withPower x).spm = s.spm := rfl
@[simp] theorem State.withPower_vwc (x : Bool) : (s.withPower x).vwc = s.vwc := rfl
@[simp] theorem State.withPower_dou (x : Bool) : (s.withPower x).dou = s.dou := rfl
@[simp] theorem State.withPower_flc (x : Bool) : (s.withPower x).flc = s.flc := rfl
@[simp] theorem State.withPower_lsc (x : Bool) : (s.withPower x).lsc = s.lsc := rfl
@[simp] theorem State.withPower_cpi (x : Bool) : (s.withPower x).cpi = s.cpi := rfl
@[simp] theorem State.withPower_powered (x : Bool) : (s.withPower x).powered = x := rfl
@[simp] theorem State.withPower_emitted (x : Bool) : (s.withPower x).emitted = s.emitted := rfl
@[simp] theorem State.withPower_freeCount (x : Bool) : (s.withPower x).freeCount = s.freeCount := rfl
@[simp] theorem State.withPower_pending (x : Bool) : (s.withPower x).pending = s.pending := rfl
@[simp] theorem State.withPower_self : s.withPower s.powered = s := rfl
@[simp] theorem State.withPower_withPower (x y : Bool) : (s.withPower x).withPower y = s.withPower y := rfl

/-! `withEmitted` -/
@[simp] theorem State.withEmitted_siu (x : List Emission) : (s.withEmitted x).siu = s.siu := rfl
@[simp] theorem State.withEmitted_tsu (x : List Emission) : (s.withEmitted x).tsu = s.tsu := rfl
@[simp] theorem State.withEmitted_tcl (x : List Emission) : (s.withEmitted x).tcl = s.tcl := rfl
@[simp] theorem State.withEmitted_peu (x : List Emission) : (s.withEmitted x).peu = s.peu := rfl
@[simp] theorem State.withEmitted_spm (x : List Emission) : (s.withEmitted x).spm = s.spm := rfl
@[simp] theorem State.withEmitted_vwc (x : List Emission) : (s.withEmitted x).vwc = s.vwc := rfl
@[simp] theorem State.withEmitted_dou (x : List Emission) : (s.withEmitted x).dou = s.dou := rfl
@[simp] theorem State.withEmitted_flc (x : List Emission) : (s.withEmitted x).flc = s.flc := rfl
@[simp] theorem State.withEmitted_lsc (x : List Emission) : (s.withEmitted x).lsc = s.lsc := rfl
@[simp] theorem State.withEmitted_cpi (x : List Emission) : (s.withEmitted x).cpi = s.cpi := rfl
@[simp] theorem State.withEmitted_powered (x : List Emission) : (s.withEmitted x).powered = s.powered := rfl
@[simp] theorem State.withEmitted_emitted (x : List Emission) : (s.withEmitted x).emitted = x := rfl
@[simp] theorem State.withEmitted_freeCount (x : List Emission) : (s.withEmitted x).freeCount = s.freeCount := rfl
@[simp] theorem State.withEmitted_pending (x : List Emission) : (s.withEmitted x).pending = s.pending := rfl
@[simp] theorem State.withEmitted_self : s.withEmitted s.emitted = s := rfl
@[simp] theorem State.withEmitted_withEmitted (x y : List Emission) : (s.withEmitted x).withEmitted y = s.withEmitted y := rfl

/-! `withFreeCount` -/
@[simp] theorem State.withFreeCount_siu (x : Nat) : (s.withFreeCount x).siu = s.siu := rfl
@[simp] theorem State.withFreeCount_tsu (x : Nat) : (s.withFreeCount x).tsu = s.tsu := rfl
@[simp] theorem State.withFreeCount_tcl (x : Nat) : (s.withFreeCount x).tcl = s.tcl := rfl
@[simp] theorem State.withFreeCount_peu (x : Nat) : (s.withFreeCount x).peu = s.peu := rfl
@[simp] theorem State.withFreeCount_spm (x : Nat) : (s.withFreeCount x).spm = s.spm := rfl
@[simp] theorem State.withFreeCount_vwc (x : Nat) : (s.withFreeCount x).vwc = s.vwc := rfl
@[simp] theorem State.withFreeCount_dou (x : Nat) : (s.withFreeCount x).dou = s.dou := rfl
@[simp] theorem State.withFreeCount_flc (x : Nat) : (s.withFreeCount x).flc = s.flc := rfl
@[simp] theorem State.withFreeCount_lsc (x : Nat) : (s.withFreeCount x).lsc = s.lsc := rfl
@[simp] theorem State.withFreeCount_cpi (x : Nat) : (s.withFreeCount x).cpi = s.cpi := rfl
@[simp] theorem State.withFreeCount_powered (x : Nat) : (s.withFreeCount x).powered = s.powered := rfl
@[simp] theorem State.withFreeCount_emitted (x : Nat) : (s.withFreeCount x).emitted = s.emitted := rfl
@[simp] theorem State.withFreeCount_freeCount (x : Nat) : (s.withFreeCount x).freeCount = x := rfl
@[simp] theorem State.withFreeCount_pending (x : Nat) : (s.withFreeCount x).pending = s.pending := rfl
@[simp] theorem State.withFreeCount_self : s.withFreeCount s.freeCount = s := rfl
@[simp] theorem State.withFreeCount_withFreeCount (x y : Nat) : (s.withFreeCount x).withFreeCount y = s.withFreeCount y := rfl

/-! `withPending` -/
@[simp] theorem State.withPending_siu (x : List Instr) : (s.withPending x).siu = s.siu := rfl
@[simp] theorem State.withPending_tsu (x : List Instr) : (s.withPending x).tsu = s.tsu := rfl
@[simp] theorem State.withPending_tcl (x : List Instr) : (s.withPending x).tcl = s.tcl := rfl
@[simp] theorem State.withPending_peu (x : List Instr) : (s.withPending x).peu = s.peu := rfl
@[simp] theorem State.withPending_spm (x : List Instr) : (s.withPending x).spm = s.spm := rfl
@[simp] theorem State.withPending_vwc (x : List Instr) : (s.withPending x).vwc = s.vwc := rfl
@[simp] theorem State.withPending_dou (x : List Instr) : (s.withPending x).dou = s.dou := rfl
@[simp] theorem State.withPending_flc (x : List Instr) : (s.withPending x).flc = s.flc := rfl
@[simp] theorem State.withPending_lsc (x : List Instr) : (s.withPending x).lsc = s.lsc := rfl
@[simp] theorem State.withPending_cpi (x : List Instr) : (s.withPending x).cpi = s.cpi := rfl
@[simp] theorem State.withPending_powered (x : List Instr) : (s.withPending x).powered = s.powered := rfl
@[simp] theorem State.withPending_emitted (x : List Instr) : (s.withPending x).emitted = s.emitted := rfl
@[simp] theorem State.withPending_freeCount (x : List Instr) : (s.withPending x).freeCount = s.freeCount := rfl
@[simp] theorem State.withPending_pending (x : List Instr) : (s.withPending x).pending = x := rfl
@[simp] theorem State.withPending_self : s.withPending s.pending = s := rfl
@[simp] theorem State.withPending_withPending (x y : List Instr) : (s.withPending x).withPending y = s.withPending y := rfl

end Sys2Proof.Machine
end

