-- ==== Sys2Proof/Laws/Frames.lean ====
section
/-! SUPPORT. Which blocks each shared operation leaves alone: one lemma per operation and block it does not change. -/

namespace Sys2Proof.Machine

variable (s : State)

/-! `emit` -/
@[simp] theorem State.emit_siu (e : Emission) : (s.emit e).siu = s.siu := rfl
@[simp] theorem State.emit_tsu (e : Emission) : (s.emit e).tsu = s.tsu := rfl
@[simp] theorem State.emit_tcl (e : Emission) : (s.emit e).tcl = s.tcl := rfl
@[simp] theorem State.emit_peu (e : Emission) : (s.emit e).peu = s.peu := rfl
@[simp] theorem State.emit_spm (e : Emission) : (s.emit e).spm = s.spm := rfl
@[simp] theorem State.emit_vwc (e : Emission) : (s.emit e).vwc = s.vwc := rfl
@[simp] theorem State.emit_dou (e : Emission) : (s.emit e).dou = s.dou := rfl
@[simp] theorem State.emit_flc (e : Emission) : (s.emit e).flc = s.flc := rfl
@[simp] theorem State.emit_lsc (e : Emission) : (s.emit e).lsc = s.lsc := rfl
@[simp] theorem State.emit_cpi (e : Emission) : (s.emit e).cpi = s.cpi := rfl
@[simp] theorem State.emit_powered (e : Emission) : (s.emit e).powered = s.powered := rfl
@[simp] theorem State.emit_freeCount (e : Emission) : (s.emit e).freeCount = s.freeCount := rfl
@[simp] theorem State.emit_pending (e : Emission) : (s.emit e).pending = s.pending := rfl

/-! `sendPacket` -/
@[simp] theorem State.sendPacket_siu (e : FeedPacket) : (s.sendPacket e).siu = s.siu := rfl
@[simp] theorem State.sendPacket_tsu (e : FeedPacket) : (s.sendPacket e).tsu = s.tsu := rfl
@[simp] theorem State.sendPacket_tcl (e : FeedPacket) : (s.sendPacket e).tcl = s.tcl := rfl
@[simp] theorem State.sendPacket_peu (e : FeedPacket) : (s.sendPacket e).peu = s.peu := rfl
@[simp] theorem State.sendPacket_spm (e : FeedPacket) : (s.sendPacket e).spm = s.spm := rfl
@[simp] theorem State.sendPacket_vwc (e : FeedPacket) : (s.sendPacket e).vwc = s.vwc := rfl
@[simp] theorem State.sendPacket_dou (e : FeedPacket) : (s.sendPacket e).dou = s.dou := rfl
@[simp] theorem State.sendPacket_flc (e : FeedPacket) : (s.sendPacket e).flc = s.flc := rfl
@[simp] theorem State.sendPacket_lsc (e : FeedPacket) : (s.sendPacket e).lsc = s.lsc := rfl
@[simp] theorem State.sendPacket_powered (e : FeedPacket) : (s.sendPacket e).powered = s.powered := rfl
@[simp] theorem State.sendPacket_freeCount (e : FeedPacket) : (s.sendPacket e).freeCount = s.freeCount := rfl
@[simp] theorem State.sendPacket_pending (e : FeedPacket) : (s.sendPacket e).pending = s.pending := rfl

/-! `raise` -/
@[simp] theorem State.raise_siu (e : Event) : (s.raise e).siu = s.siu := rfl
@[simp] theorem State.raise_tsu (e : Event) : (s.raise e).tsu = s.tsu := rfl
@[simp] theorem State.raise_tcl (e : Event) : (s.raise e).tcl = s.tcl := rfl
@[simp] theorem State.raise_peu (e : Event) : (s.raise e).peu = s.peu := rfl
@[simp] theorem State.raise_spm (e : Event) : (s.raise e).spm = s.spm := rfl
@[simp] theorem State.raise_vwc (e : Event) : (s.raise e).vwc = s.vwc := rfl
@[simp] theorem State.raise_dou (e : Event) : (s.raise e).dou = s.dou := rfl
@[simp] theorem State.raise_flc (e : Event) : (s.raise e).flc = s.flc := rfl
@[simp] theorem State.raise_lsc (e : Event) : (s.raise e).lsc = s.lsc := rfl
@[simp] theorem State.raise_powered (e : Event) : (s.raise e).powered = s.powered := rfl
@[simp] theorem State.raise_emitted (e : Event) : (s.raise e).emitted = s.emitted := rfl
@[simp] theorem State.raise_freeCount (e : Event) : (s.raise e).freeCount = s.freeCount := rfl
@[simp] theorem State.raise_pending (e : Event) : (s.raise e).pending = s.pending := rfl

/-! `count` -/
@[simp] theorem State.count_siu (k : Counter) : (s.count k).siu = s.siu := rfl
@[simp] theorem State.count_tsu (k : Counter) : (s.count k).tsu = s.tsu := rfl
@[simp] theorem State.count_tcl (k : Counter) : (s.count k).tcl = s.tcl := rfl
@[simp] theorem State.count_peu (k : Counter) : (s.count k).peu = s.peu := rfl
@[simp] theorem State.count_spm (k : Counter) : (s.count k).spm = s.spm := rfl
@[simp] theorem State.count_vwc (k : Counter) : (s.count k).vwc = s.vwc := rfl
@[simp] theorem State.count_dou (k : Counter) : (s.count k).dou = s.dou := rfl
@[simp] theorem State.count_flc (k : Counter) : (s.count k).flc = s.flc := rfl
@[simp] theorem State.count_lsc (k : Counter) : (s.count k).lsc = s.lsc := rfl
@[simp] theorem State.count_powered (k : Counter) : (s.count k).powered = s.powered := rfl
@[simp] theorem State.count_emitted (k : Counter) : (s.count k).emitted = s.emitted := rfl
@[simp] theorem State.count_freeCount (k : Counter) : (s.count k).freeCount = s.freeCount := rfl
@[simp] theorem State.count_pending (k : Counter) : (s.count k).pending = s.pending := rfl

/-! `give` -/
@[simp] theorem State.give_siu (p : Port) (r : Completion) : (s.give p r).siu = s.siu := rfl
@[simp] theorem State.give_tsu (p : Port) (r : Completion) : (s.give p r).tsu = s.tsu := rfl
@[simp] theorem State.give_tcl (p : Port) (r : Completion) : (s.give p r).tcl = s.tcl := rfl
@[simp] theorem State.give_peu (p : Port) (r : Completion) : (s.give p r).peu = s.peu := rfl
@[simp] theorem State.give_spm (p : Port) (r : Completion) : (s.give p r).spm = s.spm := rfl
@[simp] theorem State.give_vwc (p : Port) (r : Completion) : (s.give p r).vwc = s.vwc := rfl
@[simp] theorem State.give_dou (p : Port) (r : Completion) : (s.give p r).dou = s.dou := rfl
@[simp] theorem State.give_flc (p : Port) (r : Completion) : (s.give p r).flc = s.flc := rfl
@[simp] theorem State.give_lsc (p : Port) (r : Completion) : (s.give p r).lsc = s.lsc := rfl
@[simp] theorem State.give_powered (p : Port) (r : Completion) : (s.give p r).powered = s.powered := rfl
@[simp] theorem State.give_emitted (p : Port) (r : Completion) : (s.give p r).emitted = s.emitted := rfl
@[simp] theorem State.give_freeCount (p : Port) (r : Completion) : (s.give p r).freeCount = s.freeCount := rfl
@[simp] theorem State.give_pending (p : Port) (r : Completion) : (s.give p r).pending = s.pending := rfl

/-! `owe` -/
@[simp] theorem State.owe_siu (p : Port) (r : Reply) : (s.owe p r).siu = s.siu := rfl
@[simp] theorem State.owe_tsu (p : Port) (r : Reply) : (s.owe p r).tsu = s.tsu := rfl
@[simp] theorem State.owe_tcl (p : Port) (r : Reply) : (s.owe p r).tcl = s.tcl := rfl
@[simp] theorem State.owe_peu (p : Port) (r : Reply) : (s.owe p r).peu = s.peu := rfl
@[simp] theorem State.owe_spm (p : Port) (r : Reply) : (s.owe p r).spm = s.spm := rfl
@[simp] theorem State.owe_vwc (p : Port) (r : Reply) : (s.owe p r).vwc = s.vwc := rfl
@[simp] theorem State.owe_dou (p : Port) (r : Reply) : (s.owe p r).dou = s.dou := rfl
@[simp] theorem State.owe_flc (p : Port) (r : Reply) : (s.owe p r).flc = s.flc := rfl
@[simp] theorem State.owe_lsc (p : Port) (r : Reply) : (s.owe p r).lsc = s.lsc := rfl
@[simp] theorem State.owe_powered (p : Port) (r : Reply) : (s.owe p r).powered = s.powered := rfl
@[simp] theorem State.owe_emitted (p : Port) (r : Reply) : (s.owe p r).emitted = s.emitted := rfl
@[simp] theorem State.owe_freeCount (p : Port) (r : Reply) : (s.owe p r).freeCount = s.freeCount := rfl
@[simp] theorem State.owe_pending (p : Port) (r : Reply) : (s.owe p r).pending = s.pending := rfl

/-! `refuseBusy` -/
@[simp] theorem State.refuseBusy_siu (p : Port) (r : Reply) : (s.refuseBusy p r).siu = s.siu := rfl
@[simp] theorem State.refuseBusy_tsu (p : Port) (r : Reply) : (s.refuseBusy p r).tsu = s.tsu := rfl
@[simp] theorem State.refuseBusy_tcl (p : Port) (r : Reply) : (s.refuseBusy p r).tcl = s.tcl := rfl
@[simp] theorem State.refuseBusy_peu (p : Port) (r : Reply) : (s.refuseBusy p r).peu = s.peu := rfl
@[simp] theorem State.refuseBusy_spm (p : Port) (r : Reply) : (s.refuseBusy p r).spm = s.spm := rfl
@[simp] theorem State.refuseBusy_vwc (p : Port) (r : Reply) : (s.refuseBusy p r).vwc = s.vwc := rfl
@[simp] theorem State.refuseBusy_dou (p : Port) (r : Reply) : (s.refuseBusy p r).dou = s.dou := rfl
@[simp] theorem State.refuseBusy_flc (p : Port) (r : Reply) : (s.refuseBusy p r).flc = s.flc := rfl
@[simp] theorem State.refuseBusy_lsc (p : Port) (r : Reply) : (s.refuseBusy p r).lsc = s.lsc := rfl
@[simp] theorem State.refuseBusy_powered (p : Port) (r : Reply) : (s.refuseBusy p r).powered = s.powered := rfl
@[simp] theorem State.refuseBusy_emitted (p : Port) (r : Reply) : (s.refuseBusy p r).emitted = s.emitted := rfl
@[simp] theorem State.refuseBusy_freeCount (p : Port) (r : Reply) : (s.refuseBusy p r).freeCount = s.freeCount := rfl
@[simp] theorem State.refuseBusy_pending (p : Port) (r : Reply) : (s.refuseBusy p r).pending = s.pending := rfl

/-! `startRoom` -/
@[simp] theorem State.startRoom_siu : (s.startRoom).siu = s.siu := by unfold State.startRoom; split <;> rfl
@[simp] theorem State.startRoom_tsu : (s.startRoom).tsu = s.tsu := by unfold State.startRoom; split <;> rfl
@[simp] theorem State.startRoom_tcl : (s.startRoom).tcl = s.tcl := by unfold State.startRoom; split <;> rfl
@[simp] theorem State.startRoom_peu : (s.startRoom).peu = s.peu := by unfold State.startRoom; split <;> rfl
@[simp] theorem State.startRoom_spm : (s.startRoom).spm = s.spm := by unfold State.startRoom; split <;> rfl
@[simp] theorem State.startRoom_vwc : (s.startRoom).vwc = s.vwc := by unfold State.startRoom; split <;> rfl
@[simp] theorem State.startRoom_dou : (s.startRoom).dou = s.dou := by unfold State.startRoom; split <;> rfl
@[simp] theorem State.startRoom_flc : (s.startRoom).flc = s.flc := by unfold State.startRoom; split <;> rfl
@[simp] theorem State.startRoom_lsc : (s.startRoom).lsc = s.lsc := by unfold State.startRoom; split <;> rfl
@[simp] theorem State.startRoom_powered : (s.startRoom).powered = s.powered := by unfold State.startRoom; split <;> rfl
@[simp] theorem State.startRoom_freeCount : (s.startRoom).freeCount = s.freeCount := by unfold State.startRoom; split <;> rfl
@[simp] theorem State.startRoom_pending : (s.startRoom).pending = s.pending := by unfold State.startRoom; split <;> rfl

/-! `startTether` -/
@[simp] theorem State.startTether_siu : (s.startTether).siu = s.siu := by unfold State.startTether; split <;> (try split) <;> rfl
@[simp] theorem State.startTether_tsu : (s.startTether).tsu = s.tsu := by unfold State.startTether; split <;> (try split) <;> rfl
@[simp] theorem State.startTether_tcl : (s.startTether).tcl = s.tcl := by unfold State.startTether; split <;> (try split) <;> rfl
@[simp] theorem State.startTether_peu : (s.startTether).peu = s.peu := by unfold State.startTether; split <;> (try split) <;> rfl
@[simp] theorem State.startTether_spm : (s.startTether).spm = s.spm := by unfold State.startTether; split <;> (try split) <;> rfl
@[simp] theorem State.startTether_vwc : (s.startTether).vwc = s.vwc := by unfold State.startTether; split <;> (try split) <;> rfl
@[simp] theorem State.startTether_dou : (s.startTether).dou = s.dou := by unfold State.startTether; split <;> (try split) <;> rfl
@[simp] theorem State.startTether_flc : (s.startTether).flc = s.flc := by unfold State.startTether; split <;> (try split) <;> rfl
@[simp] theorem State.startTether_lsc : (s.startTether).lsc = s.lsc := by unfold State.startTether; split <;> (try split) <;> rfl
@[simp] theorem State.startTether_powered : (s.startTether).powered = s.powered := by unfold State.startTether; split <;> (try split) <;> rfl
@[simp] theorem State.startTether_freeCount : (s.startTether).freeCount = s.freeCount := by unfold State.startTether; split <;> (try split) <;> rfl
@[simp] theorem State.startTether_pending : (s.startTether).pending = s.pending := by unfold State.startTether; split <;> (try split) <;> rfl

/-! `transmit` -/
@[simp] theorem State.transmit_siu : (s.transmit).siu = s.siu := by simp [State.transmit]
@[simp] theorem State.transmit_tsu : (s.transmit).tsu = s.tsu := by simp [State.transmit]
@[simp] theorem State.transmit_tcl : (s.transmit).tcl = s.tcl := by simp [State.transmit]
@[simp] theorem State.transmit_peu : (s.transmit).peu = s.peu := by simp [State.transmit]
@[simp] theorem State.transmit_spm : (s.transmit).spm = s.spm := by simp [State.transmit]
@[simp] theorem State.transmit_vwc : (s.transmit).vwc = s.vwc := by simp [State.transmit]
@[simp] theorem State.transmit_dou : (s.transmit).dou = s.dou := by simp [State.transmit]
@[simp] theorem State.transmit_flc : (s.transmit).flc = s.flc := by simp [State.transmit]
@[simp] theorem State.transmit_lsc : (s.transmit).lsc = s.lsc := by simp [State.transmit]
@[simp] theorem State.transmit_powered : (s.transmit).powered = s.powered := by simp [State.transmit]
@[simp] theorem State.transmit_freeCount : (s.transmit).freeCount = s.freeCount := by simp [State.transmit]
@[simp] theorem State.transmit_pending : (s.transmit).pending = s.pending := by simp [State.transmit]

/-! `changePort` -/
@[simp] theorem State.changePort_siu (p : Port) (f : PortState → PortState) : (s.changePort p f).siu = s.siu := rfl
@[simp] theorem State.changePort_tsu (p : Port) (f : PortState → PortState) : (s.changePort p f).tsu = s.tsu := rfl
@[simp] theorem State.changePort_tcl (p : Port) (f : PortState → PortState) : (s.changePort p f).tcl = s.tcl := rfl
@[simp] theorem State.changePort_peu (p : Port) (f : PortState → PortState) : (s.changePort p f).peu = s.peu := rfl
@[simp] theorem State.changePort_spm (p : Port) (f : PortState → PortState) : (s.changePort p f).spm = s.spm := rfl
@[simp] theorem State.changePort_vwc (p : Port) (f : PortState → PortState) : (s.changePort p f).vwc = s.vwc := rfl
@[simp] theorem State.changePort_dou (p : Port) (f : PortState → PortState) : (s.changePort p f).dou = s.dou := rfl
@[simp] theorem State.changePort_flc (p : Port) (f : PortState → PortState) : (s.changePort p f).flc = s.flc := rfl
@[simp] theorem State.changePort_lsc (p : Port) (f : PortState → PortState) : (s.changePort p f).lsc = s.lsc := rfl
@[simp] theorem State.changePort_powered (p : Port) (f : PortState → PortState) : (s.changePort p f).powered = s.powered := rfl
@[simp] theorem State.changePort_emitted (p : Port) (f : PortState → PortState) : (s.changePort p f).emitted = s.emitted := rfl
@[simp] theorem State.changePort_freeCount (p : Port) (f : PortState → PortState) : (s.changePort p f).freeCount = s.freeCount := rfl
@[simp] theorem State.changePort_pending (p : Port) (f : PortState → PortState) : (s.changePort p f).pending = s.pending := rfl

/-! `rework` -/
@[simp] theorem State.rework_siu : (s.rework).siu = s.siu := rfl
@[simp] theorem State.rework_tsu : (s.rework).tsu = s.tsu := rfl
@[simp] theorem State.rework_tcl : (s.rework).tcl = s.tcl := rfl
@[simp] theorem State.rework_peu : (s.rework).peu = s.peu := rfl
@[simp] theorem State.rework_spm : (s.rework).spm = s.spm := rfl
@[simp] theorem State.rework_dou : (s.rework).dou = s.dou := rfl
@[simp] theorem State.rework_flc : (s.rework).flc = s.flc := rfl
@[simp] theorem State.rework_lsc : (s.rework).lsc = s.lsc := rfl
@[simp] theorem State.rework_cpi : (s.rework).cpi = s.cpi := rfl
@[simp] theorem State.rework_powered : (s.rework).powered = s.powered := rfl
@[simp] theorem State.rework_emitted : (s.rework).emitted = s.emitted := rfl
@[simp] theorem State.rework_freeCount : (s.rework).freeCount = s.freeCount := rfl
@[simp] theorem State.rework_pending : (s.rework).pending = s.pending := rfl

/-! `viewChanged` -/
@[simp] theorem State.viewChanged_siu : (s.viewChanged).siu = s.siu := rfl
@[simp] theorem State.viewChanged_tsu : (s.viewChanged).tsu = s.tsu := rfl
@[simp] theorem State.viewChanged_tcl : (s.viewChanged).tcl = s.tcl := rfl
@[simp] theorem State.viewChanged_peu : (s.viewChanged).peu = s.peu := rfl
@[simp] theorem State.viewChanged_spm : (s.viewChanged).spm = s.spm := rfl
@[simp] theorem State.viewChanged_dou : (s.viewChanged).dou = s.dou := rfl
@[simp] theorem State.viewChanged_flc : (s.viewChanged).flc = s.flc := rfl
@[simp] theorem State.viewChanged_lsc : (s.viewChanged).lsc = s.lsc := rfl
@[simp] theorem State.viewChanged_powered : (s.viewChanged).powered = s.powered := rfl
@[simp] theorem State.viewChanged_emitted : (s.viewChanged).emitted = s.emitted := rfl
@[simp] theorem State.viewChanged_freeCount : (s.viewChanged).freeCount = s.freeCount := rfl
@[simp] theorem State.viewChanged_pending : (s.viewChanged).pending = s.pending := rfl

/-! `endWatch` -/
@[simp] theorem State.endWatch_siu (e : Ending) : (s.endWatch e).siu = s.siu := by unfold State.endWatch; split <;> rfl
@[simp] theorem State.endWatch_tsu (e : Ending) : (s.endWatch e).tsu = s.tsu := by unfold State.endWatch; split <;> rfl
@[simp] theorem State.endWatch_tcl (e : Ending) : (s.endWatch e).tcl = s.tcl := by unfold State.endWatch; split <;> rfl
@[simp] theorem State.endWatch_peu (e : Ending) : (s.endWatch e).peu = s.peu := by unfold State.endWatch; split <;> rfl
@[simp] theorem State.endWatch_spm (e : Ending) : (s.endWatch e).spm = s.spm := by unfold State.endWatch; split <;> rfl
@[simp] theorem State.endWatch_dou (e : Ending) : (s.endWatch e).dou = s.dou := by unfold State.endWatch; split <;> rfl
@[simp] theorem State.endWatch_flc (e : Ending) : (s.endWatch e).flc = s.flc := by unfold State.endWatch; split <;> rfl
@[simp] theorem State.endWatch_lsc (e : Ending) : (s.endWatch e).lsc = s.lsc := by unfold State.endWatch; split <;> rfl
@[simp] theorem State.endWatch_powered (e : Ending) : (s.endWatch e).powered = s.powered := by unfold State.endWatch; split <;> rfl
@[simp] theorem State.endWatch_emitted (e : Ending) : (s.endWatch e).emitted = s.emitted := by unfold State.endWatch; split <;> rfl
@[simp] theorem State.endWatch_freeCount (e : Ending) : (s.endWatch e).freeCount = s.freeCount := by unfold State.endWatch; split <;> rfl
@[simp] theorem State.endWatch_pending (e : Ending) : (s.endWatch e).pending = s.pending := by unfold State.endWatch; split <;> rfl

/-! `glide` -/
@[simp] theorem State.glide_siu : (s.glide).siu = s.siu := by unfold State.glide; split <;> rfl
@[simp] theorem State.glide_tsu : (s.glide).tsu = s.tsu := by unfold State.glide; split <;> rfl
@[simp] theorem State.glide_tcl : (s.glide).tcl = s.tcl := by unfold State.glide; split <;> rfl
@[simp] theorem State.glide_peu : (s.glide).peu = s.peu := by unfold State.glide; split <;> rfl
@[simp] theorem State.glide_spm : (s.glide).spm = s.spm := by unfold State.glide; split <;> rfl
@[simp] theorem State.glide_dou : (s.glide).dou = s.dou := by unfold State.glide; split <;> rfl
@[simp] theorem State.glide_flc : (s.glide).flc = s.flc := by unfold State.glide; split <;> rfl
@[simp] theorem State.glide_lsc : (s.glide).lsc = s.lsc := by unfold State.glide; split <;> rfl
@[simp] theorem State.glide_cpi : (s.glide).cpi = s.cpi := by unfold State.glide; split <;> rfl
@[simp] theorem State.glide_powered : (s.glide).powered = s.powered := by unfold State.glide; split <;> rfl
@[simp] theorem State.glide_emitted : (s.glide).emitted = s.emitted := by unfold State.glide; split <;> rfl
@[simp] theorem State.glide_freeCount : (s.glide).freeCount = s.freeCount := by unfold State.glide; split <;> rfl
@[simp] theorem State.glide_pending : (s.glide).pending = s.pending := by unfold State.glide; split <;> rfl

/-! `testWatch` -/
@[simp] theorem State.testWatch_siu : (s.testWatch).siu = s.siu := by unfold State.testWatch; split <;> simp
@[simp] theorem State.testWatch_tsu : (s.testWatch).tsu = s.tsu := by unfold State.testWatch; split <;> simp
@[simp] theorem State.testWatch_tcl : (s.testWatch).tcl = s.tcl := by unfold State.testWatch; split <;> simp
@[simp] theorem State.testWatch_peu : (s.testWatch).peu = s.peu := by unfold State.testWatch; split <;> simp
@[simp] theorem State.testWatch_spm : (s.testWatch).spm = s.spm := by unfold State.testWatch; split <;> simp
@[simp] theorem State.testWatch_dou : (s.testWatch).dou = s.dou := by unfold State.testWatch; split <;> simp
@[simp] theorem State.testWatch_flc : (s.testWatch).flc = s.flc := by unfold State.testWatch; split <;> simp
@[simp] theorem State.testWatch_lsc : (s.testWatch).lsc = s.lsc := by unfold State.testWatch; split <;> simp
@[simp] theorem State.testWatch_powered : (s.testWatch).powered = s.powered := by unfold State.testWatch; split <;> simp
@[simp] theorem State.testWatch_emitted : (s.testWatch).emitted = s.emitted := by unfold State.testWatch; split <;> simp
@[simp] theorem State.testWatch_freeCount : (s.testWatch).freeCount = s.freeCount := by unfold State.testWatch; split <;> simp
@[simp] theorem State.testWatch_pending : (s.testWatch).pending = s.pending := by unfold State.testWatch; split <;> simp

/-! `issue` -/
@[simp] theorem State.issue_siu (op : FlashOp) (a : Activity) : (s.issue op a).siu = s.siu := rfl
@[simp] theorem State.issue_tsu (op : FlashOp) (a : Activity) : (s.issue op a).tsu = s.tsu := rfl
@[simp] theorem State.issue_tcl (op : FlashOp) (a : Activity) : (s.issue op a).tcl = s.tcl := rfl
@[simp] theorem State.issue_peu (op : FlashOp) (a : Activity) : (s.issue op a).peu = s.peu := rfl
@[simp] theorem State.issue_spm (op : FlashOp) (a : Activity) : (s.issue op a).spm = s.spm := rfl
@[simp] theorem State.issue_vwc (op : FlashOp) (a : Activity) : (s.issue op a).vwc = s.vwc := rfl
@[simp] theorem State.issue_dou (op : FlashOp) (a : Activity) : (s.issue op a).dou = s.dou := rfl
@[simp] theorem State.issue_flc (op : FlashOp) (a : Activity) : (s.issue op a).flc = s.flc := rfl
@[simp] theorem State.issue_cpi (op : FlashOp) (a : Activity) : (s.issue op a).cpi = s.cpi := rfl
@[simp] theorem State.issue_powered (op : FlashOp) (a : Activity) : (s.issue op a).powered = s.powered := rfl
@[simp] theorem State.issue_emitted (op : FlashOp) (a : Activity) : (s.issue op a).emitted = s.emitted := rfl
@[simp] theorem State.issue_freeCount (op : FlashOp) (a : Activity) : (s.issue op a).freeCount = s.freeCount := rfl
@[simp] theorem State.issue_pending (op : FlashOp) (a : Activity) : (s.issue op a).pending = s.pending := rfl

/-! `quiet` -/
@[simp] theorem State.quiet_siu : (s.quiet).siu = s.siu := rfl
@[simp] theorem State.quiet_tsu : (s.quiet).tsu = s.tsu := rfl
@[simp] theorem State.quiet_tcl : (s.quiet).tcl = s.tcl := rfl
@[simp] theorem State.quiet_peu : (s.quiet).peu = s.peu := rfl
@[simp] theorem State.quiet_spm : (s.quiet).spm = s.spm := rfl
@[simp] theorem State.quiet_vwc : (s.quiet).vwc = s.vwc := rfl
@[simp] theorem State.quiet_dou : (s.quiet).dou = s.dou := rfl
@[simp] theorem State.quiet_flc : (s.quiet).flc = s.flc := rfl
@[simp] theorem State.quiet_cpi : (s.quiet).cpi = s.cpi := rfl
@[simp] theorem State.quiet_powered : (s.quiet).powered = s.powered := rfl
@[simp] theorem State.quiet_emitted : (s.quiet).emitted = s.emitted := rfl
@[simp] theorem State.quiet_freeCount : (s.quiet).freeCount = s.freeCount := rfl
@[simp] theorem State.quiet_pending : (s.quiet).pending = s.pending := rfl

/-! `readOnly` -/
@[simp] theorem State.readOnly_siu : (s.readOnly).siu = s.siu := rfl
@[simp] theorem State.readOnly_tsu : (s.readOnly).tsu = s.tsu := rfl
@[simp] theorem State.readOnly_tcl : (s.readOnly).tcl = s.tcl := rfl
@[simp] theorem State.readOnly_peu : (s.readOnly).peu = s.peu := rfl
@[simp] theorem State.readOnly_spm : (s.readOnly).spm = s.spm := rfl
@[simp] theorem State.readOnly_vwc : (s.readOnly).vwc = s.vwc := rfl
@[simp] theorem State.readOnly_dou : (s.readOnly).dou = s.dou := rfl
@[simp] theorem State.readOnly_flc : (s.readOnly).flc = s.flc := rfl
@[simp] theorem State.readOnly_powered : (s.readOnly).powered = s.powered := rfl
@[simp] theorem State.readOnly_emitted : (s.readOnly).emitted = s.emitted := rfl
@[simp] theorem State.readOnly_freeCount : (s.readOnly).freeCount = s.freeCount := rfl
@[simp] theorem State.readOnly_pending : (s.readOnly).pending = s.pending := rfl

/-! `written` -/
@[simp] theorem State.written_siu (b : Nat) : (s.written b).siu = s.siu := rfl
@[simp] theorem State.written_tsu (b : Nat) : (s.written b).tsu = s.tsu := rfl
@[simp] theorem State.written_tcl (b : Nat) : (s.written b).tcl = s.tcl := rfl
@[simp] theorem State.written_peu (b : Nat) : (s.written b).peu = s.peu := rfl
@[simp] theorem State.written_spm (b : Nat) : (s.written b).spm = s.spm := rfl
@[simp] theorem State.written_vwc (b : Nat) : (s.written b).vwc = s.vwc := rfl
@[simp] theorem State.written_dou (b : Nat) : (s.written b).dou = s.dou := rfl
@[simp] theorem State.written_flc (b : Nat) : (s.written b).flc = s.flc := rfl
@[simp] theorem State.written_powered (b : Nat) : (s.written b).powered = s.powered := rfl
@[simp] theorem State.written_emitted (b : Nat) : (s.written b).emitted = s.emitted := rfl
@[simp] theorem State.written_freeCount (b : Nat) : (s.written b).freeCount = s.freeCount := rfl
@[simp] theorem State.written_pending (b : Nat) : (s.written b).pending = s.pending := rfl

/-! `setHead` -/
@[simp] theorem State.setHead_siu (j : Job) : (s.setHead j).siu = s.siu := rfl
@[simp] theorem State.setHead_tsu (j : Job) : (s.setHead j).tsu = s.tsu := rfl
@[simp] theorem State.setHead_tcl (j : Job) : (s.setHead j).tcl = s.tcl := rfl
@[simp] theorem State.setHead_peu (j : Job) : (s.setHead j).peu = s.peu := rfl
@[simp] theorem State.setHead_spm (j : Job) : (s.setHead j).spm = s.spm := rfl
@[simp] theorem State.setHead_vwc (j : Job) : (s.setHead j).vwc = s.vwc := rfl
@[simp] theorem State.setHead_dou (j : Job) : (s.setHead j).dou = s.dou := rfl
@[simp] theorem State.setHead_flc (j : Job) : (s.setHead j).flc = s.flc := rfl
@[simp] theorem State.setHead_cpi (j : Job) : (s.setHead j).cpi = s.cpi := rfl
@[simp] theorem State.setHead_powered (j : Job) : (s.setHead j).powered = s.powered := rfl
@[simp] theorem State.setHead_emitted (j : Job) : (s.setHead j).emitted = s.emitted := rfl
@[simp] theorem State.setHead_freeCount (j : Job) : (s.setHead j).freeCount = s.freeCount := rfl
@[simp] theorem State.setHead_pending (j : Job) : (s.setHead j).pending = s.pending := rfl

/-! `withQueue` -/
@[simp] theorem State.withQueue_siu (q : List Job) : (s.withQueue q).siu = s.siu := rfl
@[simp] theorem State.withQueue_tsu (q : List Job) : (s.withQueue q).tsu = s.tsu := rfl
@[simp] theorem State.withQueue_tcl (q : List Job) : (s.withQueue q).tcl = s.tcl := rfl
@[simp] theorem State.withQueue_peu (q : List Job) : (s.withQueue q).peu = s.peu := rfl
@[simp] theorem State.withQueue_spm (q : List Job) : (s.withQueue q).spm = s.spm := rfl
@[simp] theorem State.withQueue_vwc (q : List Job) : (s.withQueue q).vwc = s.vwc := rfl
@[simp] theorem State.withQueue_dou (q : List Job) : (s.withQueue q).dou = s.dou := rfl
@[simp] theorem State.withQueue_flc (q : List Job) : (s.withQueue q).flc = s.flc := rfl
@[simp] theorem State.withQueue_cpi (q : List Job) : (s.withQueue q).cpi = s.cpi := rfl
@[simp] theorem State.withQueue_powered (q : List Job) : (s.withQueue q).powered = s.powered := rfl
@[simp] theorem State.withQueue_emitted (q : List Job) : (s.withQueue q).emitted = s.emitted := rfl
@[simp] theorem State.withQueue_freeCount (q : List Job) : (s.withQueue q).freeCount = s.freeCount := rfl
@[simp] theorem State.withQueue_pending (q : List Job) : (s.withQueue q).pending = s.pending := rfl

/-! `finishHead` -/
@[simp] theorem State.finishHead_siu (r : Reason) : (s.finishHead r).siu = s.siu := by unfold State.finishHead; split <;> rfl
@[simp] theorem State.finishHead_tsu (r : Reason) : (s.finishHead r).tsu = s.tsu := by unfold State.finishHead; split <;> rfl
@[simp] theorem State.finishHead_tcl (r : Reason) : (s.finishHead r).tcl = s.tcl := by unfold State.finishHead; split <;> rfl
@[simp] theorem State.finishHead_peu (r : Reason) : (s.finishHead r).peu = s.peu := by unfold State.finishHead; split <;> rfl
@[simp] theorem State.finishHead_spm (r : Reason) : (s.finishHead r).spm = s.spm := by unfold State.finishHead; split <;> rfl
@[simp] theorem State.finishHead_vwc (r : Reason) : (s.finishHead r).vwc = s.vwc := by unfold State.finishHead; split <;> rfl
@[simp] theorem State.finishHead_dou (r : Reason) : (s.finishHead r).dou = s.dou := by unfold State.finishHead; split <;> rfl
@[simp] theorem State.finishHead_flc (r : Reason) : (s.finishHead r).flc = s.flc := by unfold State.finishHead; split <;> rfl
@[simp] theorem State.finishHead_powered (r : Reason) : (s.finishHead r).powered = s.powered := by unfold State.finishHead; split <;> rfl
@[simp] theorem State.finishHead_emitted (r : Reason) : (s.finishHead r).emitted = s.emitted := by unfold State.finishHead; split <;> rfl
@[simp] theorem State.finishHead_freeCount (r : Reason) : (s.finishHead r).freeCount = s.freeCount := by unfold State.finishHead; split <;> rfl
@[simp] theorem State.finishHead_pending (r : Reason) : (s.finishHead r).pending = s.pending := by unfold State.finishHead; split <;> rfl

/-! `dropPin` -/
@[simp] theorem State.dropPin_siu (j : Job) : (s.dropPin j).siu = s.siu := by unfold State.dropPin; split <;> rfl
@[simp] theorem State.dropPin_tsu (j : Job) : (s.dropPin j).tsu = s.tsu := by unfold State.dropPin; split <;> rfl
@[simp] theorem State.dropPin_tcl (j : Job) : (s.dropPin j).tcl = s.tcl := by unfold State.dropPin; split <;> rfl
@[simp] theorem State.dropPin_peu (j : Job) : (s.dropPin j).peu = s.peu := by unfold State.dropPin; split <;> rfl
@[simp] theorem State.dropPin_vwc (j : Job) : (s.dropPin j).vwc = s.vwc := by unfold State.dropPin; split <;> rfl
@[simp] theorem State.dropPin_dou (j : Job) : (s.dropPin j).dou = s.dou := by unfold State.dropPin; split <;> rfl
@[simp] theorem State.dropPin_flc (j : Job) : (s.dropPin j).flc = s.flc := by unfold State.dropPin; split <;> rfl
@[simp] theorem State.dropPin_lsc (j : Job) : (s.dropPin j).lsc = s.lsc := by unfold State.dropPin; split <;> rfl
@[simp] theorem State.dropPin_cpi (j : Job) : (s.dropPin j).cpi = s.cpi := by unfold State.dropPin; split <;> rfl
@[simp] theorem State.dropPin_powered (j : Job) : (s.dropPin j).powered = s.powered := by unfold State.dropPin; split <;> rfl
@[simp] theorem State.dropPin_emitted (j : Job) : (s.dropPin j).emitted = s.emitted := by unfold State.dropPin; split <;> rfl
@[simp] theorem State.dropPin_freeCount (j : Job) : (s.dropPin j).freeCount = s.freeCount := by unfold State.dropPin; split <;> rfl
@[simp] theorem State.dropPin_pending (j : Job) : (s.dropPin j).pending = s.pending := by unfold State.dropPin; split <;> rfl

/-! `queuePage` -/
@[simp] theorem State.queuePage_siu (p : AgreementPage) : (s.queuePage p).siu = s.siu := rfl
@[simp] theorem State.queuePage_tsu (p : AgreementPage) : (s.queuePage p).tsu = s.tsu := rfl
@[simp] theorem State.queuePage_tcl (p : AgreementPage) : (s.queuePage p).tcl = s.tcl := rfl
@[simp] theorem State.queuePage_peu (p : AgreementPage) : (s.queuePage p).peu = s.peu := rfl
@[simp] theorem State.queuePage_spm (p : AgreementPage) : (s.queuePage p).spm = s.spm := rfl
@[simp] theorem State.queuePage_vwc (p : AgreementPage) : (s.queuePage p).vwc = s.vwc := rfl
@[simp] theorem State.queuePage_dou (p : AgreementPage) : (s.queuePage p).dou = s.dou := rfl
@[simp] theorem State.queuePage_lsc (p : AgreementPage) : (s.queuePage p).lsc = s.lsc := rfl
@[simp] theorem State.queuePage_cpi (p : AgreementPage) : (s.queuePage p).cpi = s.cpi := rfl
@[simp] theorem State.queuePage_powered (p : AgreementPage) : (s.queuePage p).powered = s.powered := rfl
@[simp] theorem State.queuePage_emitted (p : AgreementPage) : (s.queuePage p).emitted = s.emitted := rfl
@[simp] theorem State.queuePage_freeCount (p : AgreementPage) : (s.queuePage p).freeCount = s.freeCount := rfl
@[simp] theorem State.queuePage_pending (p : AgreementPage) : (s.queuePage p).pending = s.pending := rfl

/-! `startPageTimer` -/
@[simp] theorem State.startPageTimer_siu : (s.startPageTimer).siu = s.siu := rfl
@[simp] theorem State.startPageTimer_tsu : (s.startPageTimer).tsu = s.tsu := rfl
@[simp] theorem State.startPageTimer_tcl : (s.startPageTimer).tcl = s.tcl := rfl
@[simp] theorem State.startPageTimer_peu : (s.startPageTimer).peu = s.peu := rfl
@[simp] theorem State.startPageTimer_spm : (s.startPageTimer).spm = s.spm := rfl
@[simp] theorem State.startPageTimer_vwc : (s.startPageTimer).vwc = s.vwc := rfl
@[simp] theorem State.startPageTimer_dou : (s.startPageTimer).dou = s.dou := rfl
@[simp] theorem State.startPageTimer_lsc : (s.startPageTimer).lsc = s.lsc := rfl
@[simp] theorem State.startPageTimer_cpi : (s.startPageTimer).cpi = s.cpi := rfl
@[simp] theorem State.startPageTimer_powered : (s.startPageTimer).powered = s.powered := rfl
@[simp] theorem State.startPageTimer_emitted : (s.startPageTimer).emitted = s.emitted := rfl
@[simp] theorem State.startPageTimer_freeCount : (s.startPageTimer).freeCount = s.freeCount := rfl
@[simp] theorem State.startPageTimer_pending : (s.startPageTimer).pending = s.pending := rfl

/-! `sendOffer` -/
@[simp] theorem State.sendOffer_siu (ack : Bool) : (s.sendOffer ack).siu = s.siu := rfl
@[simp] theorem State.sendOffer_tsu (ack : Bool) : (s.sendOffer ack).tsu = s.tsu := rfl
@[simp] theorem State.sendOffer_tcl (ack : Bool) : (s.sendOffer ack).tcl = s.tcl := rfl
@[simp] theorem State.sendOffer_peu (ack : Bool) : (s.sendOffer ack).peu = s.peu := rfl
@[simp] theorem State.sendOffer_spm (ack : Bool) : (s.sendOffer ack).spm = s.spm := rfl
@[simp] theorem State.sendOffer_vwc (ack : Bool) : (s.sendOffer ack).vwc = s.vwc := rfl
@[simp] theorem State.sendOffer_dou (ack : Bool) : (s.sendOffer ack).dou = s.dou := rfl
@[simp] theorem State.sendOffer_lsc (ack : Bool) : (s.sendOffer ack).lsc = s.lsc := rfl
@[simp] theorem State.sendOffer_cpi (ack : Bool) : (s.sendOffer ack).cpi = s.cpi := rfl
@[simp] theorem State.sendOffer_emitted (ack : Bool) : (s.sendOffer ack).emitted = s.emitted := rfl
@[simp] theorem State.sendOffer_powered (ack : Bool) : (s.sendOffer ack).powered = s.powered := rfl
@[simp] theorem State.sendOffer_freeCount (ack : Bool) : (s.sendOffer ack).freeCount = s.freeCount := rfl
@[simp] theorem State.sendOffer_pending (ack : Bool) : (s.sendOffer ack).pending = s.pending := rfl

/-! `sendNote` -/
@[simp] theorem State.sendNote_siu (ack2 : Bool) : (s.sendNote ack2).siu = s.siu := rfl
@[simp] theorem State.sendNote_tsu (ack2 : Bool) : (s.sendNote ack2).tsu = s.tsu := rfl
@[simp] theorem State.sendNote_tcl (ack2 : Bool) : (s.sendNote ack2).tcl = s.tcl := rfl
@[simp] theorem State.sendNote_peu (ack2 : Bool) : (s.sendNote ack2).peu = s.peu := rfl
@[simp] theorem State.sendNote_spm (ack2 : Bool) : (s.sendNote ack2).spm = s.spm := rfl
@[simp] theorem State.sendNote_vwc (ack2 : Bool) : (s.sendNote ack2).vwc = s.vwc := rfl
@[simp] theorem State.sendNote_dou (ack2 : Bool) : (s.sendNote ack2).dou = s.dou := rfl
@[simp] theorem State.sendNote_lsc (ack2 : Bool) : (s.sendNote ack2).lsc = s.lsc := rfl
@[simp] theorem State.sendNote_cpi (ack2 : Bool) : (s.sendNote ack2).cpi = s.cpi := rfl
@[simp] theorem State.sendNote_emitted (ack2 : Bool) : (s.sendNote ack2).emitted = s.emitted := rfl
@[simp] theorem State.sendNote_powered (ack2 : Bool) : (s.sendNote ack2).powered = s.powered := rfl
@[simp] theorem State.sendNote_freeCount (ack2 : Bool) : (s.sendNote ack2).freeCount = s.freeCount := rfl
@[simp] theorem State.sendNote_pending (ack2 : Bool) : (s.sendNote ack2).pending = s.pending := rfl

/-! `beginAgreement` -/
@[simp] theorem State.beginAgreement_siu : (s.beginAgreement).siu = s.siu := rfl
@[simp] theorem State.beginAgreement_tsu : (s.beginAgreement).tsu = s.tsu := rfl
@[simp] theorem State.beginAgreement_tcl : (s.beginAgreement).tcl = s.tcl := rfl
@[simp] theorem State.beginAgreement_peu : (s.beginAgreement).peu = s.peu := rfl
@[simp] theorem State.beginAgreement_spm : (s.beginAgreement).spm = s.spm := rfl
@[simp] theorem State.beginAgreement_vwc : (s.beginAgreement).vwc = s.vwc := rfl
@[simp] theorem State.beginAgreement_dou : (s.beginAgreement).dou = s.dou := rfl
@[simp] theorem State.beginAgreement_lsc : (s.beginAgreement).lsc = s.lsc := rfl
@[simp] theorem State.beginAgreement_cpi : (s.beginAgreement).cpi = s.cpi := rfl
@[simp] theorem State.beginAgreement_emitted : (s.beginAgreement).emitted = s.emitted := rfl
@[simp] theorem State.beginAgreement_powered : (s.beginAgreement).powered = s.powered := rfl
@[simp] theorem State.beginAgreement_freeCount : (s.beginAgreement).freeCount = s.freeCount := rfl
@[simp] theorem State.beginAgreement_pending : (s.beginAgreement).pending = s.pending := rfl

/-! `feedUp` -/
@[simp] theorem State.feedUp_siu (n : Nat) : (s.feedUp n).siu = s.siu := rfl
@[simp] theorem State.feedUp_tsu (n : Nat) : (s.feedUp n).tsu = s.tsu := rfl
@[simp] theorem State.feedUp_tcl (n : Nat) : (s.feedUp n).tcl = s.tcl := rfl
@[simp] theorem State.feedUp_peu (n : Nat) : (s.feedUp n).peu = s.peu := rfl
@[simp] theorem State.feedUp_spm (n : Nat) : (s.feedUp n).spm = s.spm := rfl
@[simp] theorem State.feedUp_vwc (n : Nat) : (s.feedUp n).vwc = s.vwc := rfl
@[simp] theorem State.feedUp_dou (n : Nat) : (s.feedUp n).dou = s.dou := rfl
@[simp] theorem State.feedUp_lsc (n : Nat) : (s.feedUp n).lsc = s.lsc := rfl
@[simp] theorem State.feedUp_powered (n : Nat) : (s.feedUp n).powered = s.powered := rfl
@[simp] theorem State.feedUp_emitted (n : Nat) : (s.feedUp n).emitted = s.emitted := rfl
@[simp] theorem State.feedUp_freeCount (n : Nat) : (s.feedUp n).freeCount = s.freeCount := rfl
@[simp] theorem State.feedUp_pending (n : Nat) : (s.feedUp n).pending = s.pending := rfl

/-! `noCommonFormat` -/
@[simp] theorem State.noCommonFormat_siu : (s.noCommonFormat).siu = s.siu := rfl
@[simp] theorem State.noCommonFormat_tsu : (s.noCommonFormat).tsu = s.tsu := rfl
@[simp] theorem State.noCommonFormat_tcl : (s.noCommonFormat).tcl = s.tcl := rfl
@[simp] theorem State.noCommonFormat_peu : (s.noCommonFormat).peu = s.peu := rfl
@[simp] theorem State.noCommonFormat_spm : (s.noCommonFormat).spm = s.spm := rfl
@[simp] theorem State.noCommonFormat_vwc : (s.noCommonFormat).vwc = s.vwc := rfl
@[simp] theorem State.noCommonFormat_dou : (s.noCommonFormat).dou = s.dou := rfl
@[simp] theorem State.noCommonFormat_lsc : (s.noCommonFormat).lsc = s.lsc := rfl
@[simp] theorem State.noCommonFormat_powered : (s.noCommonFormat).powered = s.powered := rfl
@[simp] theorem State.noCommonFormat_freeCount : (s.noCommonFormat).freeCount = s.freeCount := rfl
@[simp] theorem State.noCommonFormat_pending : (s.noCommonFormat).pending = s.pending := rfl

/-! `resolve` -/
@[simp] theorem State.resolve_siu : (s.resolve).siu = s.siu := by unfold State.resolve; split <;> rfl
@[simp] theorem State.resolve_tsu : (s.resolve).tsu = s.tsu := by unfold State.resolve; split <;> rfl
@[simp] theorem State.resolve_tcl : (s.resolve).tcl = s.tcl := by unfold State.resolve; split <;> rfl
@[simp] theorem State.resolve_peu : (s.resolve).peu = s.peu := by unfold State.resolve; split <;> rfl
@[simp] theorem State.resolve_spm : (s.resolve).spm = s.spm := by unfold State.resolve; split <;> rfl
@[simp] theorem State.resolve_vwc : (s.resolve).vwc = s.vwc := by unfold State.resolve; split <;> rfl
@[simp] theorem State.resolve_dou : (s.resolve).dou = s.dou := by unfold State.resolve; split <;> rfl
@[simp] theorem State.resolve_lsc : (s.resolve).lsc = s.lsc := by unfold State.resolve; split <;> rfl
@[simp] theorem State.resolve_powered : (s.resolve).powered = s.powered := by unfold State.resolve; split <;> rfl
@[simp] theorem State.resolve_freeCount : (s.resolve).freeCount = s.freeCount := by unfold State.resolve; split <;> rfl
@[simp] theorem State.resolve_pending : (s.resolve).pending = s.pending := by unfold State.resolve; split <;> rfl

/-! `baseComplete` -/
@[simp] theorem State.baseComplete_siu : (s.baseComplete).siu = s.siu := by unfold State.baseComplete; split <;> simp
@[simp] theorem State.baseComplete_tsu : (s.baseComplete).tsu = s.tsu := by unfold State.baseComplete; split <;> simp
@[simp] theorem State.baseComplete_tcl : (s.baseComplete).tcl = s.tcl := by unfold State.baseComplete; split <;> simp
@[simp] theorem State.baseComplete_peu : (s.baseComplete).peu = s.peu := by unfold State.baseComplete; split <;> simp
@[simp] theorem State.baseComplete_spm : (s.baseComplete).spm = s.spm := by unfold State.baseComplete; split <;> simp
@[simp] theorem State.baseComplete_vwc : (s.baseComplete).vwc = s.vwc := by unfold State.baseComplete; split <;> simp
@[simp] theorem State.baseComplete_dou : (s.baseComplete).dou = s.dou := by unfold State.baseComplete; split <;> simp
@[simp] theorem State.baseComplete_lsc : (s.baseComplete).lsc = s.lsc := by unfold State.baseComplete; split <;> simp
@[simp] theorem State.baseComplete_powered : (s.baseComplete).powered = s.powered := by unfold State.baseComplete; split <;> simp
@[simp] theorem State.baseComplete_freeCount : (s.baseComplete).freeCount = s.freeCount := by unfold State.baseComplete; split <;> simp
@[simp] theorem State.baseComplete_pending : (s.baseComplete).pending = s.pending := by unfold State.baseComplete; split <;> simp

/-! `takeOffer` -/
@[simp] theorem State.takeOffer_siu (o : BaseOffer) : (s.takeOffer o).siu = s.siu := by simp only [State.takeOffer]; split <;> simp
@[simp] theorem State.takeOffer_tsu (o : BaseOffer) : (s.takeOffer o).tsu = s.tsu := by simp only [State.takeOffer]; split <;> simp
@[simp] theorem State.takeOffer_tcl (o : BaseOffer) : (s.takeOffer o).tcl = s.tcl := by simp only [State.takeOffer]; split <;> simp
@[simp] theorem State.takeOffer_peu (o : BaseOffer) : (s.takeOffer o).peu = s.peu := by simp only [State.takeOffer]; split <;> simp
@[simp] theorem State.takeOffer_spm (o : BaseOffer) : (s.takeOffer o).spm = s.spm := by simp only [State.takeOffer]; split <;> simp
@[simp] theorem State.takeOffer_vwc (o : BaseOffer) : (s.takeOffer o).vwc = s.vwc := by simp only [State.takeOffer]; split <;> simp
@[simp] theorem State.takeOffer_dou (o : BaseOffer) : (s.takeOffer o).dou = s.dou := by simp only [State.takeOffer]; split <;> simp
@[simp] theorem State.takeOffer_lsc (o : BaseOffer) : (s.takeOffer o).lsc = s.lsc := by simp only [State.takeOffer]; split <;> simp
@[simp] theorem State.takeOffer_powered (o : BaseOffer) : (s.takeOffer o).powered = s.powered := by simp only [State.takeOffer]; split <;> simp
@[simp] theorem State.takeOffer_freeCount (o : BaseOffer) : (s.takeOffer o).freeCount = s.freeCount := by simp only [State.takeOffer]; split <;> simp
@[simp] theorem State.takeOffer_pending (o : BaseOffer) : (s.takeOffer o).pending = s.pending := by simp only [State.takeOffer]; split <;> simp

/-! `repeatNote` -/
@[simp] theorem State.repeatNote_siu : (s.repeatNote).siu = s.siu := by unfold State.repeatNote; split <;> rfl
@[simp] theorem State.repeatNote_tsu : (s.repeatNote).tsu = s.tsu := by unfold State.repeatNote; split <;> rfl
@[simp] theorem State.repeatNote_tcl : (s.repeatNote).tcl = s.tcl := by unfold State.repeatNote; split <;> rfl
@[simp] theorem State.repeatNote_peu : (s.repeatNote).peu = s.peu := by unfold State.repeatNote; split <;> rfl
@[simp] theorem State.repeatNote_spm : (s.repeatNote).spm = s.spm := by unfold State.repeatNote; split <;> rfl
@[simp] theorem State.repeatNote_vwc : (s.repeatNote).vwc = s.vwc := by unfold State.repeatNote; split <;> rfl
@[simp] theorem State.repeatNote_dou : (s.repeatNote).dou = s.dou := by unfold State.repeatNote; split <;> rfl
@[simp] theorem State.repeatNote_lsc : (s.repeatNote).lsc = s.lsc := by unfold State.repeatNote; split <;> rfl
@[simp] theorem State.repeatNote_powered : (s.repeatNote).powered = s.powered := by unfold State.repeatNote; split <;> rfl
@[simp] theorem State.repeatNote_freeCount : (s.repeatNote).freeCount = s.freeCount := by unfold State.repeatNote; split <;> rfl
@[simp] theorem State.repeatNote_pending : (s.repeatNote).pending = s.pending := by unfold State.repeatNote; split <;> rfl

/-! `newNote` -/
@[simp] theorem State.newNote_siu (p : NotePage) : (s.newNote p).siu = s.siu := by simp only [State.newNote]; split <;> simp
@[simp] theorem State.newNote_tsu (p : NotePage) : (s.newNote p).tsu = s.tsu := by simp only [State.newNote]; split <;> simp
@[simp] theorem State.newNote_tcl (p : NotePage) : (s.newNote p).tcl = s.tcl := by simp only [State.newNote]; split <;> simp
@[simp] theorem State.newNote_peu (p : NotePage) : (s.newNote p).peu = s.peu := by simp only [State.newNote]; split <;> simp
@[simp] theorem State.newNote_spm (p : NotePage) : (s.newNote p).spm = s.spm := by simp only [State.newNote]; split <;> simp
@[simp] theorem State.newNote_vwc (p : NotePage) : (s.newNote p).vwc = s.vwc := by simp only [State.newNote]; split <;> simp
@[simp] theorem State.newNote_dou (p : NotePage) : (s.newNote p).dou = s.dou := by simp only [State.newNote]; split <;> simp
@[simp] theorem State.newNote_lsc (p : NotePage) : (s.newNote p).lsc = s.lsc := by simp only [State.newNote]; split <;> simp
@[simp] theorem State.newNote_powered (p : NotePage) : (s.newNote p).powered = s.powered := by simp only [State.newNote]; split <;> simp
@[simp] theorem State.newNote_freeCount (p : NotePage) : (s.newNote p).freeCount = s.freeCount := by simp only [State.newNote]; split <;> simp
@[simp] theorem State.newNote_pending (p : NotePage) : (s.newNote p).pending = s.pending := by simp only [State.newNote]; split <;> simp

/-! `setIntake` -/
@[simp] theorem State.setIntake_tsu (i : IntakeState) : (s.setIntake i).tsu = s.tsu := rfl
@[simp] theorem State.setIntake_tcl (i : IntakeState) : (s.setIntake i).tcl = s.tcl := rfl
@[simp] theorem State.setIntake_peu (i : IntakeState) : (s.setIntake i).peu = s.peu := rfl
@[simp] theorem State.setIntake_spm (i : IntakeState) : (s.setIntake i).spm = s.spm := rfl
@[simp] theorem State.setIntake_vwc (i : IntakeState) : (s.setIntake i).vwc = s.vwc := rfl
@[simp] theorem State.setIntake_dou (i : IntakeState) : (s.setIntake i).dou = s.dou := rfl
@[simp] theorem State.setIntake_flc (i : IntakeState) : (s.setIntake i).flc = s.flc := rfl
@[simp] theorem State.setIntake_lsc (i : IntakeState) : (s.setIntake i).lsc = s.lsc := rfl
@[simp] theorem State.setIntake_cpi (i : IntakeState) : (s.setIntake i).cpi = s.cpi := rfl
@[simp] theorem State.setIntake_powered (i : IntakeState) : (s.setIntake i).powered = s.powered := rfl
@[simp] theorem State.setIntake_emitted (i : IntakeState) : (s.setIntake i).emitted = s.emitted := rfl
@[simp] theorem State.setIntake_freeCount (i : IntakeState) : (s.setIntake i).freeCount = s.freeCount := rfl
@[simp] theorem State.setIntake_pending (i : IntakeState) : (s.setIntake i).pending = s.pending := rfl

/-! `breakFrame` -/
@[simp] theorem State.breakFrame_siu : (s.breakFrame).siu = s.siu := rfl
@[simp] theorem State.breakFrame_tcl : (s.breakFrame).tcl = s.tcl := rfl
@[simp] theorem State.breakFrame_peu : (s.breakFrame).peu = s.peu := rfl
@[simp] theorem State.breakFrame_vwc : (s.breakFrame).vwc = s.vwc := rfl
@[simp] theorem State.breakFrame_dou : (s.breakFrame).dou = s.dou := rfl
@[simp] theorem State.breakFrame_flc : (s.breakFrame).flc = s.flc := rfl
@[simp] theorem State.breakFrame_lsc : (s.breakFrame).lsc = s.lsc := rfl
@[simp] theorem State.breakFrame_powered : (s.breakFrame).powered = s.powered := rfl
@[simp] theorem State.breakFrame_emitted : (s.breakFrame).emitted = s.emitted := rfl
@[simp] theorem State.breakFrame_freeCount : (s.breakFrame).freeCount = s.freeCount := rfl
@[simp] theorem State.breakFrame_pending : (s.breakFrame).pending = s.pending := rfl

/-! `endFrameInProgress` -/
@[simp] theorem State.endFrameInProgress_siu : (s.endFrameInProgress).siu = s.siu := by unfold State.endFrameInProgress; split <;> simp
@[simp] theorem State.endFrameInProgress_tcl : (s.endFrameInProgress).tcl = s.tcl := by unfold State.endFrameInProgress; split <;> simp
@[simp] theorem State.endFrameInProgress_peu : (s.endFrameInProgress).peu = s.peu := by unfold State.endFrameInProgress; split <;> simp
@[simp] theorem State.endFrameInProgress_vwc : (s.endFrameInProgress).vwc = s.vwc := by unfold State.endFrameInProgress; split <;> simp
@[simp] theorem State.endFrameInProgress_dou : (s.endFrameInProgress).dou = s.dou := by unfold State.endFrameInProgress; split <;> simp
@[simp] theorem State.endFrameInProgress_flc : (s.endFrameInProgress).flc = s.flc := by unfold State.endFrameInProgress; split <;> simp
@[simp] theorem State.endFrameInProgress_lsc : (s.endFrameInProgress).lsc = s.lsc := by unfold State.endFrameInProgress; split <;> simp
@[simp] theorem State.endFrameInProgress_powered : (s.endFrameInProgress).powered = s.powered := by unfold State.endFrameInProgress; split <;> simp
@[simp] theorem State.endFrameInProgress_emitted : (s.endFrameInProgress).emitted = s.emitted := by unfold State.endFrameInProgress; split <;> simp
@[simp] theorem State.endFrameInProgress_freeCount : (s.endFrameInProgress).freeCount = s.freeCount := by unfold State.endFrameInProgress; split <;> simp
@[simp] theorem State.endFrameInProgress_pending : (s.endFrameInProgress).pending = s.pending := by unfold State.endFrameInProgress; split <;> simp

/-! `openFrame` -/
@[simp] theorem State.openFrame_spm : (s.openFrame).spm = s.spm := rfl
@[simp] theorem State.openFrame_vwc : (s.openFrame).vwc = s.vwc := rfl
@[simp] theorem State.openFrame_dou : (s.openFrame).dou = s.dou := rfl
@[simp] theorem State.openFrame_flc : (s.openFrame).flc = s.flc := rfl
@[simp] theorem State.openFrame_lsc : (s.openFrame).lsc = s.lsc := rfl
@[simp] theorem State.openFrame_cpi : (s.openFrame).cpi = s.cpi := rfl
@[simp] theorem State.openFrame_powered : (s.openFrame).powered = s.powered := rfl
@[simp] theorem State.openFrame_emitted : (s.openFrame).emitted = s.emitted := rfl
@[simp] theorem State.openFrame_freeCount : (s.openFrame).freeCount = s.freeCount := rfl
@[simp] theorem State.openFrame_pending : (s.openFrame).pending = s.pending := rfl

/-! `askSlot` -/
@[simp] theorem State.askSlot_tcl : (s.askSlot).tcl = s.tcl := by unfold State.askSlot; split <;> simp
@[simp] theorem State.askSlot_vwc : (s.askSlot).vwc = s.vwc := by unfold State.askSlot; split <;> simp
@[simp] theorem State.askSlot_dou : (s.askSlot).dou = s.dou := by unfold State.askSlot; split <;> simp
@[simp] theorem State.askSlot_flc : (s.askSlot).flc = s.flc := by unfold State.askSlot; split <;> simp
@[simp] theorem State.askSlot_lsc : (s.askSlot).lsc = s.lsc := by unfold State.askSlot; split <;> simp
@[simp] theorem State.askSlot_powered : (s.askSlot).powered = s.powered := by unfold State.askSlot; split <;> simp
@[simp] theorem State.askSlot_emitted : (s.askSlot).emitted = s.emitted := by unfold State.askSlot; split <;> simp
@[simp] theorem State.askSlot_freeCount : (s.askSlot).freeCount = s.freeCount := by unfold State.askSlot; split <;> simp
@[simp] theorem State.askSlot_pending : (s.askSlot).pending = s.pending := by unfold State.askSlot; split <;> simp

/-! `finish` -/
@[simp] theorem State.finish_siu (y : Nat) (a m b : List PixelClock) : (s.finish y a m b).siu = s.siu := by unfold State.finish; split <;> rfl
@[simp] theorem State.finish_tsu (y : Nat) (a m b : List PixelClock) : (s.finish y a m b).tsu = s.tsu := by unfold State.finish; split <;> rfl
@[simp] theorem State.finish_tcl (y : Nat) (a m b : List PixelClock) : (s.finish y a m b).tcl = s.tcl := by unfold State.finish; split <;> rfl
@[simp] theorem State.finish_peu (y : Nat) (a m b : List PixelClock) : (s.finish y a m b).peu = s.peu := by unfold State.finish; split <;> rfl
@[simp] theorem State.finish_vwc (y : Nat) (a m b : List PixelClock) : (s.finish y a m b).vwc = s.vwc := by unfold State.finish; split <;> rfl
@[simp] theorem State.finish_dou (y : Nat) (a m b : List PixelClock) : (s.finish y a m b).dou = s.dou := by unfold State.finish; split <;> rfl
@[simp] theorem State.finish_flc (y : Nat) (a m b : List PixelClock) : (s.finish y a m b).flc = s.flc := by unfold State.finish; split <;> rfl
@[simp] theorem State.finish_lsc (y : Nat) (a m b : List PixelClock) : (s.finish y a m b).lsc = s.lsc := by unfold State.finish; split <;> rfl
@[simp] theorem State.finish_cpi (y : Nat) (a m b : List PixelClock) : (s.finish y a m b).cpi = s.cpi := by unfold State.finish; split <;> rfl
@[simp] theorem State.finish_powered (y : Nat) (a m b : List PixelClock) : (s.finish y a m b).powered = s.powered := by unfold State.finish; split <;> rfl
@[simp] theorem State.finish_emitted (y : Nat) (a m b : List PixelClock) : (s.finish y a m b).emitted = s.emitted := by unfold State.finish; split <;> rfl
@[simp] theorem State.finish_freeCount (y : Nat) (a m b : List PixelClock) : (s.finish y a m b).freeCount = s.freeCount := by unfold State.finish; split <;> rfl
@[simp] theorem State.finish_pending (y : Nat) (a m b : List PixelClock) : (s.finish y a m b).pending = s.pending := by unfold State.finish; split <;> rfl

/-! `settle` -/
@[simp] theorem State.settle_siu : (s.settle).siu = s.siu := by unfold State.settle; split <;> rfl
@[simp] theorem State.settle_peu : (s.settle).peu = s.peu := by unfold State.settle; split <;> rfl
@[simp] theorem State.settle_spm : (s.settle).spm = s.spm := by unfold State.settle; split <;> rfl
@[simp] theorem State.settle_vwc : (s.settle).vwc = s.vwc := by unfold State.settle; split <;> rfl
@[simp] theorem State.settle_dou : (s.settle).dou = s.dou := by unfold State.settle; split <;> rfl
@[simp] theorem State.settle_flc : (s.settle).flc = s.flc := by unfold State.settle; split <;> rfl
@[simp] theorem State.settle_lsc : (s.settle).lsc = s.lsc := by unfold State.settle; split <;> rfl
@[simp] theorem State.settle_cpi : (s.settle).cpi = s.cpi := by unfold State.settle; split <;> rfl
@[simp] theorem State.settle_powered : (s.settle).powered = s.powered := by unfold State.settle; split <;> rfl
@[simp] theorem State.settle_emitted : (s.settle).emitted = s.emitted := by unfold State.settle; split <;> rfl
@[simp] theorem State.settle_freeCount : (s.settle).freeCount = s.freeCount := by unfold State.settle; split <;> rfl
@[simp] theorem State.settle_pending : (s.settle).pending = s.pending := by unfold State.settle; split <;> rfl

/-! `boxNotice` -/
@[simp] theorem State.boxNotice_siu (b : Option TileBox) : (s.boxNotice b).siu = s.siu := by unfold State.boxNotice; split <;> rfl
@[simp] theorem State.boxNotice_tsu (b : Option TileBox) : (s.boxNotice b).tsu = s.tsu := by unfold State.boxNotice; split <;> rfl
@[simp] theorem State.boxNotice_tcl (b : Option TileBox) : (s.boxNotice b).tcl = s.tcl := by unfold State.boxNotice; split <;> rfl
@[simp] theorem State.boxNotice_peu (b : Option TileBox) : (s.boxNotice b).peu = s.peu := by unfold State.boxNotice; split <;> rfl
@[simp] theorem State.boxNotice_spm (b : Option TileBox) : (s.boxNotice b).spm = s.spm := by unfold State.boxNotice; split <;> rfl
@[simp] theorem State.boxNotice_vwc (b : Option TileBox) : (s.boxNotice b).vwc = s.vwc := by unfold State.boxNotice; split <;> rfl
@[simp] theorem State.boxNotice_dou (b : Option TileBox) : (s.boxNotice b).dou = s.dou := by unfold State.boxNotice; split <;> rfl
@[simp] theorem State.boxNotice_flc (b : Option TileBox) : (s.boxNotice b).flc = s.flc := by unfold State.boxNotice; split <;> rfl
@[simp] theorem State.boxNotice_lsc (b : Option TileBox) : (s.boxNotice b).lsc = s.lsc := by unfold State.boxNotice; split <;> rfl
@[simp] theorem State.boxNotice_powered (b : Option TileBox) : (s.boxNotice b).powered = s.powered := by unfold State.boxNotice; split <;> rfl
@[simp] theorem State.boxNotice_emitted (b : Option TileBox) : (s.boxNotice b).emitted = s.emitted := by unfold State.boxNotice; split <;> rfl
@[simp] theorem State.boxNotice_freeCount (b : Option TileBox) : (s.boxNotice b).freeCount = s.freeCount := by unfold State.boxNotice; split <;> rfl
@[simp] theorem State.boxNotice_pending (b : Option TileBox) : (s.boxNotice b).pending = s.pending := by unfold State.boxNotice; split <;> rfl

/-! `moveLatest` -/
@[simp] theorem State.moveLatest_siu : (s.moveLatest).siu = s.siu := by unfold State.moveLatest; split <;> rfl
@[simp] theorem State.moveLatest_tsu : (s.moveLatest).tsu = s.tsu := by unfold State.moveLatest; split <;> rfl
@[simp] theorem State.moveLatest_tcl : (s.moveLatest).tcl = s.tcl := by unfold State.moveLatest; split <;> rfl
@[simp] theorem State.moveLatest_peu : (s.moveLatest).peu = s.peu := by unfold State.moveLatest; split <;> rfl
@[simp] theorem State.moveLatest_vwc : (s.moveLatest).vwc = s.vwc := by unfold State.moveLatest; split <;> rfl
@[simp] theorem State.moveLatest_dou : (s.moveLatest).dou = s.dou := by unfold State.moveLatest; split <;> rfl
@[simp] theorem State.moveLatest_flc : (s.moveLatest).flc = s.flc := by unfold State.moveLatest; split <;> rfl
@[simp] theorem State.moveLatest_lsc : (s.moveLatest).lsc = s.lsc := by unfold State.moveLatest; split <;> rfl
@[simp] theorem State.moveLatest_cpi : (s.moveLatest).cpi = s.cpi := by unfold State.moveLatest; split <;> rfl
@[simp] theorem State.moveLatest_powered : (s.moveLatest).powered = s.powered := by unfold State.moveLatest; split <;> rfl
@[simp] theorem State.moveLatest_emitted : (s.moveLatest).emitted = s.emitted := by unfold State.moveLatest; split <;> rfl
@[simp] theorem State.moveLatest_freeCount : (s.moveLatest).freeCount = s.freeCount := by unfold State.moveLatest; split <;> rfl
@[simp] theorem State.moveLatest_pending : (s.moveLatest).pending = s.pending := by unfold State.moveLatest; split <;> rfl

/-! `handOver` -/
@[simp] theorem State.handOver_siu : (s.handOver).siu = s.siu := rfl
@[simp] theorem State.handOver_spm : (s.handOver).spm = s.spm := rfl
@[simp] theorem State.handOver_lsc : (s.handOver).lsc = s.lsc := rfl
@[simp] theorem State.handOver_powered : (s.handOver).powered = s.powered := rfl
@[simp] theorem State.handOver_freeCount : (s.handOver).freeCount = s.freeCount := rfl
@[simp] theorem State.handOver_pending : (s.handOver).pending = s.pending := rfl

/-! `sendPages`: what it does is said by `State.sendPages_serves` -/
@[simp] theorem State.sendPages_siu (l : List AgreementPage) : (s.sendPages l).siu = s.siu := by
  induction l generalizing s with
  | nil => rfl
  | cons p l ih => unfold State.sendPages; split <;> simp [ih]
@[simp] theorem State.sendPages_tsu (l : List AgreementPage) : (s.sendPages l).tsu = s.tsu := by
  induction l generalizing s with
  | nil => rfl
  | cons p l ih => unfold State.sendPages; split <;> simp [ih]
@[simp] theorem State.sendPages_tcl (l : List AgreementPage) : (s.sendPages l).tcl = s.tcl := by
  induction l generalizing s with
  | nil => rfl
  | cons p l ih => unfold State.sendPages; split <;> simp [ih]
@[simp] theorem State.sendPages_peu (l : List AgreementPage) : (s.sendPages l).peu = s.peu := by
  induction l generalizing s with
  | nil => rfl
  | cons p l ih => unfold State.sendPages; split <;> simp [ih]
@[simp] theorem State.sendPages_spm (l : List AgreementPage) : (s.sendPages l).spm = s.spm := by
  induction l generalizing s with
  | nil => rfl
  | cons p l ih => unfold State.sendPages; split <;> simp [ih]
@[simp] theorem State.sendPages_vwc (l : List AgreementPage) : (s.sendPages l).vwc = s.vwc := by
  induction l generalizing s with
  | nil => rfl
  | cons p l ih => unfold State.sendPages; split <;> simp [ih]
@[simp] theorem State.sendPages_dou (l : List AgreementPage) : (s.sendPages l).dou = s.dou := by
  induction l generalizing s with
  | nil => rfl
  | cons p l ih => unfold State.sendPages; split <;> simp [ih]
@[simp] theorem State.sendPages_lsc (l : List AgreementPage) : (s.sendPages l).lsc = s.lsc := by
  induction l generalizing s with
  | nil => rfl
  | cons p l ih => unfold State.sendPages; split <;> simp [ih]
@[simp] theorem State.sendPages_powered (l : List AgreementPage) : (s.sendPages l).powered = s.powered := by
  induction l generalizing s with
  | nil => rfl
  | cons p l ih => unfold State.sendPages; split <;> simp [ih]
@[simp] theorem State.sendPages_freeCount (l : List AgreementPage) : (s.sendPages l).freeCount = s.freeCount := by
  induction l generalizing s with
  | nil => rfl
  | cons p l ih => unfold State.sendPages; split <;> simp [ih]
@[simp] theorem State.sendPages_pending (l : List AgreementPage) : (s.sendPages l).pending = s.pending := by
  induction l generalizing s with
  | nil => rfl
  | cons p l ih => unfold State.sendPages; split <;> simp [ih]

/-! `servePages` -/
@[simp] theorem State.servePages_siu : (s.servePages).siu = s.siu := by simp [State.servePages]
@[simp] theorem State.servePages_tsu : (s.servePages).tsu = s.tsu := by simp [State.servePages]
@[simp] theorem State.servePages_tcl : (s.servePages).tcl = s.tcl := by simp [State.servePages]
@[simp] theorem State.servePages_peu : (s.servePages).peu = s.peu := by simp [State.servePages]
@[simp] theorem State.servePages_spm : (s.servePages).spm = s.spm := by simp [State.servePages]
@[simp] theorem State.servePages_vwc : (s.servePages).vwc = s.vwc := by simp [State.servePages]
@[simp] theorem State.servePages_dou : (s.servePages).dou = s.dou := by simp [State.servePages]
@[simp] theorem State.servePages_lsc : (s.servePages).lsc = s.lsc := by simp [State.servePages]
@[simp] theorem State.servePages_powered : (s.servePages).powered = s.powered := by simp [State.servePages]
@[simp] theorem State.servePages_freeCount : (s.servePages).freeCount = s.freeCount := by simp [State.servePages]
@[simp] theorem State.servePages_pending : (s.servePages).pending = s.pending := by simp [State.servePages]

/-! `sendStart` -/
@[simp] theorem State.sendStart_siu (f : FeedFrame) : (s.sendStart f).siu = s.siu := by unfold State.sendStart; split <;> simp
@[simp] theorem State.sendStart_tsu (f : FeedFrame) : (s.sendStart f).tsu = s.tsu := by unfold State.sendStart; split <;> simp
@[simp] theorem State.sendStart_tcl (f : FeedFrame) : (s.sendStart f).tcl = s.tcl := by unfold State.sendStart; split <;> simp
@[simp] theorem State.sendStart_peu (f : FeedFrame) : (s.sendStart f).peu = s.peu := by unfold State.sendStart; split <;> simp
@[simp] theorem State.sendStart_spm (f : FeedFrame) : (s.sendStart f).spm = s.spm := by unfold State.sendStart; split <;> simp
@[simp] theorem State.sendStart_vwc (f : FeedFrame) : (s.sendStart f).vwc = s.vwc := by unfold State.sendStart; split <;> simp
@[simp] theorem State.sendStart_dou (f : FeedFrame) : (s.sendStart f).dou = s.dou := by unfold State.sendStart; split <;> simp
@[simp] theorem State.sendStart_flc (f : FeedFrame) : (s.sendStart f).flc = s.flc := by unfold State.sendStart; split <;> simp
@[simp] theorem State.sendStart_lsc (f : FeedFrame) : (s.sendStart f).lsc = s.lsc := by unfold State.sendStart; split <;> simp
@[simp] theorem State.sendStart_powered (f : FeedFrame) : (s.sendStart f).powered = s.powered := by unfold State.sendStart; split <;> simp
@[simp] theorem State.sendStart_freeCount (f : FeedFrame) : (s.sendStart f).freeCount = s.freeCount := by unfold State.sendStart; split <;> simp
@[simp] theorem State.sendStart_pending (f : FeedFrame) : (s.sendStart f).pending = s.pending := by unfold State.sendStart; split <;> simp

end Sys2Proof.Machine
end

