-- ==== Sys2Proof/Laws/Commands.lean ====
section
/-! SUPPORT. What an arrival and a command can do, said once: the shape of `arrive` and of `command`, and what the sendings at
the end of an arrival change. -/

namespace Sys2Proof.Machine

/-! ### Sendings -/

theorem PortState.sentFrom_refl (x : PortState) : x.sentFrom x :=
  ⟨rfl, rfl, rfl, rfl, .inl rfl, .inl rfl⟩

theorem PortState.sentFrom_begun (x : PortState) (k : Sending) : x.sentFrom (x.begun k) := by
  cases k
  · exact x.sentFrom_refl
  · exact ⟨rfl, rfl, rfl, rfl, .inr rfl, .inl rfl⟩
  · exact ⟨rfl, rfl, rfl, rfl, .inl rfl, .inr rfl⟩

theorem Cpi.afterSending_refl (c : Cpi) : c.afterSending c :=
  ⟨rfl, PortState.sentFrom_refl _, PortState.sentFrom_refl _, rfl, rfl, rfl, rfl, rfl, rfl⟩

/-- What the start of the Room transmitter changes of the CPI. -/
theorem State.startRoom_sends (s : State) : s.cpi.afterSending s.startRoom.cpi ∧ s.startRoom.cpi.tether = s.cpi.tether := by
  unfold State.startRoom
  split
  · exact ⟨⟨rfl, PortState.sentFrom_begun _ _, PortState.sentFrom_refl _, rfl, rfl, rfl, rfl, rfl, rfl⟩, rfl⟩
  · exact ⟨Cpi.afterSending_refl _, rfl⟩

/-- What the start of a command-channel packet changes of the CPI. -/
theorem State.startTether_sends (s : State) :
    s.cpi.afterSending s.startTether.cpi ∧ s.startTether.cpi.room = s.cpi.room := by
  unfold State.startTether
  split
  · split
    · exact ⟨Cpi.afterSending_refl _, rfl⟩
    · exact ⟨⟨rfl, PortState.sentFrom_refl _, PortState.sentFrom_begun _ _, rfl, rfl, rfl, rfl, rfl, rfl⟩, rfl⟩
  · exact ⟨Cpi.afterSending_refl _, rfl⟩

/-- What the sendings at the end of an arrival change of the CPI. -/
theorem State.transmit_sends (s : State) : s.cpi.afterSending s.transmit.cpi := by
  obtain ⟨⟨a1, a2, a3, a4, a5, a6, a7, a8, a9⟩, a10⟩ := s.startRoom_sends
  obtain ⟨⟨b1, b2, b3, b4, b5, b6, b7, b8, b9⟩, b10⟩ := s.startRoom.startTether_sends
  unfold State.transmit
  refine ⟨b1.trans a1, ?_, ?_, b4.trans a4, b5.trans a5, b6.trans a6, b7.trans a7, b8.trans a8, b9.trans a9⟩
  · rw [b10]; exact a2
  · rw [← a10]; exact b3

/-- The sendings at the end of an arrival put no packet of the feed link controller on the link. -/
theorem State.transmit_sentFeed (s : State) (l : List FeedPacket) : s.transmit.sentFeed l ↔ s.sentFeed l := by
  have room : s.startRoom.emitted.filter Emission.ofFeed = s.emitted.filter Emission.ofFeed := by
    unfold State.startRoom
    split <;> simp [State.emit, Emission.ofFeed]
  have tether : ∀ t : State, t.startTether.emitted.filter Emission.ofFeed = t.emitted.filter Emission.ofFeed := by
    intro t
    unfold State.startTether
    split
    · split <;> simp [State.emit, Emission.ofFeed]
    · rfl
  unfold State.transmit State.sentFeed
  rw [tether, room]

/-- Agreement pages given to the link: those that go, in order, and those that wait; only the last side of the link changes. -/
theorem State.sendPages_serves (s : State) (l : List AgreementPage) :
    ∃ gone rest, l = gone ++ rest ∧ (s.sendPages l).flc = { s.flc with pages := rest } ∧
      (s.sendPages l).emitted = s.emitted ++ gone.map (fun p => .feedPacket (.page p) (FeedPacket.page p).bytes) ∧
      (s.sendPages l).cpi = { s.cpi with lastSide := if gone = [] then s.cpi.lastSide else some .flc } ∧
      (rest ≠ [] → (s.sendPages l).cpi.linkTakesFeed = false) ∧ (s.cpi.linkTakesFeed = true → l ≠ [] → gone ≠ []) := by
  induction l generalizing s with
  | nil => exact ⟨[], [], rfl, rfl, by simp [State.sendPages], rfl, by simp, by simp⟩
  | cons p l ih =>
    by_cases h : s.cpi.linkTakesFeed = true
    · obtain ⟨gone, rest, h1, h2, h3, h4, h5, h6⟩ := ih (s.sendPacket (.page p))
      have e : s.sendPages (p :: l) = (s.sendPacket (.page p)).sendPages l := by simp [State.sendPages, h]
      refine ⟨p :: gone, rest, by simp [h1], ?_, ?_, ?_, ?_, by simp⟩
      · rw [e, h2]; rfl
      · rw [e, h3]; simp [State.sendPacket, State.emit]
      · rw [e, h4]; by_cases hg : gone = [] <;> simp [hg, State.sendPacket, State.emit]
      · rw [e]; exact h5
    · have e : s.sendPages (p :: l) = s.withFlc { s.flc with pages := p :: l } := by simp [State.sendPages, h]
      refine ⟨[], p :: l, rfl, by rw [e]; rfl, by rw [e]; simp, by rw [e]; rfl, ?_, fun g => absurd g h⟩
      rw [e]; intro _; simpa using h

/-! ### The Panel's data-out line -/

@[simp] theorem State.driven_siu (s : State) (p : Port) (c : Cpi) (n : Nat) : (s.driven p c n).siu = s.siu := by cases p <;> rfl
@[simp] theorem State.driven_tsu (s : State) (p : Port) (c : Cpi) (n : Nat) : (s.driven p c n).tsu = s.tsu := by cases p <;> rfl
@[simp] theorem State.driven_tcl (s : State) (p : Port) (c : Cpi) (n : Nat) : (s.driven p c n).tcl = s.tcl := by cases p <;> rfl
@[simp] theorem State.driven_peu (s : State) (p : Port) (c : Cpi) (n : Nat) : (s.driven p c n).peu = s.peu := by cases p <;> rfl
@[simp] theorem State.driven_spm (s : State) (p : Port) (c : Cpi) (n : Nat) : (s.driven p c n).spm = s.spm := by cases p <;> rfl
@[simp] theorem State.driven_vwc (s : State) (p : Port) (c : Cpi) (n : Nat) : (s.driven p c n).vwc = s.vwc := by cases p <;> rfl
@[simp] theorem State.driven_dou (s : State) (p : Port) (c : Cpi) (n : Nat) : (s.driven p c n).dou = s.dou := by cases p <;> rfl
@[simp] theorem State.driven_flc (s : State) (p : Port) (c : Cpi) (n : Nat) : (s.driven p c n).flc = s.flc := by cases p <;> rfl
@[simp] theorem State.driven_lsc (s : State) (p : Port) (c : Cpi) (n : Nat) : (s.driven p c n).lsc = s.lsc := by cases p <;> rfl
@[simp] theorem State.driven_cpi (s : State) (p : Port) (c : Cpi) (n : Nat) : (s.driven p c n).cpi = s.cpi := by cases p <;> rfl
@[simp] theorem State.driven_powered (s : State) (p : Port) (c : Cpi) (n : Nat) : (s.driven p c n).powered = s.powered := by cases p <;> rfl
@[simp] theorem State.driven_freeCount (s : State) (p : Port) (c : Cpi) (n : Nat) : (s.driven p c n).freeCount = s.freeCount := by cases p <;> rfl
@[simp] theorem State.driven_pending (s : State) (p : Port) (c : Cpi) (n : Nat) : (s.driven p c n).pending = s.pending := by cases p <;> rfl

/-- Of what an arrival emits, the data-out line of a COMMAND transaction adds its own bytes alone, on the Panel port alone. -/
theorem State.driven_emitted (s : State) (p : Port) (c : Cpi) (n : Nat) :
    (s.driven p c n).emitted = s.emitted ++ if p = .panel then [.panelDataOut (c.panelDataOut n)] else [] := by
  cases p <;> simp [State.driven, State.emit]

/-- The data-out line is no packet of the feed link controller. -/
theorem State.driven_sentFeed (s : State) (p : Port) (c : Cpi) (n : Nat) (l : List FeedPacket) :
    (s.driven p c n).sentFeed l ↔ s.sentFeed l := by
  cases p <;> simp [State.sentFeed, State.driven, State.emit, Emission.ofFeed]

/-- The sendings at the end of an arrival add to what it emitted. -/
theorem State.mem_transmit (s : State) {e : Emission} (h : e ∈ s.emitted) : e ∈ s.transmit.emitted := by
  have room : e ∈ s.startRoom.emitted := by
    unfold State.startRoom
    split
    · simp [State.emit, h]
    · exact h
  unfold State.transmit State.startTether
  split
  · split
    · exact room
    · simp [State.emit, room]
  · exact room

/-! ### Arrivals -/

/-- An arrival while the part is powered. -/
theorem arrive_powered {s : State} (f : State → State) (h : s.powered = true) :
    arrive s f = .next (f (s.withEmitted [])).transmit := by
  simp [arrive, h]

/-- An arrival while the part is not powered. -/
theorem arrive_unpowered {s : State} (f : State → State) (h : s.powered = false) : arrive s f = .next s := by
  simp [arrive, h]

/-- An arrival that leaves the listed blocks and the CPI as `c` becomes its state, apart from sendings. -/
theorem arrive_becomes {s : State} (f : State → State) (c : Cpi) (bs : List Block) (h : s.powered = true)
    (hu : s.unchanged (f (s.withEmitted [])) bs) (hc : (f (s.withEmitted [])).cpi = c) :
    ∃ t, arrive s f = .next t ∧ t = (f (s.withEmitted [])).transmit ∧ s.becomes t c bs := by
  refine ⟨_, arrive_powered f h, rfl, ?_, ?_⟩
  · simpa [State.unchanged] using hu
  · rw [← hc]; exact State.transmit_sends _

/-! ### Commands -/

theorem Cpi.port_setPort (c : Cpi) (p : Port) (x : PortState) : (c.setPort p x).port p = x := by cases p <;> rfl

theorem Cpi.port_setPort_ne (c : Cpi) {p q : Port} (x : PortState) (h : q ≠ p) : (c.setPort p x).port q = c.port q := by
  cases p <;> cases q <;> first | rfl | exact absurd rfl h

/-- A taken command: the state it leaves. The restarts of the feed link also let the link carry what they have waiting. -/
theorem command_taken {s : State} {h : CmdHeader} (kind : Byte) (args : List Byte) (f : State → State × Answer)
    (ht : s.takes h.port) :
    command kind h args s f = .next
      ((((f (s.withEmitted [])).1.owe h.port
        ((f (s.withEmitted [])).2.reply kind h (f (s.withEmitted [])).1.vwc.gen)).afterRestart kind
          (f (s.withEmitted [])).2).driven h.port s.cpi (args.length + 7)).transmit := by
  have heard : ¬ (h.port = .room ∧ (s.withEmitted []).cpi.roomRx ≠ .hunting) := fun x => x.2 (ht.2.2 x.1)
  have howed : ((s.withEmitted []).cpi.port h.port).owed = none := ht.2.1
  unfold command
  rw [arrive_powered _ ht.1, if_neg heard]
  unfold State.hand
  rw [howed]
  simp [panelWrap, commandBody, halfBytes]

/-- What follows a command of a kind other than FEED_RESTART and RESTART is nothing. -/
theorem State.afterRestart_other (s : State) {kind : Byte} (a : Answer) (h : kind ≠ 32 ∧ kind ≠ 59) : s.afterRestart kind a = s := by
  unfold State.afterRestart
  rw [if_neg]
  rintro ⟨_, h1 | h1⟩
  · exact h.1 h1
  · exact h.2 h1

/-- A refused command is followed by nothing. -/
theorem State.afterRestart_refused (s : State) {kind : Byte} (a : Answer) (h : a.status = .refused) : s.afterRestart kind a = s := by
  simp [State.afterRestart, h]

/-- A taken command, after which nothing waits for the link, whose effect changes only the listed blocks and leaves the CPI as `c`. -/
theorem command_answers {s : State} {h : CmdHeader} {kind : Byte} {args : List Byte} {f : State → State × Answer} {u : State}
    {a : Answer} {c : Cpi} {bs : List Block} (ht : s.takes h.port)
    (hk : ∀ v : State, v.afterRestart kind a = v) (hf : f (s.withEmitted []) = (u, a)) (hu : s.unchanged u bs) (hc : u.cpi = c) :
    ∃ t, command kind h args s f = .next t ∧
      t = ((u.owe h.port (a.reply kind h u.vwc.gen)).driven h.port s.cpi (args.length + 7)).transmit ∧
      s.answers t c kind h a bs := by
  refine ⟨_, by rw [command_taken kind args f ht, hf, hk], rfl, ?_, ?_⟩
  · simpa [State.unchanged] using hu
  · have e : (u.owe h.port (a.reply kind h u.vwc.gen)).cpi = c.answering h.port (a.reply kind h u.vwc.gen) := by
      rw [← hc]; rfl
    simp only [State.transmit_vwc, State.driven_vwc, State.owe_vwc]
    rw [← e, ← State.driven_cpi _ h.port s.cpi (args.length + 7)]
    exact State.transmit_sends _

/-- A taken command that its block refuses. -/
theorem command_refuses {s : State} {h : CmdHeader} {kind : Byte} {args : List Byte} {f : State → State × Answer} {r : Reason}
    (ht : s.takes h.port) (hf : f (s.withEmitted []) = (s.withEmitted [], refuse r)) :
    ∃ t, command kind h args s f = .next t ∧ s.refuses t kind h r := by
  obtain ⟨t, h1, _, h3⟩ := command_answers (kind := kind) (args := args) (c := s.cpi) (bs := []) ht
    (fun v => v.afterRestart_refused _ rfl) hf (by simp [State.unchanged]) (by simp)
  exact ⟨t, h1, h3⟩

/-! ### The taking of bodies -/

/-- The commands that 10 Table 10-7 names do what `works` lists for their kinds, an unknown one is refused (10 R156). -/
theorem exec_command {c : Instr} {kind : Byte} {h : CmdHeader} {args : List Byte} (s : State)
    (hc : asCommand c = some (kind, h, args)) (hk : namedCommand c = true ∨ kind = 0 ∨ 59 < kind.toNat) :
    exec c s = command kind h args s (workOf kind h args) := by
  cases c <;> simp only [asCommand, Option.some.injEq, Prod.mk.injEq, reduceCtorEq] at hc
  case unknownCommand k g l =>
    obtain ⟨rfl, rfl, rfl⟩ := hc
    have e : workOf k = workUnknownCommand := by
      unfold workOf
      split
      · rfl
      · rename_i h0
        have : 59 < k.toNat := by
          rcases hk with hk | hk | hk
          · simp [namedCommand] at hk
          · exact absurd hk h0
          · exact hk
        rw [List.getD_eq_getElem?_getD, List.getElem?_eq_none (by simp [works]; omega)]
        rfl
    rw [e]; rfl
  all_goals (obtain ⟨rfl, rfl, rfl⟩ := hc; rfl)

/-- The bytes of a command's body hold its kind, header and arguments (10 R162). -/
theorem readBody_commandBody (kind : Byte) (h : CmdHeader) (args : List Byte) :
    readBody h.port (commandBody kind h args) = some (kind, h, args) := by
  have e : halfWord (BitVec.ofNat 8 h.expected.toNat) (BitVec.ofNat 8 (h.expected.toNat / 256)) = h.expected := by
    apply BitVec.eq_of_toNat_eq
    have := h.expected.isLt
    simp [halfWord, half]
    omega
  unfold commandBody halfBytes
  simp only [List.cons_append, List.nil_append, readBody, e]
  rfl

end Sys2Proof.Machine
end

