-- ==== Sys2Proof/Laws/Ops.lean ====
section
/-! SUPPORT. One lemma for each shared operation, saying once what it does: the slot pool's operations (04), events, counters and
completion records (10), clamping and encodings of arguments (10), the length check, the glide step (05), the catalogue write's
beginning (08). -/

namespace Sys2Proof.Machine

/-! ### The slot pool (04 R49, R50) -/

section Pool
variable (p : Spm) (n m : Nat)

/-- A slot of a pool in which one slot was changed. -/
theorem slots_modify_getD (l : List Slot) (f : Slot → Slot) :
    (l.modify n f).getD m freeSlot = if m = n ∧ n < l.length then f (l.getD n freeSlot) else l.getD m freeSlot := by
  simp only [List.getD_eq_getElem?_getD, List.getElem?_modify]
  by_cases h : n = m
  · subst h
    by_cases hl : n < l.length
    · simp [hl]
    · simp [hl]
  · have h' : ¬ m = n := fun e => h e.symm
    simp [h, h']

theorem Spm.slot_take (k : HolderKind) (c : SlotContent) (x : Picture) :
    (p.take n k c x).slot m =
      if m = n ∧ n < p.slots.length then { holders := noHolders.put k true, content := c, picture := x } else p.slot m :=
  slots_modify_getD n m p.slots _

theorem Spm.slot_place (k : HolderKind) :
    (p.place n k).slot m =
      if m = n ∧ n < p.slots.length then { p.slot n with holders := (p.slot n).holders.put k true } else p.slot m :=
  slots_modify_getD n m p.slots _

theorem Spm.slot_replace (old new : HolderKind) :
    (p.replace n old new).slot m =
      if m = n ∧ n < p.slots.length then { p.slot n with holders := ((p.slot n).holders.put old false).put new true }
      else p.slot m :=
  slots_modify_getD n m p.slots _

theorem Spm.slot_pin (t : PinTag) :
    (p.pin n t).slot m =
      if m = n ∧ n < p.slots.length then
        { p.slot n with holders := { (p.slot n).holders with pins := (p.slot n).holders.pins ++ [t] } }
      else p.slot m :=
  slots_modify_getD n m p.slots _

theorem Spm.slot_draw (f : Picture → Picture) :
    (p.draw n f).slot m =
      if m = n ∧ n < p.slots.length then { p.slot n with picture := f (p.slot n).picture } else p.slot m :=
  slots_modify_getD n m p.slots _

/-- What a removal leaves on a slot: FREE with a notice when the set is empty, else the same slot with that set. -/
theorem Spm.slot_leave (h : Holders) :
    (p.leave n h).slot m =
      (if m = n ∧ n < p.slots.length then (if h = noHolders then (p.slot n).freed else { p.slot n with holders := h }) else p.slot m) ∧
    (p.leave n h).notices = p.notices + (if h = noHolders then 1 else 0) := by
  unfold Spm.leave Holders.isEmpty
  by_cases hh : h = noHolders
  · simp only [hh, BEq.rfl, if_true]
    exact ⟨slots_modify_getD n m p.slots _, trivial⟩
  · simp only [beq_eq_false_iff_ne.mpr hh, if_neg hh]
    exact ⟨slots_modify_getD n m p.slots _, rfl⟩

@[simp] theorem Slot.freed_freeSlot : freeSlot.freed = freeSlot := rfl

@[simp] theorem Slot.freed_holders (x : Slot) : x.freed.holders = noHolders := rfl

@[simp] theorem Slot.freed_content (x : Slot) : x.freed.content = .nothing := rfl

@[simp] theorem Slot.freed_picture (x : Slot) : x.freed.picture = x.picture := rfl

@[simp] theorem Spm.restarted_slots : p.restarted.slots = p.slots.map Slot.freed := rfl

@[simp] theorem Spm.restarted_notices : p.restarted.notices = 0 := rfl

/-- What a restart leaves on every slot: no holder, no content, the same picture (04 R63). -/
theorem Spm.slot_restarted : p.restarted.slot n = (p.slot n).freed := by
  simp only [Spm.slot, Spm.restarted_slots, List.getD_eq_getElem?_getD, List.getElem?_map]
  cases p.slots[n]? <;> rfl

/-- After a restart every slot counts as FREE (04 R63). -/
theorem Spm.freeCount_restarted : p.restarted.freeCount = p.slots.length := by
  simp [Spm.freeCount, List.countP_map, Function.comp_def, Holders.isEmpty]

@[simp] theorem Spm.length_take (k : HolderKind) (c : SlotContent) (x : Picture) :
    (p.take n k c x).slots.length = p.slots.length := List.length_modify ..

@[simp] theorem Spm.length_place (k : HolderKind) : (p.place n k).slots.length = p.slots.length := List.length_modify ..

@[simp] theorem Spm.length_replace (old new : HolderKind) : (p.replace n old new).slots.length = p.slots.length :=
  List.length_modify ..

@[simp] theorem Spm.length_pin (t : PinTag) : (p.pin n t).slots.length = p.slots.length := List.length_modify ..

@[simp] theorem Spm.length_draw (f : Picture → Picture) : (p.draw n f).slots.length = p.slots.length := List.length_modify ..

@[simp] theorem Spm.length_leave (h : Holders) : (p.leave n h).slots.length = p.slots.length := by
  unfold Spm.leave; split <;> exact List.length_modify ..

@[simp] theorem Spm.length_remove (k : HolderKind) : (p.remove n k).slots.length = p.slots.length := by
  unfold Spm.remove; split <;> simp

@[simp] theorem Spm.length_unpin (t : PinTag) : (p.unpin n t).slots.length = p.slots.length := by
  unfold Spm.unpin; split <;> simp

@[simp] theorem Spm.length_removeKind (k : HolderKind) : (p.removeKind k).slots.length = p.slots.length := by
  unfold Spm.removeKind; split <;> simp

@[simp] theorem Spm.length_removeOld (o t : Option Nat) (k : HolderKind) : (p.removeOld o t k).slots.length = p.slots.length := by
  unfold Spm.removeOld; split
  · rfl
  · split <;> simp

@[simp] theorem Spm.length_move (k : HolderKind) (t : Option Nat) : (p.move k t).slots.length = p.slots.length := by
  unfold Spm.move; split <;> simp

@[simp] theorem Spm.length_succeed (old new : HolderKind) : (p.succeed n old new).slots.length = p.slots.length := by
  unfold Spm.succeed; simp

end Pool

/-! ### Holder sets -/

theorem Holders.has_put (h : Holders) (j k : HolderKind) (b : Bool) :
    (h.put k b).has j = if j = k then b else h.has j := by
  cases j <;> cases k <;> rfl

@[simp] theorem Holders.pins_put (h : Holders) (k : HolderKind) (b : Bool) : (h.put k b).pins = h.pins := by cases k <;> rfl

theorem Holders.put_put (h : Holders) (k : HolderKind) (a b : Bool) : (h.put k a).put k b = h.put k b := by cases k <;> rfl

@[simp] theorem noHolders_has (k : HolderKind) : noHolders.has k = false := by cases k <;> rfl

/-- A slot found to carry a kind carries it, and none before it does. -/
theorem Spm.find_some {p : Spm} {k : HolderKind} {n : Nat} (h : p.find k = some n) :
    n < p.slots.length ∧ (p.slot n).holders.has k = true ∧ ∀ m < n, (p.slot m).holders.has k = false := by
  unfold Spm.find at h
  rw [List.findIdx?_eq_some_iff_getElem] at h
  obtain ⟨hn, hk, hb⟩ := h
  refine ⟨hn, ?_, ?_⟩
  · unfold Spm.slot; rw [List.getD_eq_getElem _ _ hn]; exact hk
  · intro m hm
    unfold Spm.slot; rw [List.getD_eq_getElem _ _ (Nat.lt_trans hm hn)]
    simpa using hb m hm

/-- No slot carries a kind that is not found. -/
theorem Spm.find_none {p : Spm} {k : HolderKind} (h : p.find k = none) (n : Nat) : (p.slot n).holders.has k = false := by
  unfold Spm.find at h
  rw [List.findIdx?_eq_none_iff] at h
  unfold Spm.slot
  by_cases hn : n < p.slots.length
  · rw [List.getD_eq_getElem _ _ hn]; exact h _ (List.getElem_mem hn)
  · rw [List.getD_eq_default _ _ (Nat.le_of_not_lt hn)]; exact noHolders_has k

/-! ### Ports (10 R158, R159) -/

@[simp] theorem Cpi.port_raise (c : Cpi) (e : Event) (q : Port) : (c.raise e).port q = (c.port q).raised e := by cases q <;> rfl

@[simp] theorem Cpi.raise_counters (c : Cpi) (e : Event) : (c.raise e).counters = c.counters := rfl

@[simp] theorem Cpi.raise_roomRx (c : Cpi) (e : Event) : (c.raise e).roomRx = c.roomRx := rfl

@[simp] theorem PortState.raised_owed (x : PortState) (e : Event) : (x.raised e).owed = x.owed := by
  unfold PortState.raised; split <;> rfl

@[simp] theorem PortState.raised_enables (x : PortState) (e : Event) : (x.raised e).enables = x.enables := by
  unfold PortState.raised; split <;> rfl

@[simp] theorem PortState.raised_completions (x : PortState) (e : Event) : (x.raised e).completions = x.completions := by
  unfold PortState.raised; split <;> rfl

@[simp] theorem PortState.give_owed (x : PortState) (r : Completion) : (x.give r).owed = x.owed := by
  unfold PortState.give; split <;> rfl

@[simp] theorem PortState.give_flags (x : PortState) (r : Completion) : (x.give r).flags = x.flags := by
  unfold PortState.give; split <;> rfl

@[simp] theorem Cpi.setPort_same (c : Cpi) (q : Port) : c.setPort q (c.port q) = c := by cases q <;> rfl

@[simp] theorem Cpi.setPort_setPort (c : Cpi) (q : Port) (x y : PortState) : (c.setPort q x).setPort q y = c.setPort q y := by
  cases q <;> rfl

/-- A completion record given leaves the CPI with that record given. -/
theorem State.give_cpi (s : State) (q : Port) (r : Completion) : (s.give q r).cpi = s.cpi.given q r := rfl

/-- A counter's increment changes nothing of the ports but the pending flag of COUNTER_HALF. -/
theorem Cpi.count_port (c : Cpi) (k : Counter) (q : Port) :
    (c.count k).port q = c.port q ∨ (c.count k).port q = (c.port q).raised .counterHalf := by
  unfold Cpi.count
  split
  · dsimp only; split
    · left; cases q <;> rfl
    · right; cases q <;> rfl
  · left; cases q <;> rfl

/-! ### Timers -/

/-- All that an expiry can be: of a stopped timer, from before the timer was started anew, or of the timer as it runs. -/
theorem State.expires_cases (s : State) (timer : Option Timer) (put : Option Timer → State) (effect : State) :
    (timer = none ∧ s.expires timer put effect = s) ∨
    (∃ d n, timer = running d (n + 1) ∧ s.expires timer put effect = put (running d n)) ∨
    (∃ d, timer = running d 0 ∧ s.expires timer put effect = effect) := by
  match timer with
  | none => exact .inl ⟨rfl, rfl⟩
  | some ⟨d, 0⟩ => exact .inr (.inr ⟨d, rfl, rfl⟩)
  | some ⟨d, n + 1⟩ => exact .inr (.inl ⟨d, n, rfl, rfl⟩)

/-- A timer that is started runs, and every expiry that waits is late. -/
@[simp] theorem State.startTimer_eq (s : State) (duration : Nat) (expiry : Instr) :
    s.startTimer duration expiry = running duration (s.pending.count expiry) := rfl

/-! ### Arguments (10 Tables 10-5, 10-7) -/

/-- A completion-wanted byte asks unless it is 0, and a byte above 1 is clamped (05 R70). -/
theorem wantedArg_eq (w : Byte) : wantedArg w = (decide (w ≠ 0), decide (1 < w.toNat)) := by
  have : w = 0 ↔ w.toNat = 0 := ⟨fun h => by simp [h], fun h => BitVec.eq_of_toNat_eq h⟩
  have e : min 1 w.toNat = 1 ↔ w ≠ 0 := by rw [ne_eq, this]; omega
  simp only [wantedArg, clampTop, e]

theorem flagArg_says (w : Byte) : flagSays w (flagArg w).1 (flagArg w).2 := by
  unfold flagSays flagArg
  constructor <;> intro h <;> simp [h]

theorem limit_mem {lo hi : Nat} (h : lo ≤ hi) (x : Nat) : lo ≤ limit lo hi x ∧ limit lo hi x ≤ hi := by
  unfold limit; omega

theorem limitInt_le (hi : Nat) (x : Int) : limitInt hi x ≤ hi := Nat.min_le_left ..

/-- The length check: with a layout that does not fit, BAD_LENGTH and no change; else the command's own effect. -/
theorem parsed_none {α : Type} (f : α → State → State × Answer) (s : State) : parsed none f s = (s, refuse .badLength) := rfl

theorem parsed_some {α : Type} (a : α) (f : α → State → State × Answer) (s : State) : parsed (some a) f s = f a s := rfl

/-! ### The view (05 R78) -/

/-- A glide step stays between the current zoom and the target. -/
theorem glideStep_between (zt zc rate : Nat) :
    min zt zc ≤ glideStep zt zc rate ∧ glideStep zt zc rate ≤ max zt zc := by
  unfold glideStep; split_ifs <;> omega

/-! ### The catalogue (08 R131) -/

/-- A catalogue write begins with the next sequence number, where there is one. -/
theorem State.beginWrite_some (s : State) (owner : WriteOwner) (h : s.lsc.catSeq ≠ 0xFFFFFFFF) :
    s.beginWrite owner = some (s.withLsc (s.lsc.startsWrite owner)) := by
  unfold State.beginWrite State.attempt
  rw [if_neg h]
  rfl

theorem State.beginWrite_none (s : State) (owner : WriteOwner) (h : s.lsc.catSeq = 0xFFFFFFFF) : s.beginWrite owner = none := by
  unfold State.beginWrite State.attempt
  rw [if_pos h]

/-- The length of a catalogue image is the one that its preamble states (08 R130). -/
theorem CatalogueImage.bytes_length (i : CatalogueImage) : i.bytes.length = Config.catalogue.parts.imageLength i := by
  have h := Config.catalogue.lengthWidth (Config.catalogue.parts.imageLength i) 0
  simp only [CatalogueImage.bytes, CatalogueParts.image, CatalogueParts.covered, CatalogueParts.preamble, CatalogueParts.imageLength,
    List.length_append, Config.catalogue.crcWide] at h ⊢
  omega

/-! ### The links (10 R154, R155) -/

/-- The receiver takes bytes piece by piece. -/
theorem RoomReceiver.takeAll_append (r : RoomReceiver) (a b : List Byte) :
    r.takeAll (a ++ b) = (((r.takeAll a).1.takeAll b).1, (r.takeAll a).2 ++ ((r.takeAll a).1.takeAll b).2) := by
  induction a generalizing r with
  | nil => simp [RoomReceiver.takeAll]
  | cons x a ih => simp [RoomReceiver.takeAll, ih]

/-- The receiver reads a packet as it was made. -/
theorem readPacket_tetherWrap (kind : Byte) (cut : Bool) (payload : List Byte) (h : payload.length ≤ 131070) :
    readPacket (tetherWrap kind cut payload) = some { kind := kind, cut := cut, payload := payload } := by
  have hn : (payload.length + 1) / 2 < 65536 := by omega
  have hh : half (BitVec.ofNat 8 ((payload.length + 1) / 2)) (BitVec.ofNat 8 ((payload.length + 1) / 2 / 256)) =
      (payload.length + 1) / 2 := by
    simp only [half, BitVec.toNat_ofNat]; omega
  have bits : ∀ x : BitVec 6, ∀ o c : Bool,
      (x ++ BitVec.ofBool o ++ BitVec.ofBool c : Byte).getLsbD 0 = c ∧
      (x ++ BitVec.ofBool o ++ BitVec.ofBool c : Byte).getLsbD 1 = o := by
    intro x o c
    refine ⟨?_, ?_⟩ <;> repeat rw [BitVec.getLsbD_append]
    all_goals cases o <;> cases c <;> rfl
  simp only [tetherWrap, halfBytes, List.cons_append, List.nil_append, readPacket, hh, (bits _ _ _).1, (bits _ _ _).2]
  by_cases ho : payload.length % 2 = 1
  · simp [ho]; omega
  · simp [ho]; omega

/-- When the tether link takes a packet of the feed link controller. -/
theorem Cpi.linkTakesFeed_iff (c : Cpi) : c.linkTakesFeed = true ↔ c.linkFree := by
  have h : c.tether.choice = none ↔ c.tether.owed = none ∧ c.tether.completions = [] ∧ c.tether.flags = 0 := by
    unfold PortState.choice
    cases c.tether.owed <;> cases c.tether.completions <;> by_cases hf : c.tether.flags = 0 <;> simp [hf]
  simp only [Cpi.linkTakesFeed, Cpi.linkFree, Bool.and_eq_true, Bool.or_eq_true, Option.isNone_iff_eq_none, beq_iff_eq, h]
  exact and_congr_right fun _ => or_comm

/-! ### The page of a job, and writes without a sequence number -/

/-- The lesson that holds a page is the one that the model finds by its serial. -/
theorem holdsPage_iff (ls : List LessonRecord) (k : Nat) (q : Half) : holdsPage ls k q ↔ holderOf ls q = some k := by
  have any : ∀ x : LessonRecord, (∃ r ∈ x.pages, r.serial = q) ↔ (x.pages.any (·.serial == q)) = true := fun x => by simp
  unfold holdsPage holderOf
  rw [List.findIdx?_eq_some_iff_getElem]
  constructor
  · rintro ⟨⟨x, hx, hr⟩, before⟩
    obtain ⟨hk, rfl⟩ := List.getElem?_eq_some_iff.mp hx
    refine ⟨hk, (any _).mp hr, fun m hm => ?_⟩
    have := before m _ hm (List.getElem?_eq_getElem (hm.trans hk))
    simpa using this
  · rintro ⟨hk, hr, before⟩
    refine ⟨⟨_, List.getElem?_eq_getElem hk, (any _).mpr hr⟩, fun m x hm hx => ?_⟩
    obtain ⟨hm', rfl⟩ := List.getElem?_eq_some_iff.mp hx
    simpa using before m hm
/-- The record that a serial finds lies in the lesson that holds the page. -/
theorem Lsc.lessonOf_of_holds (l : Lsc) {k : Nat} {q : Half} (h : holdsPage l.lessons k q) : l.lessonOf q = k := by
  simp [Lsc.lessonOf, (holdsPage_iff _ _ _).mp h]

/-- What a job's command names. -/
theorem JobTask.named_eq (t : JobTask) : t.named = (t.code, t.lesson) := by cases t <;> rfl

/-- A job's catalogue write with no sequence number left makes no attempt and has failed (08 R131). -/
theorem State.jobWrite_spent (s : State) (j : Job) (h : s.lsc.catSeq = 0xFFFFFFFF) :
    s.jobWrite j = (((s.setHead j).readOnly.writeLost j).1, some ((s.setHead j).readOnly.writeLost j).2) := by
  have e : (s.setHead j).beginWrite .job = none := (s.setHead j).beginWrite_none .job h
  simp [State.jobWrite, e]

/-- The Panel port's wrappings are read as what they wrap (10 R153, Table 10-6). -/
theorem readTransaction_wraps (body : List Byte) (n : Nat) :
    readTransaction (panelWrap body) = .command body ∧ readTransaction (panelRead n) = .read n := by
  refine ⟨rfl, ?_⟩
  simp [readTransaction, panelRead]

end Sys2Proof.Machine
end

