-- ==== Sys2Proof/Tests/Slice0.lean ====
section
/-! SUPPORT. The model's own tests: terms that the well-formedness checks refuse, the manual's worked examples, one or two steps
for each kind of arrival, and for every statement a state and operands that meet its hypotheses. -/

namespace Sys2Proof.Tests

open Sys2Proof.Machine

/-! ### Helpers -/

/-- The state after an arrival. -/
def after (c : Instr) (s : State) : State :=
  match exec c s with
  | .next t => t
  | .fault _ => s
  | .refused _ => s

/-- A command header from the Panel port with marker 7 and no expected generation. -/
def hp : CmdHeader := { port := .panel, marker := 7, flags := 0, expected := 0 }

/-- The same from the Room port with marker 50. -/
def hr : CmdHeader := { port := .room, marker := 50, flags := 0, expected := 0 }

/-- The store of a blank part after its recovery. -/
def readyLsc : Lsc := { resetLsc with mode := .ready, activity := .idle, flash := none }

/-- A part whose recovery is over. -/
def ready : State := { State.reset with lsc := readyLsc, flc := { resetFlc with started := true } }

/-- The status and reason of the reply owed at a port. -/
def answerAt (s : State) (p : Port) : Option (Status × Reason × Bool) :=
  (s.cpi.port p).owed.map fun r => (r.status, r.reason, r.clamped)

/-- The holder kinds of slot n that a list names, and its content. -/
def slotShows (s : State) (n : Nat) (h : Holders) (c : SlotContent) : Bool :=
  (s.spm.slot n).holders == h && (s.spm.slot n).content == c

/-- The packets of the feed link controller that the last arrival put on the tether link. -/
def fed (s : State) : List FeedPacket :=
  s.emitted.filterMap fun
    | .feedPacket p _ => some p
    | _ => none

/-- The state after so many steps. -/
def steps : Nat → State → State
  | 0, s => s
  | n + 1, s =>
    match step s with
    | .next t => steps n t
    | .fault _ => s
    | .refused _ => s

/-! ### Well-formedness: a term that each check refuses -/

/-- 08 R123: a page that is read has 2048 bytes. -/
theorem test_ill_formed_page : (Instr.flashOperationComplete (.pass [0])).wellFormed = false := by decide

/-- 10 R154: a Room body has at most 2048 bytes, so at most 2042 bytes of arguments. -/
theorem test_ill_formed_room_body : (Instr.nameLesson hr (List.replicate 2043 0)).wellFormed = false := by decide +kernel

theorem test_well_formed_room_body : (Instr.nameLesson hr (List.replicate 2042 0)).wellFormed = true := by decide +kernel

/-- 10 Table 10-6: a tether body has at most 131070 bytes. -/
theorem test_ill_formed_tether_body : bodyFits { hp with port := .tether } (List.replicate 131065 0) = false := by
  simp only [bodyFits, List.length_replicate]; decide

/-- 10 R153: a READ transaction begins with its kind byte. -/
theorem test_ill_formed_panel_read :
    (Instr.panelReadTransaction []).wellFormed = false ∧ (Instr.panelReadTransaction [1]).wellFormed = false ∧
    (Instr.panelReadTransaction [2]).wellFormed = true := by decide

/-- 10 R154: a dropped Room frame has at least its start byte. -/
theorem test_ill_formed_room_drop : (Instr.roomFrameDropped []).wellFormed = false := by decide

/-- 10 R155, Table 10-6: kind 9 belongs to the feed link controller, kind 2 to neither; a COMMAND packet with a whole command body is no
discarded packet; a packet of one word has a whole word of payload. -/
theorem test_ill_formed_tether_discards :
    (Instr.tetherPacketDiscarded [0, 9, 0, 0] []).wellFormed = false ∧ (Instr.tetherPacketDiscarded [0, 2, 0, 0] []).wellFormed = true ∧
    (Instr.tetherPacketDiscarded [0, 1, 3, 0] [1, 11, 0, 0, 0, 0]).wellFormed = false ∧
    (Instr.tetherPacketDiscarded [2, 1, 3, 0] [1, 11, 0, 0, 0, 0]).wellFormed = true ∧
    (Instr.tetherPacketDiscarded [0, 2, 1, 0] [7]).wellFormed = false := by decide

/-- 10 Table 10-7: kind 59 is RESTART. -/
theorem test_ill_formed_unknown_command :
    (Instr.unknownCommand 59 hp []).wellFormed = false ∧ (Instr.unknownCommand 60 hp []).wellFormed = true := by decide

/-- The table gives no row any bits. -/
theorem test_no_word_is_a_command : decodeTableWord 16 0x1234 = none := rfl

/-- 10 Tables 10-4, 10-7: a body of type 1, kind 3, marker 7, no flags, no expected generation, and PAN's four argument bytes. -/
theorem test_body_spells_command :
    decodeBody .panel [1, 3, 7, 0, 0, 0, 5, 0, 6, 0] = some (.pan hp [5, 0, 6, 0]) ∧
    decodeBody .tether [1, 60, 7, 1, 3, 2] = some (.unknownCommand 60 ⟨.tether, 7, 1, 0x0203⟩ []) ∧
    decodeBody .room [2, 3, 7, 0, 0, 0] = none ∧ decodeBody .room [1, 3, 7, 0, 0] = none := by decide +kernel

/-! ### Worked examples of the manual -/

/-- 01, the two tiles: M = 800, W = 840, E = 23, signature 3223; the corner's Ws is 852, the interior tile's 871. -/
theorem test_example_tiles :
    signature 800 23 = 3223 ∧ smoothedWhite ([840, 870] ++ List.replicate 58 0 ++ [847]) 0 = 852 ∧
    smoothedWhite (List.replicate 1170 0 ++ [760] ++ List.replicate 58 0 ++ [880, 900, 910] ++ List.replicate 58 0 ++ [907]) 1230 = 871 ∧
    ({ sum := 3276800, subs := List.replicate 8 (840 * 256) ++ List.replicate 8 (760 * 256), edges := 1530 } : TileAcc).mean = 800 ∧
    ({ sum := 3276800, subs := List.replicate 8 (840 * 256) ++ List.replicate 8 (760 * 256), edges := 1530 } : TileAcc).white = 840 ∧
    ({ sum := 3276800, subs := [], edges := 1530 } : TileAcc).edge = 23 := by decide +kernel

/-- 02 Tables 2-3 and 2-4: tiles A to E through the factory table, and through three entries put before it. -/
theorem test_example_classifier :
    [3223, 200, 3590, 1300, 2058].map Config.factoryClassifier.decision =
      [⟨.p1, true⟩, ⟨.pass, false⟩, ⟨.p1, false⟩, ⟨.p2, false⟩, ⟨.p1, true⟩] ∧
    [3223, 200, 3590, 1300, 2058].map ({ Config.factoryClassifier with
      entries := [⟨true, .range, 3200, 3263, .p3, true⟩, ⟨true, .pair, 1300, 1301, .pass, false⟩,
                  ⟨true, .range, 4000, 3000, .p2, false⟩] ++ Config.factoryClassifier.entries } : Classifier).decision =
      [⟨.p3, true⟩, ⟨.pass, false⟩, ⟨.p1, false⟩, ⟨.pass, false⟩, ⟨.p1, true⟩] := by decide

/-- A tile record that is marked as text. -/
def marked : TileRecord :=
  { m := 0, w := 0, e := 0, ws := 0, sig := 0, action := .p1, text := true }

/-- 02 Table 2-5, frame 7: tiles (12,5), (40,6), (45,18), (20,30), (13,31) give columns 12..45, rows 5..31. Three marked tiles
fall short of a quorum of 4, four do not. -/
theorem test_example_page_box :
    boxAround [312, 400, 1125, 1820, 1873] = some { c0 := 12, c1 := 45, r0 := 5, r1 := 31 } ∧
    ({ c0 := 12, c1 := 45, r0 := 5, r1 := 31 } : TileBox).rect = { x0 := 768, y0 := 320, w := 2176, h := 1728 } ∧
    formBox [marked, marked, marked] 4 = none ∧
    formBox [marked, marked, marked, marked] 4 = some { c0 := 0, c1 := 3, r0 := 0, r1 := 0 } := by
  decide

/-- 03 Tables 3-4 to 3-8: whitened value and detail step of five pixels, with the factory profiles. -/
theorem test_example_pixels :
    let p := fun k : Nat => Config.factoryProfiles.getD k ⟨0, 0, 0, 0⟩
    (whitened (p 1) 900 600, detailStep (p 1) 40) = (661, 64) ∧ (whitened (p 3) 1000 100, detailStep (p 3) (-80)) = (123, -96) ∧
    (whitened (p 3) 40 60, detailStep (p 3) (-30)) = (1023, -54) ∧ (whitened (p 2) 700 20, detailStep (p 2) (-40)) = (20, -27) ∧
    (whitened (p 1) 1010 1000, detailStep (p 1) 50) = (1006, 64) := by decide

/-- 03 Table 3-9: coring and truncation near zero. -/
theorem test_example_small_details :
    let p := fun k : Nat => Config.factoryProfiles.getD k ⟨0, 0, 0, 0⟩
    [detailStep (p 1) 8, detailStep (p 1) 9, detailStep (p 2) 7, detailStep (p 2) (-7)] = [0, 2, 2, -2] := by decide

/-- 05 Tables 5-5 to 5-7: the window at 2x, at 3x, and in SPLIT layout. -/
theorem test_example_windows :
    windowOf 2 .single 512 3700 200 =
      { pw := 1920, ph := 1080, baseW := 3840, baseH := 2160, ww := 1920, wh := 1080, x0 := 1920, y0 := 0, cx := 2880, cy := 540,
        sx := 65536, sy := 65536 } ∧
    windowOf 2 .single 768 3700 200 =
      { pw := 1920, ph := 1080, baseW := 3840, baseH := 2160, ww := 1280, wh := 720, x0 := 2560, y0 := 0, cx := 3200, cy := 360,
        sx := 43690, sy := 43690 } ∧
    windowOf 2 .split 256 1920 1440 =
      { pw := 960, ph := 1080, baseW := 2560, baseH := 2880, ww := 2560, wh := 2880, x0 := 640, y0 := 0, cx := 1920, cy := 1440,
        sx := 174762, sy := 174762 } := by decide +kernel

/-- 06 Table 6-8: the window in mode 0, SPLIT layout. -/
theorem test_example_restart_window :
    windowOf 0 .split 512 3700 200 =
      { pw := 512, ph := 768, baseW := 1920, baseH := 2880, ww := 960, wh := 1440, x0 := 2880, y0 := 0, cx := 3360, cy := 720,
        sx := 122880, sy := 122880 } := by decide +kernel

/-- 05, two output pixels, and 06, one pixel of a fitted page: 571, 504, 864. -/
theorem test_example_bilinear :
    let live := fun x y : Nat => if y = 0 then (if x = 2560 then 400 else 656) else (if x = 2560 then 300 else 556)
    let page := fun x y : Nat => if y = 1 then (if x = 1 then 800 else 960) else (if x = 1 then 720 else 880)
    bilinear live 3839 2879 (2560 * 65536 + 43690) 0 = 571 ∧ bilinear live 3839 2879 (2560 * 65536 + 43690) 43690 = 504 ∧
    bilinear page 1919 1439 118038 117964 = 864 := by decide

/-- 05 Table 5-8: FIT_PAGE on columns 12..45, rows 5..31, and on a single tile. -/
theorem test_example_fit :
    fitTarget (windowOf 2 .single 256 1920 1440) (some { c0 := 12, c1 := 45, r0 := 5, r1 := 31 }) = (297, 1856, 1184, false) ∧
    (fitTarget (windowOf 2 .single 256 1920 1440) (some { c0 := 30, c1 := 30, r0 := 20, r1 := 20 })).1 = 2880 ∧
    fitTarget (windowOf 2 .single 256 1920 1440) none = (256, 1920, 1440, true) := by decide

/-- 05 Table 5-9: the widths of the window along the glide. -/
theorem test_example_glide :
    [glideStep 1024 256 100, glideStep 1024 956 100, glideStep 512 656 100, glideStep 512 556 100] = [356, 1024, 556, 512] ∧
    [356, 456, 556, 656, 512].map (fun zc => (windowOf 2 .single zc 1920 1440).ww) = [2761, 2155, 1768, 1498, 1920] := by decide

/-- 06 Table 6-6: the fit of a page in mode 1, SINGLE, and in mode 0, SPLIT. 09 Table 9-3: a page box fitted into a page. -/
theorem test_example_fits :
    fitInto 1920 1440 1280 800 = { fw := 1066, fh := 800, left := 107, top := 0, sx := 118038, sy := 117964 } ∧
    ((fitInto 1920 1440 512 768).fw, (fitInto 1920 1440 512 768).fh, (fitInto 1920 1440 512 768).top) = (512, 384, 192) ∧
    fitInto 2176 1728 1920 1440 = { fw := 1813, fh := 1440, left := 53, top := 0, sx := 78657, sy := 78643 } ∧
    fitInto 1920 1080 1920 1440 = { fw := 1920, fh := 1080, left := 0, top := 180, sx := 65536, sy := 65536 } := by decide

/-- 07, an agreement with notes: the source rectangles of the feed. -/
theorem test_example_feed_source :
    feedSource { x0 := 2560, y0 := 0, w := 1280, h := 720 } 1920 1080 = { x0 := 2560, y0 := 0, w := 1280, h := 720 } ∧
    feedSource { x0 := 640, y0 := 0, w := 2560, h := 2880 } 1920 1080 = { x0 := 640, y0 := 720, w := 2560, h := 1440 } := by decide

/-- 08 R128: the check value of the CRC-32 over the bytes 31..39 hexadecimal. -/
theorem test_crc_check_value : crc32 [0x31, 0x32, 0x33, 0x34, 0x35, 0x36, 0x37, 0x38, 0x39] = 0xCBF43926 := by decide +kernel

/-- 09 Table 9-5: place 7 lies in blocks 288..319, its page 913 in block 302 at page 17. -/
theorem test_example_place :
    (placeBlock 7 0, placeBlock 7 2047, placeBlock 7 913, placePage 913) = (288, 319, 302, 17) := by decide

/-- A page record. -/
def pageRec (serial : Half) (place : Nat) (state : PageState) : PageRecord :=
  { serial := serial, place := place, state := state, crop := .full, frame := 1, cx := 1920, cy := 1440, zc := 256, crc := none }

/-- The lesson table with lesson 3 OPEN and some pages. -/
def lessonThree (pages : List PageRecord) : List LessonRecord :=
  Config.blankLessons.set 3 { state := .opened, name := [], kept := false, lock := false, pages := pages }

theorem test_serials :
    freeSerial (lessonThree [pageRec 65535 0 .kept, pageRec 0 1 .kept]) 65535 = 1 ∧
    freePlace (lessonThree [pageRec 1 0 .kept, pageRec 2 2 .kept]) [1] = some 3 := by decide +kernel

/-- 10, two windows: the rights of the Room port on lessons 0, 5 and 9. -/
theorem test_example_reach :
    let c := { resetCpi with reachRoom := [⟨true, 4, 28, true, true, false⟩, ⟨true, 0, 31, false, false, true⟩,
                                           Config.closedWindow, Config.closedWindow] }
    [0, 5, 9].map (fun l => (c.allows .room l .toShow, c.allows .room l .toSave, c.allows .room l .toExport)) =
      [(false, false, true), (true, true, false), (false, false, false)] := by decide

/-- 10 Table 10-6: a Room frame with a one-byte body; its length, body and checksum sum to 0. -/
theorem test_room_frame : roomWrap [4] = [0xC3, 1, 0, 4, 0xFB] := by decide

/-! ### Arrivals -/

/-- 01 Table 1-4, rows 2, 5 and 8: the frame start takes slot 0, a line of 3838 pixels breaks the frame, the timer's expiry
brings NO_SIGNAL. -/
theorem test_frame_start_takes_slot :
    let t := after .frameStart ready
    (t.siu.intake, t.siu.frameNumber, t.siu.timer, t.spm.freeCount) = (.receiving, 1, running 500 0, 7) ∧
    slotShows t 0 { noHolders with intake := true } (.liveFrame 1) = true := by decide +kernel

theorem test_short_line_breaks_frame :
    let t := after (.lineEnd [⟨0, 0⟩]) (after .frameStart ready)
    (t.siu.intake, t.spm.freeCount, t.spm.notices, t.cpi.counters.getD 2 0) = (.discarding, 8, 1, 1) ∧
    t.cpi.panel.flags = 0 ∧ (after .frameEnd t).siu.intake = .waiting := by decide +kernel

theorem test_signal_lost_and_back :
    let t := after .noSignalTimerExpiry (after .frameStart ready)
    (t.siu.intake, t.siu.timer, t.tsu.building) = (.noSignal, none, none) ∧
    (after .frameStart t).siu.intake = .receiving := by decide +kernel

/-- 01 R9: an expiry that arrives together with a frame start and is taken after it does not happen; one that comes later does. -/
theorem test_late_expiry_does_not_happen :
    let t := after .frameStart (ready.withPending [.noSignalTimerExpiry])
    let u := after .noSignalTimerExpiry t
    t.siu.timer = running 500 1 ∧ (u.siu.intake, u.siu.timer, u.cpi) = (.receiving, running 500 0, t.cpi) ∧
    (after .noSignalTimerExpiry u).siu.intake = .noSignal := by decide +kernel

/-- 04 R50, R60: a slot-freed notice without a waiting job is used up. -/
theorem test_slot_freed_notice :
    (after .slotFreedNotice (ready.withSpm { resetSpm with notices := 2 })).spm.notices = 1 := by decide +kernel

/-- 06 R93: without a LATEST slot the live pane is grey; a raster that is STOPPED starts no frame. -/
theorem test_output_frame_start :
    let s := ready.withDou { resetDou with raster := .restarting }
    (after .outputFrameStart s).dou = { resetDou with raster := .running, left := some (.fill .grey) } ∧
    (after .outputFrameStart ready).dou = resetDou := by decide +kernel

/-- 06 R90: an OUTPUT_RESTART taken first leaves RESTARTING with empty latches, and the waiting output frame start does not happen; an
output frame start that comes later does. -/
theorem test_output_restart_taken_first :
    let s := (ready.withDou { resetDou with raster := .running, left := some (.fill .grey) }).withPending
      [.outputRestart hp [], .outputFrameStart]
    (steps 2 s).dou = { resetDou with raster := .restarting } ∧
    (steps 1 ((steps 2 s).withPending [.outputFrameStart])).dou.raster = .running := by decide +kernel

/-- 06 Tables 6-1, 6-2, R92: black without sync while STOPPED, nothing beyond the raster. -/
theorem test_raster_pins :
    ready.rasterPins 0 0 = some ⟨false, 0, 512, 512⟩ ∧
    (let s := ready.withDou { resetDou with raster := .running, left := some (.fill .white) }
     s.rasterPins 1919 1079 = some ⟨true, 1023, 512, 512⟩ ∧ s.rasterPins 1919 1080 = none ∧ s.rasterPins 1920 0 = none) := by
  decide +kernel

/-- The LATEST slot is slot 2 with frame 120, as in 09 Table 9-5. -/
def latestSpm : Spm :=
  { slots := (List.replicate 8 freeSlot).set 2 { holders := { noHolders with latest := true }, content := .liveFrame 120, picture := .live [] },
    notices := 0 }

def withLatest : State := ready.withSpm latestSpm

/-- 04 Table 4-5, rows 12, 28 and 29: FREEZE holds the LATEST slot, UNFREEZE lets it go. -/
theorem test_freeze_and_unfreeze :
    let t := after (.freeze hp []) withLatest
    (t.vwc.freeze, t.vwc.gen, answerAt t .panel) = (some 2, 1, some (.done, .noReason, false)) ∧
    slotShows t 2 { noHolders with latest := true, freeze := true } (.liveFrame 120) = true ∧
    (after (.unfreeze hr []) t).vwc.freeze = none ∧ (after (.unfreeze hr []) t).spm = latestSpm := by decide +kernel

/-- 05 R82: without a LATEST slot FREEZE is refused NO_FRAME. 05 R69: a wrong expected generation is refused STALE. -/
theorem test_view_refusals :
    answerAt (after (.freeze hp []) ready) .panel = some (.refused, .noFrame, false) ∧
    answerAt (after (.pan { hp with flags := 1, expected := 3 } [0, 0, 0, 0]) ready) .panel = some (.refused, .stale, false) := by
  decide +kernel

/-- 05 Table 5-9, row 1: ZOOM to 1024 with completion wanted. 05 R80: PAN by -1921 is limited to 0. -/
theorem test_zoom_and_pan :
    let t := after (.zoom hp [0x00, 0x04, 1]) ready
    let u := after (.pan hp [0x7F, 0xF8, 1, 0]) ready
    t.vwc.zt = 1024 ∧ t.vwc.zc = 256 ∧ t.vwc.watch = some ⟨.panel, 7, .zoom, 1024⟩ ∧
    answerAt t .panel = some (.accepted, .noReason, false) ∧ u.vwc.tx = 0 ∧ u.vwc.ty = 1441 ∧
    answerAt u .panel = some (.done, .noReason, true) := by decide +kernel

/-- 05 R70: a completion-wanted byte of 2 is clamped to 1, and the reply reports it. -/
theorem test_wanted_is_clamped :
    let t := after (.zoomStep hp [0, 0, 2]) ready
    t.vwc.watch = some ⟨.panel, 7, .zoomStep, 256⟩ ∧ answerAt t .panel = some (.accepted, .noReason, true) := by decide +kernel

/-- 05 Table 5-9, row 6: a ZOOM_STEP of -512 from the Room ends the Panel's watch as SUPERSEDED. -/
theorem test_zoom_step_supersedes :
    let s := ready.withVwc { resetVwc with zt := 1024, zc := 656, watch := some ⟨.panel, 5, .zoom, 1024⟩ }
    let t := after (.zoomStep hr [0x00, 0xFE, 0]) s
    (t.vwc.zt, t.vwc.zc, t.vwc.watch) = (512, 656, none) ∧
    t.cpi.panel.completions = [⟨5, 1, .superseded, .noReason, none, none, 0⟩] := by decide +kernel

/-- 05 R77, R80, R81, R84, R85: the other view commands. -/
theorem test_view_commands :
    ((after (.setGlide hp [0, 1]) ready).vwc.glide, answerAt (after (.setGlide hp [0, 1]) ready) .panel) =
      (255, some (.done, .noReason, true)) ∧
    (after (.centre hp [0x74, 0x0E, 0xC8, 0]) ready).vwc.tx = 3700 ∧ (after (.layout hp [1]) ready).vwc.layout = .split ∧
    (after (.layout hp [1]) ready).vwc.window.ww = 2560 ∧ (after (.fitPage hp []) ready).vwc.zt = 256 ∧
    (after (.showLive hp []) ready).vwc.gen = 1 := by decide +kernel

/-- 06 R88, R89, R98: the output commands; OUTPUT_RESTART is refused BUSY while the raster is STOPPED. -/
theorem test_output_commands :
    (after (.setOutputMode hp [4]) ready).dou.pendingMode = 3 ∧ (after (.blank hp [1]) ready).dou.blank = true ∧
    answerAt (after (.outputRestart hp []) ready) .panel = some (.refused, .busy, false) ∧
    (after (.outputRestart hp []) (ready.withDou { resetDou with raster := .running, pendingMode := 0 })).dou =
      { resetDou with mode := 0, pendingMode := 0, raster := .restarting } := by decide +kernel

/-- 01 R11; 02 R27 to R30; 03 R44, R45: writing the settings, with limits. -/
theorem test_settings_commands :
    (after (.setEdgeThreshold hp [0, 1]) ready).tsu.threshold = 255 ∧
    (after (.setTextQuorum hp [0, 0]) ready).tcl.table.quorum = 1 ∧
    (after (.setDefaultAction hp [9, 1]) ready).tcl.table.fallback = ⟨.pass, true⟩ ∧
    ((after (.setEntryEnable hp [40, 1]) ready).tcl.table.entries[31]?).map (·.enabled) = some true ∧
    (after (.setClassifierEntry hp [0, 1, 0, 0x80, 0x0C, 0xBF, 0x0C, 3, 1]) ready).tcl.table.entries[0]? =
      some ⟨true, .range, 3200, 3263, .p3, true⟩ := by decide +kernel

theorem test_list_commands :
    ((after (.setClassifierEntries hp [31, 1, 1, 1, 0, 2, 0, 0, 0, 1, 1, 1, 0, 2, 0, 0, 0]) ready).tcl.table.entries[31]?,
      answerAt (after (.setClassifierEntries hp [31, 1, 1, 1, 0, 2, 0, 0, 0, 1, 1, 1, 0, 2, 0, 0, 0]) ready) .panel) =
      (some ⟨true, .pair, 1, 2, .p0, false⟩, some (.done, .noReason, true)) ∧
    (after (.setProfile hp [1, 40, 8, 17, 64, 0]) ready).peu.profiles[1]? = some ⟨40, 8, 16, 64⟩ ∧
    (after (.setProfiles hp (List.replicate 20 1)) ready).peu.profiles = List.replicate 4 ⟨1, 1, 1, 255⟩ := by decide +kernel

/-- 07 R103, R113; 09 R143: the feed's settings and the retry limit. -/
theorem test_feed_settings :
    (after (.setFeedNotes hp [2, 0, 4, 0]) ready).flc.notes = [.rateLimit 1, .exportAble] ∧
    (after (.setFeedMarks hp [65, 64, 0]) ready).flc.marks = ⟨64, 63, 1⟩ ∧
    (after (.setPlaceRetryLimit hp [4]) ready).lsc.retryLimit = 3 ∧
    answerAt (after (.setFeedNotes hp (List.replicate 10 1)) ready) .panel = some (.refused, .badLength, false) := by decide +kernel

/-- 07 Table 7-5, rows 1 to 4: the agreement of the worked example. -/
def noted : State := after (.feedRestart hp []) (ready.withFlc { ready.flc with notes := [.exportAble] })

def bridgeOffer (ack : Bool) : BaseOffer := { formats := 0x17, nextPage := true, ack := ack, fault := .noFault, restart := false }

theorem test_base_exchange :
    let t := after (.baseOffer (bridgeOffer true)) (after (.baseOffer (bridgeOffer false)) noted)
    (noted.flc.agreement, fed noted) = (.offering, [.page (.base ⟨0xFF, true, false, .noFault, false⟩)]) ∧
    (after (.baseOffer (bridgeOffer false)) noted).flc.agreement = .ackSeen ∧
    (t.flc.agreement, fed t) = (.noteExchange, [.page (.note ⟨false, true, .message, false, true, 4⟩)]) := by decide +kernel

theorem test_note_exchange :
    let s := after (.baseOffer (bridgeOffer true)) (after (.baseOffer (bridgeOffer false)) noted)
    let t := after (.notePage ⟨true, true, .message, true, true, 3⟩) s
    let u := after (.notePage ⟨true, true, .message, true, false, 2⟩) t
    let v := after (.notePage ⟨false, true, .plain, true, true, 20⟩) u
    (t.flc.cropAgreed, t.flc.exportAgreed, fed t) = (true, true, [.page (.note ⟨false, true, .message, true, false, 1⟩)]) ∧
    (v.flc.agreement, v.flc.result) = (.feedUp, some ⟨4, 20, true, true⟩) := by decide +kernel

/-- 07 R108: the page that answers a base offer starts the page timer anew, so an expiry taken after the offer does not happen. -/
theorem test_late_page_expiry :
    let t := after (.baseOffer (bridgeOffer false)) (noted.withPending [.pageTimerExpiry])
    let u := after .pageTimerExpiry t
    (u.flc.agreement, u.flc.restartCount, u.flc.pageTimer) = (.ackSeen, 0, running 20 0) ∧
    (after .pageTimerExpiry u).flc.agreement = .offering := by decide +kernel

/-- 07 R108, R110, R115: the timers. -/
theorem test_feed_timers :
    ((after .pageTimerExpiry noted).flc.restartCount, (after .pageTimerExpiry noted).flc.agreement) = (1, .offering) ∧
    (after .pageTimerExpiry (noted.withFlc { noted.flc with restartCount := 7 })).flc.agreement = .feedFailed ∧
    (after .intervalTimerExpiry (ready.withFlc { ready.flc with intervalTimer := running 34 0 })).flc.due = true ∧
    (after (.hold 5) ready).flc.hold = running 16 0 ∧ (after .holdTimerExpiry (after (.hold 5) ready)).flc.hold = none := by
  decide +kernel

/-- A feed that is up in format 4 at 30 frames a second, with frame 120 LATEST. -/
def feeding : State :=
  withLatest.withFlc { ready.flc with agreement := .feedUp, result := some ⟨4, 30, false, true⟩, due := true }

/-- 07 R111, R113, R114, R116, Table 7-6: a feed frame's start, its first line, and its cut. -/
theorem test_feed_frame :
    let t := after .feedFrameStart feeding
    (t.flc.intervalTimer, t.flc.allowanceTimer, t.flc.lastFed, t.flc.due) = (running 34 0, running 136 0, 120, false) ∧
    slotShows t 2 { noHolders with latest := true, feed := true } (.liveFrame 120) = true ∧
    (after .feedLineSent t).flc = t.flc ∧
    fed (after .allowanceTimerExpiry t) = [.frameStart (.live 120) 1920 1080, .frameEnd true] ∧
    (after .allowanceTimerExpiry t).cpi.counters.getD 4 0 = 1 := by decide +kernel

theorem test_feed_line_produced :
    let s := after .feedFrameStart feeding
    let t := after .feedLineProduced (s.withFlc { s.flc with frame := s.flc.frame.map fun f => { f with width := 2, marks := ⟨2, 0, 1⟩ } })
    (t.flc.buffer.length, t.flc.frame.map fun f => (f.produced, f.sending, f.stopped)) = (1, some (1, true, false)) ∧
    ((after .feedLineSent t).flc.buffer, (fed (after .feedLineSent t)).length) = ([], 2) := by decide +kernel

/-- 10 R155: while a command-channel packet is being sent a base offer waits, and it goes when that packet's sending ends. -/
theorem test_page_waits_for_the_link :
    let s := after (.readStatus { hp with port := .tether } []) ready
    let t := after (.feedRestart hp []) s
    (s.cpi.tetherTx, fed t, t.flc.pages.length) = (some .reply, [], 1) ∧
    ((fed (after .tetherPacketSent t)).length, (after .tetherPacketSent t).flc.pages) = (1, []) := by decide +kernel

/-- 10 R156: BUSY while a reply is owed, silence while a refusal waits; the Panel's READ transaction takes the reply. -/
theorem test_busy_and_panel_read :
    let t := after (.readStatus hp []) ready
    let u := after (.readView hp []) t
    (answerAt t .panel, (u.cpi.panel.busy.map fun r => (r.kind, r.reason))) = (some (.done, .noReason, false), some (11, .busy)) ∧
    (after (.readView hp []) u).cpi = u.cpi ∧ (after (.panelReadTransaction [2]) u).cpi = u.cpi ∧
    (after (.panelReadTransaction [2, 0]) ready).emitted = [.panelDataOut [0]] := by decide +kernel

/-- 10 R153, Table 10-6: a COMMAND transaction is its command, with the nothing-owed value on data-out; one of another kind is ignored. -/
theorem test_panel_transactions :
    let body := commandBody 11 hp []
    let t := after (.panelReadTransaction (0x01 :: body)) ready
    (t = after (.readView hp []) ready ∧ t.emitted = [.panelDataOut (List.replicate 7 0)]) ∧
    answerAt t .panel = some (.done, .noReason, false) ∧ after (.panelReadTransaction (0x03 :: body)) ready = ready := by
  decide +kernel

/-- 10 R154: a frame whose checksum fails is dropped; a whole good frame among the bytes is taken; a frame in progress swallows a
command's frame. 10 R155, Table 10-6: a COMMAND packet with a command body is taken, here ZOOM_STEP
with three argument bytes in a payload of five words, the last of one byte. -/
theorem test_frames_taken :
    let body := commandBody 11 hr []
    let held := after (.roomFrameDropped [0xC3, 0xFF, 0]) ready
    RoomReceiver.hunting.takeAll [0xC3, 1, 0, 4, 0xFC] = (.hunting, []) ∧
    answerAt (after (.roomFrameDropped (roomWrap body)) ready) .room = some (.done, .noReason, false) ∧
    (held.cpi.roomRx = .taking [0xFF, 0] ∧ answerAt (after (.readView hr []) held) .room = none) ∧
    readPacket [2, 1, 5, 0, 1, 2, 7, 0, 0, 0, 1, 0, 0, 9] = some ⟨1, false, [1, 2, 7, 0, 0, 0, 1, 0, 0]⟩ ∧
    (after (.tetherPacketDiscarded [2, 1, 5, 0] [1, 2, 7, 0, 0, 0, 1, 0, 0, 9]) ready).vwc.zt = 257 ∧
    readPacket [1, 14, 1, 0, 3, 4] = some ⟨14, true, [3, 4]⟩ := by decide +kernel

/-- 08 R136, 10 R156: lesson 40 is taken as 31 and refused OUT_OF_REACH, with the clamping reported. -/
theorem test_refusal_reports_clamping :
    answerAt (after (.readLesson hr [40]) (ready.withCpi { resetCpi with reachRoom := List.replicate 4 Config.closedWindow })) .room =
      some (.refused, .outOfReach, true) := by decide +kernel

/-- 10 R154, R155: dropped input; R156, R158: the ends of sendings. -/
theorem test_links :
    (after (.roomFrameDropped [0xC3, 1, 0]) ready).cpi.roomRx = .taking [1, 0] ∧
    (after (.roomFrameDropped [0xC3, 0xC3, 9]) ready).cpi.roomRx = .taking [9] ∧
    (after (.tetherPacketDiscarded [0, 5, 0, 0] []) ready).cpi = ready.cpi ∧
    (after .roomFrameSent (after (.readStatus hr []) ready)).cpi = ready.cpi ∧
    (after .tetherPacketSent (after (.readStatus { hp with port := .tether } []) ready)).cpi.tether = ready.cpi.tether := by
  decide +kernel

/-- 10 R156, R157, R159, R160: the commands of the ports. -/
theorem test_port_commands :
    (after (.setNoticeEnables hp [0xFF, 0xFF, 0xFF, 0xFF]) ready).cpi.panel.enables = 0x1FFFF ∧
    (after (.setReach hp [1, 0, 1, 4, 28, 3]) ready).cpi.reachRoom[0]? = some ⟨true, 4, 28, true, true, false⟩ ∧
    answerAt (after (.setReach hr [1, 0, 1, 4, 28, 3]) ready) .room = some (.refused, .notPanel, false) ∧
    (after (.setHalfMasks hp [9]) ready).cpi.halfMasks = 9 ∧
    (after (.clearCounters hp []) (ready.withCpi { resetCpi with halfFlags := 9 })).cpi.halfFlags = 0 ∧
    answerAt (after (.unknownCommand 60 hp []) ready) .panel = some (.refused, .unknownCommand, false) := by decide +kernel

theorem test_completions_and_notices :
    let s := ready.withCpi { resetCpi with panel := { resetPort with
      completions := [⟨5, 1, .done, .noReason, none, none, 0⟩], overflow := true, enables := 0x1FFFF, flags := 4 } }
    (s.cpi.noticeLine, (after (.readCompletions hp []) s).cpi.panel.completions, (after (.readCompletions hp []) s).cpi.panel.overflow) =
      (true, [], false) ∧
    (after (.readNotices hp []) s).cpi.panel.flags = 0 := by decide +kernel

/-- 10 R160: an increment from half range sets the half-range flag; from the largest value the counter wraps. -/
theorem test_counter_wraps :
    (({ resetCpi with counters := List.replicate 8 0x7FFFFFFF }).count .framesIn).halfFlags = 1 ∧
    ((({ resetCpi with counters := List.replicate 8 0xFFFFFFFF }).count .framesIn).counter .framesIn) = 0 := by decide +kernel

/-- The reports leave their blocks alone and are answered DONE. -/
theorem test_reports :
    [Instr.readView hp [], .readEdgeThreshold hp [], .readTile hp [0, 0], .readClassifier hp [0, 8], .readPageBox hp [],
      .readProfiles hp [], .readSlots hp [], .readOutput hp [], .readFeed hp [], .readStore hp [], .readLesson hp [3],
      .readJobs hp [], .readStatus hp [], .readReach hp [], .readCounters hp []].map (fun c => answerAt (after c ready) .panel) =
      List.replicate 15 (some (.done, .noReason, false)) := by decide +kernel

/-! ### The lesson store -/

/-- A job. -/
def jobOf (task : JobTask) (state : JobState) (serial : Option Half) : Job :=
  { task := task, port := .room, marker := 50, state := state, withdrawn := false, serial := serial, pin := none,
    stage := .notBegun, retries := 0 }

/-- The store of 09 Table 9-5: lesson 3 OPEN with serials 12 and 13 in places 5 and 6, other lessons in places 0 to 4. -/
def exampleLessons : List LessonRecord :=
  (lessonThree [pageRec 12 5 .kept, pageRec 13 6 .kept]).set 4
    { state := .closed, name := [], kept := false, lock := false,
      pages := [pageRec 1 0 .kept, pageRec 2 1 .kept, pageRec 3 2 .kept, pageRec 4 3 .kept, pageRec 5 4 .kept] }

def exampleStore : State :=
  withLatest.withLsc { readyLsc with lessons := exampleLessons, nextSerial := 15, catSeq := 1044, lastBlock := 23 }

/-- 09 Table 9-5, rows 1 and 2: the STORE takes place 7 and serial 15 and erases block 24 for its catalogue write; the RECALL
waits behind it. -/
theorem test_store_begins :
    let t := after (.store hr [1]) exampleStore
    (t.lsc.nextSerial, t.lsc.catSeq, t.lsc.flash) = (16, 1045, some (.erase 24)) ∧
    (recordsOf t.lsc.lessons).find? (·.serial == 15) =
      some { pageRec 15 7 .writing with crop := .fullFallback, frame := 120 } ∧
    (t.spm.slot 2).holders.pins = [⟨.room, 50⟩] ∧
    ((after (.recall hp [3, 0]) t).lsc.queue.map fun j => (j.state, j.serial)) = [(.running, some 15), (.queued, some 12)] := by
  decide +kernel

/-- The STORE of Table 9-5 at the program of place page 913. -/
def storing : State :=
  let t := after (.store hr [1]) exampleStore
  (t.withCpi resetCpi).withLsc { t.lsc with
    activity := .programming 913 0, flash := some (.program 302 17 []), lastBlock := 24, due := false,
    queue := t.lsc.queue.map fun j => { j with stage := .program } }

/-- 09 Table 9-5, row 5: the program fails; place 7 is retired, the record moves to place 8, the retry is counted. -/
theorem test_store_retries :
    let t := after (.flashOperationComplete .fail) storing
    (t.lsc.retired, (recordsOf t.lsc.lessons).find? (·.serial == 15) |>.map (·.place), t.lsc.queue.map (·.retries),
      t.lsc.catSeq, t.lsc.flash, t.cpi.counters.getD 6 0) = ([7], some 8, [1], 1046, some (.erase 25), 1) := by decide +kernel

/-- 09 R150, Table 9-5, row 6: a running job is marked by WITHDRAW; another port's marker reaches no job. -/
theorem test_withdraw :
    (after (.withdraw hr [50]) storing).lsc.queue.map (·.withdrawn) = [true] ∧
    answerAt (after (.withdraw hp [50]) storing) .panel = some (.refused, .noSuchJob, false) := by decide +kernel

/-- 09 R145; 04 R59: a RECALL takes the lowest FREE slot and reads place 5 from block 224; with one FREE slot it waits. -/
theorem test_recall_begins :
    let t := after (.recall hp [3, 0]) exampleStore
    (t.lsc.flash, t.lsc.queue.map (·.state)) = (some (.read 224 0), [.running]) ∧
    slotShows t 0 { noHolders with load := true } (.storedPage 3 12) = true ∧
    answerAt (after (.recall hp [3, 2]) exampleStore) .panel = some (.refused, .noSuchPage, false) := by decide +kernel

/-- 04 R49: the content names the lesson of the page that the job reads, not the one of its command. -/
theorem test_recall_names_lesson_of_page :
    let job := { jobOf (.recall 4 0) .waitSlot (some 12) with marker := 51 }
    let s := exampleStore.withLsc { exampleStore.lsc with queue := [jobOf (.recall 3 1) .waitSlot (some 13), job] }
    slotShows (after (.withdraw hr [50]) s) 0 { noHolders with load := true } (.storedPage 3 12) = true := by decide +kernel

/-- A store whose catalogue sequence has no further number. -/
def spent (s : State) : State :=
  s.withLsc { s.lsc with catSeq := 0xFFFFFFFF }

/-- 08 R131, 09 R144, R148: a write without a number makes no attempt and ends as if four attempts had failed. -/
theorem test_no_number_left :
    let t := after (.saveSettings hp []) (spent exampleStore)
    (t.lsc.mode, t.lsc.flash) = (.readOnly, none) ∧
    t.cpi.panel.completions.map (fun r => (r.kind, r.ending, r.reason)) = [(44, .failed, .storeMedia)] ∧
    (after (.restart hp []) (spent (exampleStore.withLsc { exampleStore.lsc with due := true }))).lsc.mode = .readOnly := by
  decide +kernel

/-- 08 R131, 09 R144: the same for the write of a STORE's record, which goes again, as its pin does. -/
theorem test_no_number_left_for_store :
    let t := after (.store hp [1]) (spent exampleStore)
    (t.lsc.mode, t.lsc.flash, t.lsc.nextSerial, t.lsc.due) = (.readOnly, none, 16, true) ∧ t.lsc.lessons = exampleLessons ∧
    t.spm = exampleStore.spm ∧
    t.cpi.panel.completions.map (fun r => (r.kind, r.ending, r.reason)) = [(34, .failed, .storeMedia)] := by
  decide +kernel

/-- 09 R138, Table 9-2: the order of the checks. -/
theorem test_job_refusals :
    answerAt (after (.exportPage hp [3, 0]) exampleStore) .panel = some (.refused, .feedNotReady, false) ∧
    answerAt (after (.store hp [0]) ready) .panel = some (.refused, .notOpen, false) ∧
    answerAt (after (.store hp [0]) State.reset) .panel = some (.refused, .busy, false) ∧
    answerAt (after (.delete hp [32, 0]) ready) .panel = some (.refused, .noSuchLesson, false) ∧
    answerAt (after (.setLessonFlags hr [3, 1, 1]) exampleStore) .room = some (.refused, .notPanel, false) := by decide +kernel

/-- 09 R146, R147: the edits at their run. -/
theorem test_page_edits :
    let serials := fun s : State => (lessonAt s.lsc.lessons 3).pages.map (·.serial)
    serials (after (.delete hp [3, 0]) exampleStore) = [13] ∧ serials (after (.move hp [3, 0, 1]) exampleStore) = [13, 12] ∧
    serials (after (.clearLesson hp [3]) exampleStore) = [] := by decide +kernel

theorem test_lesson_edits :
    currentLesson (after (.openLesson hp [4]) exampleStore).lsc.lessons = some 4 ∧
    currentLesson (after (.closeLesson hp []) exampleStore).lsc.lessons = none ∧
    (lessonAt (after (.nameLesson hp [3, 0x41, 0x0A]) exampleStore).lsc.lessons 3).name = [0x41, 0x20] ∧
    (lessonAt (after (.setLessonFlags hp [3, 1, 0]) exampleStore).lsc.lessons 3).kept = true ∧
    (after (.saveSettings hp []) (exampleStore.withVwc { resetVwc with glide := 99 })).lsc.saved.glide = 99 := by decide +kernel

/-- 07 R118; 04 R58: an EXPORT behind nothing takes a slot once the feed is ready. -/
theorem test_export_begins :
    (after (.exportPage hp [3, 1]) (exampleStore.withFlc feeding.flc)).lsc.flash = some (.read 256 0) := by decide +kernel

/-- 08 Table 8-8: the last catalogue block read and nothing valid found is a blank store; RESTART, start-up and power loss. -/
theorem test_blank_recovery :
    let t := after (.flashOperationComplete .fail) (State.reset.withLsc { resetLsc with
      activity := .recovering { block := 63, page := 0, bytes := [], best := none }, flash := some (.read 63 0) })
    (t.lsc.mode, t.dou.raster, t.flc.started, t.cpi.panel.enables) = (.ready, .restarting, true, 0x1FFFF) ∧
    (after (.flashOperationComplete .fail) State.reset).lsc.flash = some (.read 1 0) := by decide +kernel

/-- 04 R50, R63: holders and content go, the slot's picture stays. -/
theorem test_restarts :
    let freed : Spm := { slots := (List.replicate 8 freeSlot).set 2 { freeSlot with picture := .live [] }, notices := 0 }
    answerAt (after (.restart hr []) ready) .room = some (.refused, .notPanel, false) ∧
    (after (.restart hp []) withLatest).spm = freed ∧ after .startUp withLatest = State.reset.withSpm freed ∧
    (after .powerLoss withLatest).powered = false ∧ latestSpm.remove 2 .latest = { freed with notices := 1 } ∧
    after .startUp State.reset = State.reset := by decide +kernel

/-! ### States that meet the hypotheses of the statements

Each theorem shows, for the statement it is named after, a state and operands that meet the hypotheses of each clause together. -/

/-! #### The part as a whole -/

/-- A part that runs, with one arrival waiting. -/
def busy : State := ready.withPending [.frameStart]

theorem test_hyps_step : busy.pending = .frameStart :: [] ∧ ready.pending = [] := ⟨rfl, rfl⟩

theorem freeSlots (n : Nat) : busy.spm.slot n = freeSlot := by
  change (List.replicate 8 freeSlot).getD n freeSlot = freeSlot
  rw [List.getD_eq_getElem?_getD, List.getElem?_replicate]
  split <;> rfl

/-- A sound state with an arrival waiting: the hypotheses of the eight invariants, together with a step from it. -/
theorem test_hyps_invariants : busy.sound ∧ ∃ t, step busy = .next t := by
  refine ⟨⟨?_, ?_, ?_, ?_, ?_, ?_, ?_, ?_⟩, _, rfl⟩
  · exact ⟨by decide +kernel, by rintro _ ⟨⟩, by decide, by decide, by decide, by rintro _ ⟨⟩, by decide, by decide, by decide,
      by decide, by decide, by decide, by decide, by decide, by decide, by decide, by decide +kernel, by rintro _ _ _ ⟨⟩⟩
  · exact ⟨by decide +kernel, by decide, by decide, by decide, by decide, by decide, by decide, by rintro _ ⟨⟩, by rintro _ ⟨⟩⟩
  · refine ⟨⟨by decide +kernel, by rintro _ ⟨⟩, by decide, by decide, by decide, by rintro _ ⟨⟩, by decide, by decide, by decide,
      by decide, by decide, by decide, by decide, by decide, by decide, by decide, by decide +kernel, by rintro _ _ _ ⟨⟩⟩, ?_⟩
    exact ⟨by rintro _ ⟨⟩, fun _ => rfl, fun h => absurd rfl h, by rintro ⟨⟩, by rintro _ ⟨⟩⟩
  · refine ⟨⟨by decide, by decide, by decide⟩, ⟨by decide, by decide, by decide⟩, ⟨by decide, by decide, by decide⟩, by decide,
      by rintro _ ⟨⟩, by rintro _ ⟨⟩, fun _ => rfl, fun _ => .inl rfl, fun h => absurd rfl h, fun _ => ⟨rfl, rfl⟩⟩
  · exact ⟨by decide, by decide, by decide, by rintro ⟨⟩, by rintro ⟨⟩⟩
  · refine ⟨rfl, fun n => ?_, fun m n h => ?_, by rintro _ _ ⟨⟩, fun n => ?_, fun n => ?_, fun n => ?_, fun n => ?_⟩
    · rw [freeSlots]; exact ⟨fun _ => rfl, fun _ => rfl⟩
    all_goals simp only [State.carries, freeSlots] at *
    · cases h
    all_goals exact ⟨by rintro ⟨⟩, by rintro ⟨⟩⟩
  · exact ⟨by decide +kernel, by decide +kernel, by rintro _ _ _ ⟨⟩, by rintro _ ⟨⟩⟩
  · exact ⟨by decide, by rintro _ ⟨⟩, by rintro ⟨⟩⟩

theorem test_hyps_every_arrival_ends :
    (ready.withPower false).powered = false ∧ Instr.frameStart ≠ .startUp ∧ Instr.frameStart ≠ .powerLoss := by decide

/-! #### Taking commands and sending -/

/-- The Panel port owes a reply, and then refuses as well. -/
def owing : State := after (.readStatus hp []) ready
def refusing : State := after (.readView hp []) owing

theorem test_hyps_commands_refused :
    (asCommand (.readView hp []) = some (11, hp, []) ∧ owing.powered = true ∧ owing.cpi.panel.owed.isSome = true ∧
      owing.cpi.panel.busy = none ∧ refusing.cpi.panel.owed.isSome = true ∧ refusing.cpi.panel.busy.isSome = true ∧
      owing.cpi.hears .room) ∧
    (ready.takes .panel ∧ namedCommand (.zoom hp []) = true ∧ lengthAllowed 1 4 = false ∧ lengthAllowed 1 5 = true ∧
      lengthAllowed 16 9 = true ∧ lengthAllowed 16 65 = true ∧ lengthAllowed 16 1 = false ∧ lengthAllowed 16 73 = false ∧
      lengthAllowed 59 0 = true ∧ lengthAllowed 59 1 = false) ∧
    (8 < (9 : Byte).toNat ∧ 59 < (60 : Byte).toNat) := by
  simp only [State.takes, Cpi.hears]; decide +kernel

/-- A Room port that sends a reply, a completion record, a notice. -/
def sendingRoom (k : Sending) : State := ready.withCpi { resetCpi with roomTx := some k }
/-- A tether port that sends, with and without a line of the feed ready. -/
def sendingTether (k : Sending) : State := ready.withCpi { resetCpi with tetherTx := some k, lastSide := some .cpi }

/-- A sending tether port with so many pages of the agreement waiting, and a completion record of its own behind them or not. -/
def pagesWait (pages : List AgreementPage) (records : List Completion) (frame : Option FeedFrame) : State :=
  ((sendingTether .notice).withCpi { (sendingTether .notice).cpi with tether := { resetPort with completions := records } }).withFlc
    { ready.flc with pages := pages, frame := frame }

/-- A cut live frame whose FRAME_END waits. -/
def cutFrame : FeedFrame := ⟨.live 1, 0, 2, 2, 0, 0, 0, 0, ⟨48, 16, 8⟩, 1, 0, false, true, true⟩

theorem test_hyps_sending_ends :
    (∀ k : Sending, (sendingRoom k).powered = true ∧ (sendingRoom k).cpi.roomTx = some k ∧ (sendingTether k).powered = true ∧
      (sendingTether k).cpi.tetherTx = some k ∧ (sendingTether k).cpi.lastSide = some .cpi ∧ (sendingTether k).flc.pages = [] ∧
      (sendingTether k).flc.cutReady = false ∧ (sendingTether k).flc.lineReady = false) ∧
    (let s := (sendingTether .reply).withFlc { ready.flc with
        buffer := [⟨0, [], [], []⟩], frame := some ⟨.live 1, 0, 2, 2, 0, 0, 0, 0, ⟨48, 16, 8⟩, 1, 0, false, true, false⟩ }
     s.flc.lineReady = true ∧ s.cpi.lastSide = some .cpi ∧ s.flc.cutReady = false) ∧
    (let a := AgreementPage.note ⟨false, true, .message, false, true, 1⟩
     let full := pagesWait [a] [⟨0, 1, .done, .noReason, none, none, 0⟩] none
     let cut := pagesWait [] [⟨0, 1, .done, .noReason, none, none, 0⟩] (some cutFrame)
     full.flc.pages = [a] ∧ full.cpi.tether.sentOne full.cpi.tether .notice ∧ full.cpi.tether.completions ≠ [] ∧
     (pagesWait [a] [] none).flc.cutReady = false ∧ (pagesWait [a] [] none).cpi.tether.completions = [] ∧
     cut.flc.frame = some cutFrame ∧ cutFrame.cut = true ∧ cutFrame.kind = .live 1 ∧ cut.flc.hold = none ∧ cut.flc.pages = []) := by
  refine ⟨fun k => ⟨rfl, rfl, rfl, rfl, rfl, rfl, rfl, rfl⟩, by decide +kernel, by simp only [PortState.sentOne]; decide +kernel⟩

theorem test_hyps_panel_read :
    (ready.powered = true ∧ ready.cpi.panel.owed = none ∧ owing.powered = true ∧ owing.cpi.panel.owed.isSome = true) ∧
    (asCommand (.readView hp []) = some (11, hp, []) ∧ namedCommand (.readView hp []) = true ∧ hp.port = .panel) ∧
    (decodeBody .panel [1, 11, 7] = none ∧ ([] : List Byte).head? ≠ some 0x01 ∧ [(3 : Byte)].head? ≠ some 0x01 ∧
      [(3 : Byte)].head? ≠ some 0x02) := by decide +kernel

theorem test_hyps_room_input :
    1 ≤ ([0] : List Byte).length ∧ (List.replicate 2048 (0 : Byte)).length ≤ 2048 ∧
    ((0 : Byte).toNat + 256 * (0 : Byte).toNat = 0 ∧ 2048 < (1 : Byte).toNat + 256 * (8 : Byte).toNat) ∧ (1 : Byte) ≠ 0xC3 ∧
    some (0 : Byte) ≠ (roomWrap [4]).getLast? ∧
    (asCommand (.readView hr []) = some (11, hr, []) ∧ hr.port = .room ∧ asCommand (.unknownCommand 60 hr []) = some (60, hr, [])) ∧
    (ready.cpi.roomRx = .hunting ∧ (RoomReceiver.hunting.takeAll [0xC3, 1, 0]).2 = [] ∧
      decodeBody .room (commandBody 11 hr []) = some (.readView hr []) ∧
      (after (.roomFrameDropped [0xC3, 1, 0]) ready).cpi.roomRx ≠ .hunting) ∧
    (([1, 11] : List Byte).length = 2 * ((1 : Byte).toNat + 256 * (0 : Byte).toNat) ∧ decodeBody .tether [1, 11] = none ∧
      (decodeBody .tether (commandBody 11 hr [])).isSome = true ∧ (commandBody 11 hr []).length ≤ 131070 ∧
      (5 : Byte) ∉ [(1 : Byte), 8, 9, 10]) := by
  refine ⟨by decide, by simp only [List.length_replicate]; decide, by decide, by decide, by decide, by decide, by decide +kernel,
    by decide +kernel⟩

/-- Payloads that hold a base offer, a note page and a duration exist in every layout; so do whole packets with them. -/
theorem test_hyps_feed_packets (o : BaseOffer) (p : NotePage) (d : Half) :
    Config.offer.read (Config.offer.bytes o) = some o ∧ Config.note.read (Config.note.bytes p) = some p ∧
    Config.hold.read (Config.hold.bytes d) = some d ∧
    readPacket (tetherWrap 10 false (Config.hold.bytes d)) = some ⟨10, false, Config.hold.bytes d⟩ :=
  ⟨Config.offer.readsBack o, Config.note.readsBack p, Config.hold.readsBack d, readPacket_tetherWrap 10 false _ (Config.hold.fits d)⟩

theorem test_hyps_events_and_records :
    ({ resetPort with completions := List.replicate 7 ⟨0, 1, .done, .noReason, none, none, 0⟩ } : PortState).completions.length < 8 ∧
    8 ≤ ({ resetPort with completions := List.replicate 8 ⟨0, 1, .done, .noReason, none, none, 0⟩ } : PortState).completions.length ∧
    Port.room ≠ .panel := by decide

theorem test_hyps_counter_counts :
    let c := { resetCpi with counters := [2147483647, 0, 0, 0, 0, 0, 0, 4294967295] }
    c.counters.length = 8 ∧ c.counter .framesIn = 2147483647 ∧ c.counter .catalogueWrites ≠ 2147483647 ∧
    Counter.framesBroken ≠ .framesIn := by decide

/-! #### The view and the output -/

/-- A header that expects generation 3. -/
def hx : CmdHeader := { hp with flags := 1, expected := 3 }

theorem test_hyps_conditional_view :
    asCommand (.setGlide hx [1, 0]) = some (10, hx, [1, 0]) ∧ namedCommand (.setGlide hx [1, 0]) = true ∧
    lengthAllowed 10 2 = true ∧ ready.takes .panel ∧ ready.conditionFails hx ∧ ¬ ready.conditionFails hp ∧
    ready.spm.find .latest = none := by
  simp only [State.takes, Cpi.hears, State.conditionFails]; decide +kernel

theorem test_hyps_view_commands : ready.takes .panel ∧ ¬ ready.conditionFails hp ∧ withLatest.takes .panel ∧
    ¬ withLatest.conditionFails hp ∧ withLatest.spm.find .latest = some 2 := by
  simp only [State.takes, Cpi.hears, State.conditionFails]; decide +kernel

/-- A part with a page box and a page shown from a frozen view. -/
def framed : State :=
  ((withLatest.withTcl { resetTcl with box := some ⟨0, 59, 0, 44⟩ }).withVwc { resetVwc with
    freeze := some 2, page := some ⟨5, 3, 12⟩ })

theorem test_hyps_fit_and_freeze :
    framed.takes .panel ∧ ¬ framed.conditionFails hp ∧ framed.tcl.box = some ⟨0, 59, 0, 44⟩ ∧ ready.tcl.box = none ∧
    framed.vwc.freeze = some 2 ∧ ready.vwc.freeze = none ∧ framed.vwc.page = some ⟨5, 3, 12⟩ ∧ ready.vwc.page = none := by
  simp only [State.takes, Cpi.hears, State.conditionFails]; decide +kernel

/-- Page boxes of one tile and of a page, with base windows at least as large as the box grown by a tile. -/
theorem test_hyps_window :
    (∀ b ∈ [TileBox.mk 0 0 0 0, ⟨12, 45, 5, 31⟩, ⟨59, 59, 44, 44⟩], b.inRange ∧
      (grown b.c0 b.c1 3840).2 + 1 - (grown b.c0 b.c1 3840).1 ≤ (windowOf 2 .single 256 1920 1440).baseW ∧
      (grown b.r0 b.r1 2880).2 + 1 - (grown b.r0 b.r1 2880).1 ≤ (windowOf 2 .single 256 1920 1440).baseH) ∧
    (let w := windowOf 2 .single 512 1920 1440
     w.ww / 2 ≤ 1920 ∧ 1920 + w.ww ≤ 3840 + w.ww / 2 ∧ w.wh / 2 ≤ 1440 ∧ 1440 + w.wh ≤ 2880 + w.wh / 2) ∧
    (let w := windowOf 2 .split 4096 0 0
     w.pw * 2880 < w.ph * 3840) := by
  simp only [TileBox.inRange]; decide +kernel

/-- A running raster with a watch whose zoom stands at its target. -/
def gliding : State :=
  (ready.withDou { resetDou with raster := .running }).withVwc { resetVwc with watch := some ⟨.panel, 5, .zoom, 256⟩ }

theorem test_hyps_output_frame :
    gliding.powered = true ∧ gliding.dou.raster ≠ .stopped ∧ gliding.dou.stale = 0 ∧ gliding.viewSound ∧
    gliding.vwc.watch = some ⟨.panel, 5, .zoom, 256⟩ ∧ gliding.vwc.zc = gliding.vwc.zt ∧ gliding.vwc.glide ≠ 0 ∧
    (ready.vwc.watch = none) := by
  refine ⟨rfl, by decide, rfl, ⟨by decide +kernel, by decide, by decide, by decide, by decide, by decide, by decide, by rintro _ ⟨⟩,
    by rintro _ ⟨⟩⟩, rfl, rfl, by decide, rfl⟩

theorem test_hyps_output_latches :
    let s := framed.withDou { resetDou with raster := .running }
    let u := withLatest.withDou { resetDou with raster := .restarting }
    s.powered = true ∧ s.dou.raster ≠ .stopped ∧ s.vwc.freeze = some 2 ∧ u.vwc.freeze = none ∧ u.spm.find .latest = some 2 ∧
    gliding.vwc.freeze = none ∧ gliding.spm.find .latest = none ∧ s.dou.stale = 0 ∧
    (ready.withDou { resetDou with stale := 1 }).dou.stale ≠ 0 ∧ (ready.dou.stale = 0 ∧ ready.dou.raster = .stopped) := by decide +kernel

theorem test_hyps_output_commands :
    ready.takes .panel ∧ ready.dou.raster = .stopped ∧ gliding.takes .panel ∧ gliding.dou.raster ≠ .stopped := by
  simp only [State.takes, Cpi.hears]; decide +kernel

/-! #### Ports, settings and reports -/

theorem test_hyps_port_commands :
    ready.takes .panel ∧ hp.port = .panel ∧ ready.takes .room ∧ hr.port ≠ .panel ∧ (7 : Byte).toNat < 8 := by
  simp only [State.takes, Cpi.hears]; decide +kernel

theorem test_hyps_settings :
    ready.takes .panel ∧ ready.tcl.table.entries.length = 32 ∧ ([] : List RawNote).length ≤ 4 ∧
    (List.replicate 4 (⟨2, 0⟩ : RawNote)).length ≤ 4 ∧ 1 ≤ [RawEntry.mk 0 0 0 0 0 0 0 0].length ∧
    (List.replicate 8 (RawEntry.mk 1 1 1 1 1 1 1 1)).length ≤ 8 ∧
    (∀ r ∈ List.replicate 8 (RawEntry.mk 1 1 1 1 1 1 1 1), r.flagsStated) ∧ 4 ≤ (4 : Byte).toNat := by
  simp only [State.takes, Cpi.hears, RawEntry.flagsStated]; decide +kernel

theorem test_hyps_reports :
    ready.takes .panel ∧ 1 ≤ (1 : Byte).toNat ∧ (8 : Byte).toNat ≤ 8 ∧ ready.flc.hold = none ∧
    (ready.withFlc { ready.flc with hold := running 16 0 }).flc.hold = running 16 0 ∧ State.reset.takes .panel ∧
    State.reset.lsc.mode = .starting ∧ ready.lsc.mode ≠ .starting ∧ ready.cpi.allows .panel 31 .toShow = true ∧
    ({ resetCpi with reachRoom := List.replicate 4 Config.closedWindow }).allows .room 31 .toShow = false := by
  simp only [State.takes, Cpi.hears]; decide +kernel

/-! #### The pool, the statistics, the picture -/

/-- A pool with FREEZE alone on slot 0, LATEST and PAGE on slot 7. -/
def smallPool : Spm :=
  { slots := ((List.replicate 8 freeSlot).set 0 { holders := { noHolders with freeze := true }, content := .liveFrame 1, picture := .live [] }).set 7
      { holders := { noHolders with latest := true, page := true }, content := .liveFrame 2, picture := .live [] },
    notices := 0 }

theorem test_hyps_pool :
    (0 < smallPool.slots.length ∧ (smallPool.slot 0).holders.has .freeze = true ∧
      (smallPool.slot 0).holders.put .freeze false = noHolders) ∧
    (7 < smallPool.slots.length ∧ (smallPool.slot 7).holders.has .latest = true ∧
      (smallPool.slot 7).holders.put .latest false ≠ noHolders ∧ HolderKind.latest ≠ .feed) ∧
    (smallPool.find .freeze = some 0 ∧ 7 ≠ 0 ∧ smallPool.find .latest = some 7) ∧
    (let p := smallPool.pin 7 ⟨.room, 50⟩
     (smallPool.slot 7).holders ≠ noHolders ∧ (⟨.room, 50⟩ : PinTag) ∈ (p.slot 7).holders.pins ∧
     ({ (p.slot 7).holders with pins := (p.slot 7).holders.pins.erase ⟨.room, 50⟩ } : Holders) ≠ noHolders ∧
     (⟨.room, 51⟩ : PinTag) ∉ (p.slot 7).holders.pins) ∧
    (let x : Holders := { noHolders with pins := [⟨.room, 50⟩] }
     ({ x with pins := x.pins.erase ⟨.room, 50⟩ } : Holders) = noHolders) := by decide +kernel

theorem test_hyps_tile_figures :
    (List.replicate 2880 (List.replicate 3840 0)).length = 2880 ∧
    ∀ l ∈ List.replicate 2880 (List.replicate 3840 0), l.length = 3840 := by
  refine ⟨List.length_replicate, fun l h => ?_⟩
  rw [List.eq_of_mem_replicate h]; exact List.length_replicate

/-- Signatures that match a RANGE, a PAIR and a MASK entry at their bounds, and one that matches none. -/
theorem test_hyps_first_match :
    let e := [ClassifierEntry.mk true .range 3200 3263 .p3 true, ⟨true, .pair, 1300, 1301, .pass, false⟩,
              ⟨true, .mask, 2048, 2048, .p1, true⟩]
    e[0]? = some ⟨true, .range, 3200, 3263, .p3, true⟩ ∧ 3200 ≤ 3263 ∧ ¬ (3264 ≤ 3263) ∧
    1301 &&& 2048 ≠ 2048 &&& 2048 ∧ 2048 &&& 2048 = 2048 &&& 2048 ∧ 4095 &&& 2048 = 2048 &&& 2048 := by decide

theorem test_hyps_tiles : openSet.length = 2700 ∧ textCount [marked] < 2 ∧ 1 ≤ textCount [marked] :=
  ⟨List.length_replicate, by decide, by decide⟩

theorem test_hyps_pixels :
    (Profile.mk 63 63 16 255).inRange = true ∧ (Profile.mk 0 0 0 0).inRange = true ∧
    whiteningOffset ⟨63, 63, 16, 255⟩ 0 = 1023 ∧ 1023 ≤ 1023 + whiteningOffset ⟨63, 63, 16, 255⟩ 0 ∧
    0 + whiteningOffset ⟨0, 0, 0, 0⟩ 0 ≤ 1023 ∧ (63 : Int) < 1023 ∧ (-1023 : Int) < -63 := by decide

theorem test_hyps_line_enhanced :
    profilesInRange Config.factoryProfiles = true ∧ (List.replicate 3840 (PixelClock.mk 0 0)).length = 3840 ∧
    (let tiles : Option (List TileRecord) := some [{ marked with action := .pass }, marked]
     (tiles.bind fun ts => ts[60 * (0 / 64) + 0 / 64]?) = some { marked with action := .pass } ∧
     (tiles.bind fun ts => ts[60 * (63 / 64) + 64 / 64]?) = some marked ∧
     (tiles.bind fun ts => ts[60 * (63 / 64) + 128 / 64]?) = none ∧ Config.factoryProfiles[1]? = some ⟨40, 8, 8, 64⟩) := by
  exact ⟨by decide, List.length_replicate, by decide⟩

/-! #### Intake -/

/-- A part whose eight slots are all held. -/
def full : State :=
  ready.withSpm { slots := List.replicate 8 { holders := { noHolders with freeze := true }, content := .liveFrame 1, picture := .live [] }, notices := 0 }

theorem test_hyps_frame_starts :
    ready.powered = true ∧ ready.spm.lowestFree = some 0 ∧ full.powered = true ∧ full.siu.intake ≠ .receiving ∧
    full.spm.lowestFree = none := by decide +kernel

/-- A line of 3840 pixels. -/
def wholeLine : List PixelClock := List.replicate 3840 ⟨0, 0⟩

/-- A frame in progress after some lines, with the line store that belongs to it. -/
def receiving (lines : Nat) (kept : List (List PixelClock)) : State :=
  let t := after .frameStart ready
  (t.withSiu { t.siu with lines := lines }).withPeu { t.peu with lineStore := kept }

theorem test_hyps_line_ends :
    wholeLine.length = 3840 ∧
    ((receiving 0 []).powered = true ∧ (receiving 0 []).siu.intake = .receiving ∧ (receiving 0 []).siu.lines < 2880 ∧
      (receiving 0 []).peu.lineStore.length = min 3 (receiving 0 []).siu.lines) ∧
    ((receiving 1 [[]]).peu.lineStore.length = min 3 (receiving 1 [[]]).siu.lines ∧ (receiving 1 [[]]).spm.find .intake = some 0) ∧
    ((receiving 2879 [[], [], []]).siu.lines < 2880 ∧
      (receiving 2879 [[], [], []]).peu.lineStore.length = min 3 (receiving 2879 [[], [], []]).siu.lines) ∧
    (2880 ≤ (receiving 2880 []).siu.lines ∧ ([] : List PixelClock).length ≠ 3840 ∧ ready.siu.intake ≠ .receiving) :=
  ⟨List.length_replicate, by decide +kernel, by decide +kernel, by decide +kernel, by decide +kernel⟩

theorem test_hyps_frame_ends :
    (let s := receiving 2880 [[], [], []]
     s.powered = true ∧ s.siu.intake = .receiving ∧ s.siu.lines = 2880 ∧ s.spm.find .intake = some 0 ∧
     s.tsu.building = some openSet ∧ s.peu.lineStore = [[], [], []]) ∧
    ((receiving 2879 []).siu.lines ≠ 2880 ∧ ready.siu.intake = .waiting) ∧
    ((ready.withSiu { resetSiu with intake := .skipping }).siu.intake = .skipping) := by
  refine ⟨⟨rfl, rfl, rfl, by decide +kernel, rfl, rfl⟩, ⟨by decide +kernel, rfl⟩, rfl⟩

theorem test_hyps_signal_lost :
    ((receiving 0 []).powered = true ∧ (receiving 0 []).siu.timer = running 500 0 ∧ (receiving 0 []).siu.intake = .receiving) ∧
    (ready.withSiu { resetSiu with timer := running 500 0 }).siu.timer = running 500 0 ∧
    (ready.withSiu { resetSiu with timer := running 500 1 }).siu.timer = running 500 (0 + 1) ∧ ready.siu.timer = none := by
  decide +kernel

/-- A RECALL that waits for a slot, with so many slots FREE and a notice given. -/
def waiting (free : Nat) : State :=
  (exampleStore.withLsc { exampleStore.lsc with queue := [jobOf (.recall 3 0) .waitSlot (some 12)] }).withSpm
    { slots := List.replicate free freeSlot ++ List.replicate (8 - free) { holders := { noHolders with freeze := true }, content := .liveFrame 1, picture := .live [] },
      notices := 1 }

/-- Lesson 3 of the example holds the page with serial 12, whatever its record's state and CRC. -/
theorem example_holds :
    holdsPage exampleStore.lsc.lessons 3 12 ∧
    holdsPage (changeRecord exampleLessons 12 fun r => { r with crc := some 0 }) 3 12 :=
  ⟨(holdsPage_iff _ _ _).mpr (by decide +kernel), (holdsPage_iff _ _ _).mpr (by decide +kernel)⟩

theorem test_hyps_slot_freed_notice :
    holdsPage (waiting 2).lsc.lessons 3 12 ∧
    (waiting 2).powered = true ∧ (waiting 2).spm.notices ≠ 0 ∧ (waiting 2).lsc.queue = [jobOf (.recall 3 0) .waitSlot (some 12)] ∧
    recordWith (waiting 2).lsc.lessons 12 = some (pageRec 12 5 .kept) ∧ (waiting 2).spm.lowestFree = some 0 ∧
    2 ≤ (waiting 2).spm.freeCount ∧ (waiting 1).spm.freeCount < 2 ∧ (waiting 1).spm.notices ≠ 0 ∧
    (ready.withSpm { resetSpm with notices := 1 }).spm.notices ≠ 0 ∧ ready.lsc.queue = [] :=
  ⟨example_holds.1, by decide +kernel⟩

theorem test_hyps_pictures : (255 : Nat) ≤ 255 ∧ 0 < 3839 ∧ 1440 * 1920 ≤ 1920 * 1440 ∧ 768 * 1920 > 512 * 1440 ∧
    1440 * 512 ≤ 768 * 1920 ∧ 65408 ≤ 65535 ∧ 65535 < 65536 := by decide

/-- A feed frame of each kind, places of each part of a page's image, a raster in each state, single and split. -/
theorem test_hyps_pictures_drawn :
    (cutFrame.kind = .live 1 ∧ ({ cutFrame with kind := .exported 3 12 } : FeedFrame).kind = .exported 3 12) ∧
    (2048 * (1 - 1) + 2047 = 1920 * 1 + 127 ∧ 2048 * (1350 - 1) + 2048 = 2764800 + 960 * 0 + 0 ∧
      2048 * (2025 - 1) + 2047 = 3456000 + 960 * 719 + 959) ∧
    (withLatest.spm.slot 2).picture = .live [] ∧
    (let s := ready.withDou { resetDou with raster := .running, left := some (.fill .grey) }
     let t := s.withDou { s.dou with right := some (.fill .white) }
     ready.dou.raster = .stopped ∧ s.dou.raster = .running ∧ s.dou.left = some (.fill .grey) ∧ s.dou.right = none ∧
     t.dou.right = some (.fill .white) ∧ rasterSize s.dou.mode = (1920, 1080) ∧ 1919 < 1920 ∧ ¬ 1920 < 1920 ∧ 959 < 1920 / 2 ∧
     1920 / 2 ≤ 960) := by decide +kernel

/-! #### The feed -/

/-- The agreement of a part without notes, and a bridge without notes. -/
def noteless : State := after (.feedRestart hp []) ready
def plainOffer (formats : Byte) : BaseOffer := { formats := formats, nextPage := false, ack := true, fault := .noFault, restart := false }

theorem test_hyps_base_offers :
    (noted.powered = true ∧ noted.flc.started = true ∧ (bridgeOffer false).fault = .noFault ∧
      noted.flc.agreement ∈ [Agreement.offering, .ackSeen, .noteExchange] ∧ (bridgeOffer false).ack = false ∧
      (bridgeOffer true).ack = true ∧ noted.flc.latched ≠ []) ∧
    (noteless.powered = true ∧ noteless.flc.started = true ∧ noteless.flc.agreement = .offering ∧ noteless.flc.latched = [] ∧
      (plainOffer 1).nextPage = false ∧ (plainOffer 1).formats.getLsbD 0 = true ∧ (plainOffer 0xFF).formats.getLsbD 7 = true ∧
      (plainOffer 0).formats = 0) ∧
    (∀ g, 0 < g → (plainOffer 1).formats.getLsbD g = false) ∧ (∀ g, 7 < g → (plainOffer 0xFF).formats.getLsbD g = false) := by
  refine ⟨by decide +kernel, by decide +kernel, fun g h => ?_, fun g h => ?_⟩
  · rcases Nat.lt_or_ge g 8 with h8 | h8
    · interval_cases g <;> rfl
    · exact BitVec.getLsbD_of_ge _ _ h8
  · exact BitVec.getLsbD_of_ge _ _ h

/-- A note exchange in which the part has sent its last page. -/
def exchanging (formats : Byte) : State :=
  noteless.withFlc { noteless.flc with
    agreement := .noteExchange, partner := some (plainOffer formats), lastPage := some ⟨false, true, .message, false, true, 1⟩ }

theorem test_hyps_note_pages :
    (noteless.flc.agreement ≠ .noteExchange ∧ (exchanging 1).flc.agreement = .noteExchange ∧
      (exchanging 1).flc.bridgeToggle = false ∧ (exchanging 1).flc.lastPage = some ⟨false, true, .message, false, true, 1⟩) ∧
    ((exchanging 1).flc.partner = some (plainOffer 1) ∧ (plainOffer 1).formats.getLsbD 0 = true ∧
      (exchanging 0).flc.partner = some (plainOffer 0) ∧ decide (1 < (exchanging 1).flc.unsent.length) = false) := by
  decide +kernel

theorem test_hyps_feed_timers :
    (noted.powered = true ∧ noted.flc.pageTimer = running 20 0 ∧ noted.flc.restartCount < 7) ∧
    ((noted.withFlc { noted.flc with restartCount := 7 }).flc.pageTimer = running 20 0 ∧
      (noted.withFlc { noted.flc with restartCount := 7 }).flc.restartCount = 7) ∧
    ((feeding.withFlc { feeding.flc with intervalTimer := running 34 0 }).flc.intervalTimer = running 34 0 ∧ feeding.flc.frame = none ∧
      (after .feedFrameStart feeding).flc.intervalTimer = running 34 0 ∧ (after .feedFrameStart feeding).flc.frame.isSome = true) ∧
    (let late := running 20 1
     (noted.withFlc { noted.flc with pageTimer := late }).flc.pageTimer = running 20 (0 + 1) ∧
      (feeding.withFlc { feeding.flc with intervalTimer := late }).flc.intervalTimer = running 20 (0 + 1) ∧
      feeding.flc.pageTimer = none ∧ feeding.flc.intervalTimer = none) := by
  decide +kernel

/-- A live feed frame in flight with a line in the buffer: sending has begun. -/
def sendingFrame (frame : FeedFrame) : State :=
  feeding.withFlc { feeding.flc with frame := some frame, buffer := [⟨0, [], [], []⟩], allowanceTimer := running 136 0, due := false }

def shortFrame (sent height : Nat) : FeedFrame :=
  ⟨.live 120, 2, 2, height, 0, 0, 65536, 65536, ⟨2, 0, 1⟩, sent + 1, sent, false, true, false⟩

theorem test_hyps_holds_and_cuts :
    (ready.powered = true ∧ (1 : Half) ≠ 0 ∧ ready.flc.frame = none ∧ (ready.withFlc { ready.flc with hold := running 16 0 }).flc.hold = running 16 0 ∧
      (ready.withFlc { ready.flc with hold := running 16 1 }).flc.hold = running 16 (0 + 1) ∧ ready.flc.hold = none ∧
      (ready.withFlc { ready.flc with allowanceTimer := running 136 1 }).flc.allowanceTimer = running 136 (0 + 1) ∧
      ready.flc.allowanceTimer = none) ∧
    (ready.cpi.linkFree ∧ ¬ (sendingTether .reply).cpi.linkFree ∧ (ready.cpi.count .feedFramesCut).linkFree) ∧
    (let s := sendingFrame (shortFrame 0 2)
     s.flc.allowanceTimer = running 136 0 ∧ s.flc.frame = some (shortFrame 0 2) ∧ s.flc.hold = none ∧ (shortFrame 0 2).kind = .live 120) ∧
    (let s := (sendingFrame { shortFrame 0 2 with cut := true })
     s.flc.frame = some { shortFrame 0 2 with cut := true } ∧ (s.withFlc { s.flc with hold := running 16 0 }).flc.hold = running 16 0) := by
  simp only [Cpi.linkFree]; decide +kernel

theorem test_hyps_feed_frames_start :
    (feeding.powered = true ∧ feeding.flc.agreement = .feedUp ∧ feeding.flc.result = some ⟨4, 30, false, true⟩ ∧
      feeding.flc.frame = none ∧ feeding.flc.due = true) ∧
    (feeding.flc.exportFrame = none ∧ feeding.spm.find .latest = some 2 ∧ (feeding.spm.slot 2).content = .liveFrame 120 ∧
      feeding.flc.lastFed < 120 ∧ ¬ 120 ≤ 119) ∧
    ((feeding.withFlc { feeding.flc with exportFrame := some ⟨0, .room, 50, 3, 12⟩ }).flc.exportFrame = some ⟨0, .room, 50, 3, 12⟩ ∧
      (feeding.withFlc { feeding.flc with lastFed := 120 }).flc.lastFed = 120) := by decide +kernel

theorem test_hyps_feed_lines :
    (let s := sendingFrame (shortFrame 0 2)
     s.powered = true ∧ s.flc.frame = some (shortFrame 0 2) ∧ (shortFrame 0 2).cut = false ∧ (shortFrame 0 2).stopped = false ∧
     (shortFrame 0 2).produced < (shortFrame 0 2).height ∧ s.flc.buffer = [⟨0, [], [], []⟩] ∧ (shortFrame 0 2).sending = true ∧
     s.flc.hold = none ∧ s.cpi.tetherTx = none ∧ (shortFrame 0 2).sent + 1 ≠ (shortFrame 0 2).height) ∧
    ((shortFrame 1 2).height ≤ (shortFrame 1 2).produced ∧ (shortFrame 1 2).sent + 1 = (shortFrame 1 2).height) := by
  decide +kernel

/-- An export frame in flight for the head job. -/
def exporting (frame : FeedFrame) : State :=
  let s := sendingFrame { frame with kind := .exported 3 12 }
  (s.withFlc { s.flc with exportFrame := some ⟨2, .room, 50, 3, 12⟩ }).withLsc
    { exampleStore.lsc with queue := [jobOf (.exportPage 3 0) .running (some 12)] }

theorem test_hyps_feed_leaves_up :
    (feeding.powered = true ∧ feeding.flc.exportFrame = none ∧ feeding.flc.started = true ∧ feeding.flc.agreement = .feedUp ∧
      (noted.flc.agreement = .offering ∧ noted.flc.frame = none) ∧ State.reset.flc.started = false ∧ feeding.takes .panel ∧
      State.reset.takes .panel) ∧
    (feeding.flc.notes = [] ∧ (feeding.withFlc { feeding.flc with notes := [.exportAble] }).flc.notes ≠ [] ∧
      (plainOffer 1).nextPage = false ∧ (plainOffer 0).formats = 0) ∧
    (let s := exporting (shortFrame 1 2)
     s.flc.frame = some { shortFrame 1 2 with kind := .exported 3 12 } ∧ s.flc.exportFrame = some ⟨2, .room, 50, 3, 12⟩ ∧
      s.lsc.queue = [jobOf (.exportPage 3 0) .running (some 12)] ∧ s.flc.agreement = .feedUp ∧ s.flc.started = true ∧
      (shortFrame 1 2).sent + 1 = (shortFrame 1 2).height ∧ { shortFrame 1 2 with cut := true }.cut = true ∧
      s.takes .panel ∧ s.flc.allowanceTimer = running 136 0 ∧ s.flc.hold = none ∧ s.cpi.linkFree ∧
      (s.cpi.count .feedFramesCut).linkFree ∧ (s.withFlc { s.flc with frame := none }).flc.frame = none) ∧
    (let s := exporting { shortFrame 1 2 with cut := true }
     let u := s.withCpi { s.cpi with tetherTx := some .notice, lastSide := some .cpi }
     u.cpi.tetherTx = some .notice ∧ u.cpi.lastSide = some .cpi ∧ u.flc.hold = none ∧ u.flc.pages = [] ∧
      u.flc.frame = some { shortFrame 1 2 with kind := .exported 3 12, cut := true } ∧
      fed (after .tetherPacketSent u) = [.frameEnd true] ∧
      (after .tetherPacketSent u).cpi.room.completions.map (fun r => (r.ending, r.reason)) = [(.failed, .feedCut)]) := by
  simp only [State.takes, Cpi.hears, Cpi.linkFree]; decide +kernel

/-! #### Store jobs -/

/-- The example's store with a job ahead, READY, and the feed ready for an export. -/
def queued : State :=
  (exampleStore.withFlc feeding.flc).withLsc { exampleStore.lsc with queue := [jobOf .saveSettings .running none] }

theorem test_hyps_jobs_join :
    queued.takes .panel ∧ queued.lsc.mode = .ready ∧ queued.lsc.queue ≠ [] ∧ queued.lsc.queue.length < 16 ∧
    currentLesson queued.lsc.lessons = some 3 ∧ queued.cpi.allows .panel 3 .toSave = true ∧
    queued.cpi.allows .panel 3 .toShow = true ∧ queued.cpi.allows .panel 3 .toExport = true ∧
    queued.spm.find .latest = some 2 ∧ (queued.spm.slot 2).content = .liveFrame 120 ∧ queued.spm.pinCount < 2 ∧
    (lessonAt queued.lsc.lessons 3).pages[0]? = some (pageRec 12 5 .kept) ∧ (lessonAt queued.lsc.lessons 3).lock = false ∧
    (lessonAt queued.lsc.lessons 3).kept = false ∧ (lessonAt queued.lsc.lessons 3).state ≠ .empty ∧
    queued.flc.agreement = .feedUp ∧ queued.flc.result = some ⟨4, 30, false, true⟩ := by
  simp only [State.takes, Cpi.hears]; decide +kernel

theorem test_hyps_jobs_checked :
    (asCommand (.recall hp [3, 2]) = some (35, hp, [3, 2]) ∧ namedCommand (.recall hp [3, 2]) = true ∧
      lengthAllowed 35 2 = true ∧ exampleStore.takes .panel ∧ exampleStore.lsc.mode ≠ .starting ∧
      exampleStore.jobChecks .panel 35 [3, 2] =
        [(true, .noSuchLesson), (true, .outOfReach)] ++ (false, .noSuchPage) :: [(true, .queueFull)]) ∧
    (State.reset.takes .panel ∧ State.reset.lsc.mode = .starting) ∧
    ((ready.jobChecks .panel 34 [0])[1]? = some (false, .notOpen) ∧ (ready.jobChecks .panel 44 [])[1]? = some (true, .queueFull)) := by
  simp only [State.takes, Cpi.hears]; decide +kernel

/-- A queue of two jobs that have not begun, with nothing in progress on the flash. -/
def twoJobs : State :=
  exampleStore.withLsc { exampleStore.lsc with
    queue := [jobOf (.recall 3 0) .waitSlot (some 12), { jobOf (.delete 3 0) .queued (some 99) with marker := 51 }] }

theorem test_hyps_withdrawals :
    (twoJobs.takes .room ∧ twoJobs.lsc.mode = .ready ∧ twoJobs.lsc.activity = .idle ∧
      twoJobs.lsc.queue = [] ++ jobOf (.recall 3 0) .waitSlot (some 12) :: [{ jobOf (.delete 3 0) .queued (some 99) with marker := 51 }] ∧
      (∀ r ∈ recordsOf twoJobs.lsc.lessons, r.serial ≠ 99)) ∧
    ((∀ j ∈ twoJobs.lsc.queue, ¬ (j.port = .panel ∧ j.marker = 7)) ∧ twoJobs.takes .panel ∧ State.reset.takes .panel) ∧
    (queued.takes .room ∧ queued.lsc.queue = [] ++ jobOf .saveSettings .running none :: []) := by
  simp only [State.takes, Cpi.hears]; decide +kernel

/-- A RECALL that begins its run when the job before it is withdrawn, with a slot to take and without. -/
theorem test_hyps_next_job_begins :
    let next := { jobOf (.recall 3 0) .queued (some 12) with marker := 51 }
    let before := jobOf (.recall 3 1) .waitSlot (some 13)
    let s := exampleStore.withLsc { exampleStore.lsc with queue := [before, next] }
    holdsPage s.lsc.lessons 3 12 ∧
    (s.takes .room ∧ s.lsc.mode ≠ .starting ∧ s.lsc.activity = .idle ∧ s.lsc.queue = [] ++ before :: [next] ∧
      before.state ≠ .running ∧ before.pin = none ∧
      (recordsOf s.lsc.lessons).find? (·.serial == 12) = some (pageRec 12 5 .kept) ∧ s.spm.lowestFree = some 0 ∧
      2 ≤ s.spm.freeCount ∧ (s.withSpm full.spm).spm.freeCount < 2 ∧ (s.withSpm full.spm).takes .room) := by
  refine ⟨example_holds.1, ?_⟩
  simp only [State.takes, Cpi.hears]; decide +kernel

theorem test_hyps_edits :
    ((spent exampleStore).takes .panel ∧ (spent exampleStore).lsc.catSeq = 0xFFFFFFFF) ∧
    (exampleStore.takes .panel ∧ exampleStore.lsc.mode = .ready ∧ exampleStore.lsc.queue = [] ∧ exampleStore.lsc.activity = .idle ∧
      exampleStore.lsc.catSeq ≠ 0xFFFFFFFF ∧ exampleStore.cpi.allows .panel 31 .toSave = true ∧
      currentLesson exampleStore.lsc.lessons = some 3 ∧ (lessonAt exampleStore.lsc.lessons 3).kept = false ∧
      (lessonAt exampleStore.lsc.lessons 3).state ≠ .empty ∧ exampleStore.lsc.due = false ∧
      (lessonAt exampleStore.lsc.lessons 3).pages[1]? = some (pageRec 13 6 .kept)) ∧
    (∀ (k : Nat) (x : LessonRecord) (i : Nat) (y : PageRecord), exampleStore.lsc.lessons[k]? = some x → x.pages[i]? = some y →
      y.serial = 13 → k = 3 ∧ i = 1) := by
  refine ⟨by simp only [State.takes, Cpi.hears]; decide +kernel, by simp only [State.takes, Cpi.hears]; decide +kernel, ?_⟩
  have table : ∀ k < 32, ∀ i < 5, ((exampleStore.lsc.lessons[k]?).bind fun x => x.pages[i]?).map (·.serial) = some 13 →
      k = 3 ∧ i = 1 := by decide +kernel
  have pages : ∀ x ∈ exampleStore.lsc.lessons, x.pages.length ≤ 5 := by decide +kernel
  intro k x i y hx hy hs
  obtain ⟨hk, -⟩ := List.getElem?_eq_some_iff.mp hx
  obtain ⟨hi, -⟩ := List.getElem?_eq_some_iff.mp hy
  refine table k hk i (Nat.lt_of_lt_of_le hi (pages x (List.mem_of_getElem? hx))) ?_
  rw [hx]; simp only [Option.bind_some]; rw [hy]; simp only [Option.map_some, hs]

theorem test_hyps_runs_that_fail :
    let capture : Capture := ⟨.full, ⟨0, 0, 3840, 2880⟩, 120, 1920, 1440, 256⟩
    (exampleStore.withLsc { exampleStore.lsc with mode := .readOnly }).lsc.mode = .readOnly ∧
    ((jobOf (.store 4 capture) .queued none).task = .store 4 capture ∧ (lessonAt exampleStore.lsc.lessons 4).state ≠ .opened) ∧
    ((lessonAt (lessonThree (List.replicate 64 (pageRec 1 1 .kept))) 3).state = .opened ∧
      64 ≤ (lessonAt (lessonThree (List.replicate 64 (pageRec 1 1 .kept))) 3).pages.length) ∧
    (∀ p < 510, p ∈ List.range 510) ∧
    ((lessonAt ready.lsc.lessons 3).kept = false ∧ feeding.flc.agreement = .feedUp ∧ ready.flc.agreement ≠ .feedUp) := by
  refine ⟨rfl, by decide +kernel, by decide +kernel, fun p h => List.mem_range.mpr h, by decide +kernel⟩

/-- A job whose serial's lesson is lesson 3, which is locked and kept. -/
def lockedStore : State :=
  exampleStore.withLsc { exampleStore.lsc with
    lessons := exampleLessons.modify 3 fun r => { r with kept := true, lock := true } }

theorem test_hyps_locked_lesson :
    (jobOf (.exportPage 3 0) .queued (some 12)).serial = some 12 ∧
    lockedStore.lsc.lessons[3]? = some { (lessonAt exampleLessons 3) with kept := true, lock := true } ∧
    (∃ r ∈ (lessonAt lockedStore.lsc.lessons 3).pages, r.serial = 12) ∧
    (∀ i < 3, ∀ r ∈ (lessonAt lockedStore.lsc.lessons i).pages, r.serial ≠ 12) ∧ lockedStore.lsc.mode = .ready := by
  decide +kernel

/-- A job that fails at its run behind a job that is withdrawn. -/
theorem test_hyps_run_fails_behind :
    twoJobs.takes .room ∧ twoJobs.lsc.mode ≠ .starting ∧ twoJobs.lsc.activity = .idle ∧
    twoJobs.lsc.queue = [jobOf (.recall 3 0) .waitSlot (some 12), { jobOf (.delete 3 0) .queued (some 99) with marker := 51 }] ∧
    (jobOf (.recall 3 0) .waitSlot (some 12)).pin = none ∧
    (after (.withdraw hr [50]) twoJobs).lsc.queue = [] ∧
    (after (.withdraw hr [50]) twoJobs).cpi.room.completions.map (fun r => (r.marker, r.ending, r.reason)) =
      [(50, .withdrawn, .noReason), (51, .failed, .noSuchPage)] := by
  simp only [State.takes, Cpi.hears]; decide +kernel

/-! #### The catalogue, the STORE run, loads, the recovery -/

/-- A catalogue write in some phase, of an image with so many bytes. -/
def writingState (owner : WriteOwner) (bytes : List Byte) (attempt : Nat) (phase : WritePhase) (queue : List Job) : State :=
  exampleStore.withLsc { exampleStore.lsc with
    flash := some (.erase 24), queue := queue,
    activity := .writing { owner := owner, image := exampleStore.lsc.image, attempt := attempt, block := 24, bytes := bytes, phase := phase } }

theorem test_hyps_catalogue_write :
    (ready.powered = true ∧ (writingState .recovery [] 1 .erase []).lsc.flash = some (.erase 24) ∧
      (writingState .recovery [] 1 .erase []).lsc.queue = [] ∧ (writingState .job [] 4 .erase [jobOf .saveSettings .running none]).lsc.queue =
        [jobOf .saveSettings .running none]) ∧
    (0 + 1 < max 1 (((List.replicate 2049 (0 : Byte)).length + 2047) / 2048) ∧
      ¬ 0 + 1 < max 1 (((List.replicate 2048 (0 : Byte)).length + 2047) / 2048)) ∧
    (3 < 4 ∧ (writingState .job [] 3 .erase []).lsc.catSeq ≠ 0xFFFFFFFF ∧
      (jobOf (.recall 3 0) .running (some 12)).task = .recall 3 0) := by
  refine ⟨by decide +kernel, by simp only [List.length_replicate]; decide, by decide +kernel⟩

theorem test_hyps_store_begins :
    exampleStore.takes .room ∧ (spent exampleStore).takes .room ∧ (spent exampleStore).lsc.catSeq = 0xFFFFFFFF ∧
    currentLesson exampleStore.lsc.lessons = some 3 ∧
    exampleStore.cpi.allows .room 3 .toSave = true ∧ exampleStore.spm.pinCount < 2 ∧
    (lessonAt exampleStore.lsc.lessons 3).pages.length < 64 ∧ (recordsOf exampleStore.lsc.lessons).length ≤ 510 ∧
    ¬ (7 ∈ exampleStore.lsc.retired ∨ ∃ r ∈ recordsOf exampleStore.lsc.lessons, r.place = 7) ∧
    (∀ i < 7, i ∈ exampleStore.lsc.retired ∨ ∃ r ∈ recordsOf exampleStore.lsc.lessons, r.place = i) ∧
    ¬ (∃ r ∈ recordsOf exampleStore.lsc.lessons, r.serial = exampleStore.lsc.nextSerial + BitVec.ofNat 16 0) := by
  simp only [State.takes, Cpi.hears]; decide +kernel

/-- The STORE run of the example in some activity, with its record of serial 15 in place 7. -/
def storeRun (activity : Activity) (stage : StoreStage) (retries : Nat) : State :=
  storing.withLsc { storing.lsc with
    activity := activity,
    lessons := changeRecord storing.lsc.lessons 15 fun r => { r with crc := some 0 },
    queue := storing.lsc.queue.map fun j => { j with stage := stage, retries := retries } }

theorem test_hyps_store_run :
    let s := storeRun (.readingBack { page := 2025, crc := 0xFFFFFFFF, sound := true }) .readBack 2
    s.powered = true ∧ s.lsc.flash.isSome = true ∧ s.lsc.queue.length = 1 ∧
    (s.lsc.queue.map fun j => (j.serial, j.pin, j.retries, j.task.lesson)) = [(some 15, some 2, 2, some 3)] ∧
    (recordsOf s.lsc.lessons).find? (·.serial == 15) =
      some { pageRec 15 7 .writing with crop := .fullFallback, frame := 120, crc := some 0 } ∧
    ~~~ (crcRun 0xFFFFFFFF []) = (0 : Quad) ∧ s.lsc.catSeq ≠ 0xFFFFFFFF ∧ (spent s).lsc.catSeq = 0xFFFFFFFF ∧
    s.lsc.retryLimit ≤ 2 ∧ 0 < s.lsc.retryLimit ∧
    imagePages ([] : List Byte).length ≤ 0 + 1 := by decide +kernel

theorem test_hyps_store_fails :
    let s := storeRun (.erasing 31) .erase 0
    s.lsc.activity = .erasing 31 ∧ ¬ (8 ∈ s.lsc.retired ∨ 8 = 7 ∨ ∃ x ∈ recordsOf s.lsc.lessons, x.place = 8) ∧
    (∀ i < 8, i ∈ s.lsc.retired ∨ i = 7 ∨ ∃ x ∈ recordsOf s.lsc.lessons, x.place = i) ∧
    (∀ p < 510, p ∈ List.range 510) := by
  refine ⟨rfl, by decide +kernel, by decide +kernel, fun p h => List.mem_range.mpr h⟩

/-- The last writes of a STORE run, and headers of two serials. -/
theorem test_hyps_store_writes :
    (let keeping := { storing.lsc.queue.headD (jobOf .saveSettings .running none) with stage := .keep, pin := none }
     (writingState .job [] 4 (.readBack 0) [keeping]).lsc.queue = [keeping] ∧ keeping.stage = .keep ∧
     keeping.task.lesson = some 3 ∧ ([] : List Byte) ≠ imagePage [] 0) ∧
    (let h := (pageRec 15 7 .writing).header 3 0
     h.inRange = true ∧ ((pageRec 14 7 .writing).header 3 0).inRange = true ∧ h.serial = 15) := by decide +kernel

/-- A load in its last read. -/
def loadingState (task : JobTask) (page : Nat) (mode : StoreMode) : State :=
  (exampleStore.withFlc feeding.flc).withLsc { exampleStore.lsc with
    mode := mode, queue := [jobOf task .running (some 12)], flash := some (.read 224 0),
    activity := .loading 0 { page := page, crc := 0xFFFFFFFF, sound := true },
    lessons := changeRecord exampleLessons 12 fun r => { r with crc := some 0 } }

theorem test_hyps_loads :
    (holdsPage exampleStore.lsc.lessons (3 : Byte).toNat 12 ∧ holdsPage (loadingState (.recall 3 0) 2025 .ready).lsc.lessons 3 12) ∧
    (spent (loadingState (.recall 3 0) 2025 .ready)).lsc.catSeq = 0xFFFFFFFF ∧
    (exampleStore.takes .panel ∧ 2 ≤ exampleStore.spm.freeCount ∧ 0 < exampleStore.spm.slots.length ∧
      (exampleStore.spm.slot 0).holders = noHolders ∧ (lessonAt exampleStore.lsc.lessons 3).pages[0]? = some (pageRec 12 5 .kept) ∧
      (recordsOf exampleStore.lsc.lessons).find? (·.serial == 12) = some (pageRec 12 5 .kept)) ∧
    (full.spm.freeCount < 2 ∧ full.takes .panel) ∧
    (let s := loadingState (.recall 3 0) 2025 .ready
     s.powered = true ∧ s.lsc.queue = [jobOf (.recall 3 0) .running (some 12)] ∧
     (recordsOf s.lsc.lessons).find? (·.serial == 12) = some { pageRec 12 5 .kept with crc := some 0 } ∧
     ~~~ (crcRun 0xFFFFFFFF []) = (0 : Quad) ∧ ~~~ (crcRun 0xFFFFFFFF [0]) ≠ (0 : Quad) ∧ s.lsc.catSeq ≠ 0xFFFFFFFF ∧
     s.flc.agreement = .feedUp ∧ s.flc.result.map (·.exporting) = some true) ∧
    ((loadingState (.exportPage 3 0) 2025 .readOnly).lsc.mode = .readOnly ∧ 2024 < 2025) ∧
    (exampleStore.flc.agreement ≠ .feedUp ∧ exampleStore.cpi.allows .panel 3 .toExport = true ∧
      (queued.flc.agreement = .feedUp ∧ queued.flc.result.map (·.exporting) = some true) ∧
      ∀ x ∈ exampleStore.lsc.lessons, x.lock = false) := by
  refine ⟨example_holds, rfl, ?_⟩
  simp only [State.takes, Cpi.hears]; decide +kernel

/-- An image with a WRITING record, and one without. -/
def imageWith (lessons : List LessonRecord) : CatalogueImage :=
  { sequence := 1042, lessons := lessons, retired := [], nextSerial := 15, saved := Config.factorySettings }

/-- The recovery at a page of a block, with the best image found so far. -/
def recoveringAt (block page : Nat) (best : Option (Nat × CatalogueImage)) : State :=
  State.reset.withLsc { resetLsc with
    activity := .recovering { block := block, page := page, bytes := [], best := best }, flash := some (.read block page) }

theorem test_hyps_recovery :
    (State.reset.powered = true ∧ (recoveringAt 63 1 none).lsc.flash = some (.read 63 1) ∧ (62 : Nat) < 63) ∧
    (∃ r ∈ recordsOf (imageWith (lessonThree [pageRec 14 7 .writing])).lessons, r.state = .writing) ∧
    (∀ r ∈ recordsOf (imageWith (lessonThree [])).lessons, r.state ≠ .writing) ∧
    (imageWith (lessonThree [pageRec 14 7 .writing])).sequence ≠ 0xFFFFFFFF ∧
    { imageWith (lessonThree [pageRec 14 7 .writing]) with sequence := 0xFFFFFFFF }.inRange = true ∧
    (imageWith (lessonThree [pageRec 14 7 .writing])).inRange = true ∧ (imageWith (lessonThree [])).inRange = true := by
  decide +kernel

/-- First pages of every layout of images: one that begins no image, and one that begins an image which goes on. -/
theorem test_hyps_recovery_first_pages :
    ¬ (Config.catalogue.parts.mark <+: ([] : List Byte)) ∧
    ∃ x : List Byte, Config.catalogue.parts.mark <+: x ∧ imageLength x = 4096 ∧ ¬ max 1 ((imageLength x + 2047) / 2048) ≤ 0 + 1 := by
  refine ⟨fun h => Config.catalogue.markNotEmpty (List.prefix_nil.mp h), Config.catalogue.parts.preamble 4096 0, ?_, ?_⟩
  · exact ⟨_, (List.append_assoc ..).symm⟩
  · have h : imageLength (Config.catalogue.parts.preamble 4096 0) = 4096 := by
      unfold imageLength
      simpa using Config.catalogue.readsLength 4096 0 [] (by decide)
    rw [h]
    decide

/-- The last page read of a valid image of every layout: its bytes so far and no byte more. -/
theorem test_hyps_recovery_last_page :
    ∃ (v : RecoveryRead) (i : CatalogueImage), v.page ≠ 0 ∧ i.inRange = true ∧ i.sequence = 1042 ∧ validImage (v.bytes ++ []) = some i ∧
      max 1 ((imageLength (v.bytes ++ []) + 2047) / 2048) ≤ v.page + 1 := by
  have hi : (imageWith (lessonThree [])).inRange = true := by decide +kernel
  generalize hg : imageWith (lessonThree []) = i at hi
  have length : imageLength i.bytes = i.bytes.length := by
    have fits := Config.catalogue.imageFits i hi
    have e := Config.catalogue.readsLength (Config.catalogue.parts.imageLength i) i.sequence
      (Config.catalogue.parts.tables i ++ Config.catalogue.parts.crcField (crc32 (Config.catalogue.parts.covered i)))
      (by rw [← i.bytes_length]; exact fits)
    rw [i.bytes_length, ← e]
    unfold imageLength CatalogueImage.bytes CatalogueParts.image CatalogueParts.covered
    rw [List.append_assoc]
  refine ⟨{ block := 63, page := 63, bytes := i.bytes, best := none }, i, Nat.succ_ne_zero 62, hi, by rw [← hg]; rfl, ?_, ?_⟩
  · have wide := Config.catalogue.crcWide (crc32 (Config.catalogue.parts.covered i))
    have e : i.bytes = Config.catalogue.parts.covered i ++ Config.catalogue.parts.crcField (crc32 (Config.catalogue.parts.covered i)) := rfl
    have cut : i.bytes.take (i.bytes.length - 4) = Config.catalogue.parts.covered i := by
      rw [e, List.length_append, wide, Nat.add_sub_cancel, List.take_left']
      rfl
    unfold validImage
    simp only [List.append_nil, length, List.take_length, cut]
    rw [if_pos]
    · rw [show i.bytes = Config.catalogue.parts.image i from rfl, Config.catalogue.readsBack i hi]; rfl
    · rw [e, Config.catalogue.readsCrc]
  · rw [List.append_nil, length]
    have fits : i.bytes.length ≤ 131072 := Config.catalogue.imageFits i hi
    dsimp only
    omega

/-- RESTART with a STORE's WRITING record, without one, with the due flag set. -/
theorem test_hyps_whole_part :
    (ready.takes .room ∧ hr.port ≠ .panel ∧ State.reset.takes .panel ∧ State.reset.lsc.mode = .starting ∧ ready.takes .panel ∧
      ready.lsc.mode ≠ .starting ∧ ready.lsc.due = false) ∧
    (storing.takes .panel ∧ storing.lsc.queue.head?.isSome = true ∧
      ((recordsOf storing.lsc.lessons).find? (·.serial == 15)).map (·.state) = some .writing ∧ storing.lsc.mode = .ready ∧
      storing.lsc.catSeq ≠ 0xFFFFFFFF ∧ (spent storing).lsc.catSeq = 0xFFFFFFFF ∧ (spent storing).takes .panel) := by
  simp only [State.takes, Cpi.hears]; decide +kernel

end Sys2Proof.Tests
end

/-! The classifier's decision of a tile (02 R17, R18): what each match kind tests, and which entry of the table decides. -/

namespace Sys2Proof.Machine

/-! ### What an entry's test says (02 R17) -/

section Fits
variable {e : ClassifierEntry} (sig : Nat)

theorem ClassifierEntry.fits_iff_of_range (h : e.kind = .range) : e.fits sig = true ↔ e.a ≤ sig ∧ sig ≤ e.b := by
  simp [ClassifierEntry.fits, h]

theorem ClassifierEntry.fits_iff_of_pair (h : e.kind = .pair) : e.fits sig = true ↔ sig = e.a ∨ sig = e.b := by
  simp [ClassifierEntry.fits, h]

theorem ClassifierEntry.fits_iff_of_mask (h : e.kind = .mask) : e.fits sig = true ↔ sig &&& e.b = e.a &&& e.b := by
  simp [ClassifierEntry.fits, h]

end Fits

/-! ### Which entry decides (02 R18) -/

section Decision
variable {c : Classifier} {sig : Nat}

/-- An entry that is enabled and fits decides when no entry of a lower index is enabled and fits. -/
theorem Classifier.decision_of_first {k : Nat} {e : ClassifierEntry} (at_k : c.entries[k]? = some e)
    (hit : e.enabled = true ∧ e.fits sig = true)
    (first : ∀ (j : Nat) (e' : ClassifierEntry), j < k → c.entries[j]? = some e' →
      ¬ (e'.enabled = true ∧ e'.fits sig = true)) :
    c.decision sig = { action := e.action, text := e.text } := by
  obtain ⟨hk, rfl⟩ := List.getElem?_eq_some_iff.mp at_k
  have found : c.entries.find? (fun e => e.enabled && e.fits sig) = some c.entries[k] := by
    refine List.find?_eq_some_iff_getElem.mpr ⟨by simpa using hit, k, hk, rfl, fun j hj => ?_⟩
    simpa [or_iff_not_imp_left] using first j _ hj (List.getElem?_eq_getElem (hj.trans hk))
  simp only [Classifier.decision, found]

/-- The default action decides when no entry is enabled and fits. -/
theorem Classifier.decision_of_no_hit (miss : ∀ e ∈ c.entries, ¬ (e.enabled = true ∧ e.fits sig = true)) :
    c.decision sig = c.fallback := by
  have absent : c.entries.find? (fun e => e.enabled && e.fits sig) = none :=
    List.find?_eq_none.mpr fun e he => by simpa using miss e he
  simp only [Classifier.decision, absent]

end Decision

/-- Settles O34: an entry hits exactly when it is enabled and its `fits` test holds, by the entry's match kind; the rest is
the search for the first entry that hits. -/
theorem firstMatchDecides : Obligations.FirstMatchDecides := by
  unfold Obligations.FirstMatchDecides
  intro c sig hits
  have hits_iff (e : ClassifierEntry) : hits e ↔ e.enabled = true ∧ e.fits sig = true := by
    cases kind : e.kind with
    | range => simp only [hits, kind, e.fits_iff_of_range sig kind]
    | pair => simp only [hits, kind, e.fits_iff_of_pair sig kind]
    | mask => simp only [hits, kind, e.fits_iff_of_mask sig kind]
  simp only [hits_iff]
  exact ⟨fun _ _ => Classifier.decision_of_first, Classifier.decision_of_no_hit⟩

end Sys2Proof.Machine

/-! The arithmetic of one enhanced pixel (03 R40, R42): whitening, coring, gain and clip. -/

namespace Sys2Proof.Machine

theorem Profile.inRange_iff {p : Profile} : p.inRange = true ↔ p.g ≤ 63 ∧ p.c ≤ 63 ∧ p.s ≤ 16 ∧ p.l ≤ 255 := by
  simp [Profile.inRange, and_assoc]

/-! ### Whitening (03 R40) -/

section Whitening
variable {p : Profile} {ws y : Nat}

/-- The offset lifts a pixel by at most the distance between the tile's paper white and full white. -/
theorem whiteningOffset_le (hs : p.s ≤ 16) : whiteningOffset p ws ≤ 1023 - ws :=
  Nat.div_le_of_le_mul (Nat.mul_le_mul_right _ hs)

theorem whiteningOffset_of_full (hs : p.s = 16) : whiteningOffset p ws = 1023 - ws := by
  rw [whiteningOffset, hs, Nat.mul_div_cancel_left _ (by decide)]

theorem whiteningOffset_eq_zero (h : p.s = 0 ∨ ws = 1023) : whiteningOffset p ws = 0 := by
  rcases h with hs | rfl
  · simp [whiteningOffset, hs]
  · simp [whiteningOffset]

theorem whitened_of_le (h : y + whiteningOffset p ws ≤ 1023) : whitened p ws y = y + whiteningOffset p ws :=
  min_eq_right h

theorem whitened_of_ge (h : 1023 ≤ y + whiteningOffset p ws) : whitened p ws y = 1023 :=
  min_eq_left h

theorem le_whitened (hy : y ≤ 1023) : y ≤ whitened p ws y :=
  le_min hy (Nat.le_add_right ..)

/-- Without an offset the pixel stays as it arrived. -/
theorem whitened_of_no_lift (h : p.s = 0 ∨ ws = 1023) (hy : y ≤ 1023) : whitened p ws y = y := by
  rw [whitened, whiteningOffset_eq_zero h, Nat.add_zero, min_eq_right hy]

/-- At full strength the paper itself becomes full white. -/
theorem whitened_paper (hs : p.s = 16) (hws : ws ≤ 1023) : whitened p ws ws = 1023 := by
  rw [whitened, whiteningOffset_of_full hs, Nat.add_sub_cancel' hws, min_self]

end Whitening

/-! ### Coring (03 R42) -/

section Coring
variable {c : Nat} {d : Int}

theorem cored_of_small (hl : -(c : Int) ≤ d) (hu : d ≤ c) : cored c d = 0 := by
  rw [cored, if_neg hu.not_gt, if_neg hl.not_gt]

theorem cored_of_light (h : (c : Int) < d) : cored c d = d - c := if_pos h

theorem cored_of_dark (h : d < -(c : Int)) : cored c d = d + c := by
  rw [cored, if_neg (by omega), if_pos h]

/-- Coring treats light and dark details alike. -/
theorem cored_neg (c : Nat) (d : Int) : cored c (-d) = -cored c d := by
  rcases lt_or_ge (c : Int) d with light | not_light
  · rw [cored_of_light light, cored_of_dark (neg_lt_neg light)]; omega
  rcases lt_or_ge d (-(c : Int)) with dark | not_dark
  · rw [cored_of_dark dark, cored_of_light (lt_neg_of_lt_neg dark)]; omega
  · rw [cored_of_small not_dark not_light, cored_of_small (by omega) (by omega), neg_zero]

theorem natAbs_cored_le (c : Nat) (d : Int) : (cored c d).natAbs ≤ d.natAbs := by
  rcases lt_or_ge (c : Int) d with light | not_light
  · rw [cored_of_light light]; omega
  rcases lt_or_ge d (-(c : Int)) with dark | not_dark
  · rw [cored_of_dark dark]; omega
  · rw [cored_of_small not_dark not_light]; exact Nat.zero_le _

end Coring

/-! ### Gain and clip (03 R42) -/

section Gain
variable {p : Profile} {d : Int}

/-- A negative dividend is truncated toward zero as its opposite is. -/
theorem tdiv_of_neg {a : Int} (h : a < 0) (b : Int) : a.tdiv b = -(-a / b) := by
  rw [← Int.tdiv_eq_ediv_of_nonneg (by omega : 0 ≤ -a), Int.neg_tdiv, neg_neg]

/-- The largest detail under the largest gain gives 1023 x 63 / 16 = 4028 before the clip. -/
theorem natAbs_gain_le (hg : p.g ≤ 63) (hd : d.natAbs ≤ 1023) :
    (Int.tdiv (cored p.c d * p.g) 16).natAbs ≤ 4028 := by
  have product : (cored p.c d * p.g).natAbs ≤ 1023 * 63 := by
    rw [Int.natAbs_mul, Int.natAbs_natCast]
    exact Nat.mul_le_mul ((natAbs_cored_le p.c d).trans hd) hg
  rw [Int.natAbs_tdiv]
  exact Nat.div_le_div_right product

/-- Dark edges are sharpened by the same amount as light ones. -/
theorem detailStep_neg (p : Profile) (d : Int) : detailStep p (-d) = -detailStep p d := by
  rw [detailStep, detailStep, cored_neg, neg_mul, Int.neg_tdiv]
  omega

theorem detailStep_of_no_limit (hl : p.l = 0) : detailStep p d = 0 := by
  rw [detailStep, hl]
  omega

end Gain

/-- Settles O36: the whitening facts follow from the bound S ≤ 16 on the offset; the detail step is odd in the detail because
coring and truncated division are, and |A0| ≤ 4028 because coring does not enlarge a detail. -/
theorem pixelStepsTaken : Obligations.PixelStepsTaken := by
  unfold Obligations.PixelStepsTaken
  refine ⟨fun p ws y range hws hy => ?_, fun p d range lower upper => ?_⟩
  · obtain ⟨-, -, hs, -⟩ := Profile.inRange_iff.mp range
    exact ⟨rfl, (whiteningOffset_le hs).trans (Nat.sub_le ..), whitened_of_le, whitened_of_ge, le_whitened hy,
      fun no_lift => whitened_of_no_lift no_lift hy, fun full => whitened_paper full hws⟩
  · obtain ⟨hg, -, -, -⟩ := Profile.inRange_iff.mp range
    have magnitude := natAbs_gain_le (p := p) hg (by omega : d.natAbs ≤ 1023)
    exact ⟨cored_of_small, cored_of_light, cored_of_dark, Int.tdiv_eq_ediv_of_nonneg, fun neg => tdiv_of_neg neg 16,
      by omega, by omega, rfl, detailStep_neg p d, detailStep_of_no_limit⟩

end Sys2Proof.Machine

/-! What an arrival can do, said once: the changes that a command's work can make (`State.Worked`), the changes that any arrival can
make before the sendings at its end (`State.Effect`), and that every arrival of a powered part makes one of them. -/

namespace Sys2Proof.Machine

/-! ### What a command's work can change -/

/-- The changes of the state that the work of a command can make, FEED_RESTART and RESTART aside: those two are followed by what waits
for the tether link. -/
inductive State.Worked (s : State) (p : Port) : State → Prop
  | nothing : s.Worked p s
  | aimed (tx ty : Nat) (hx : tx ≤ 3839) (hy : ty ≤ 2879) : s.Worked p (s.aim tx ty).viewChanged
  | zoomed (zt glide : Nat) (watch : Option GlideWatch) (low : 256 ≤ zt) (high : zt ≤ 4096) (rate : glide ≤ max 255 s.vwc.glide) :
      s.Worked p ((s.endWatch .superseded).withVwc
        { (s.endWatch .superseded).vwc with zt := zt, glide := glide, watch := watch }).viewChanged
  | fitted : s.Worked p s.fitPage.viewChanged
  | frozen (n : Nat) (latest : s.spm.find .latest = some n) : s.Worked p (s.freeze n).viewChanged
  | unfrozen : s.Worked p s.unfreeze.viewChanged
  | laidOut (l : Layout) : s.Worked p (s.withVwc { s.vwc with layout := l }).rework.viewChanged
  | shownLive : s.Worked p s.showLive.viewChanged
  | glideSet (r : Nat) (rate : r ≤ 255) : s.Worked p (s.withVwc { s.vwc with glide := r }).viewChanged
  | thresholdSet (v : Nat) (hv : v ≤ 255) : s.Worked p (s.withTsu { s.tsu with threshold := v })
  | entriesSet (l : List ClassifierEntry) (length : l.length = s.tcl.table.entries.length)
      (range : s.tcl.table.entries.all ClassifierEntry.inRange = true → l.all ClassifierEntry.inRange = true) :
      s.Worked p (s.setEntries l)
  | fallbackSet (d : DefaultAction) : s.Worked p (s.withTcl { s.tcl with table := { s.tcl.table with fallback := d } })
  | quorumSet (q : Nat) (low : 1 ≤ q) (high : q ≤ 255) : s.Worked p (s.withTcl { s.tcl with table := { s.tcl.table with quorum := q } })
  | profilesSet (l : List Profile) (range : profilesInRange s.peu.profiles = true → profilesInRange l = true) :
      s.Worked p (s.withPeu { s.peu with profiles := l })
  | pendingModeSet (m : Nat) (hm : m ≤ 3) : s.Worked p (s.withDou { s.dou with pendingMode := m })
  | outputRestarted : s.Worked p s.restartOutput
  | blanked (b : Bool) : s.Worked p (s.withDou { s.dou with blank := b })
  | notesSet (l : List Note) : s.Worked p (s.withFlc { s.flc with notes := l })
  | marksSet (m : FeedMarks) (range : m.inRange = true) : s.Worked p (s.withFlc { s.flc with marks := m })
  | drawn : s.Worked p (s.withFreeCount (s.freeCount + 1))
  | stored (h : CmdHeader) (k : CropAsked) (mode : s.lsc.mode ≠ .starting) (room : s.lsc.queue.length < 16) :
      s.Worked p (s.acceptStore h k)
  | queued (h : CmdHeader) (task : JobTask) (serial : Option Half) (mode : s.lsc.mode ≠ .starting) (room : s.lsc.queue.length < 16)
      (names : ∀ l name, task = .nameLesson l name → nameInRange name = true) (other : ∀ l c, task ≠ .store l c) :
      s.Worked p (s.enqueue (newJob h task serial none))
  | withdrawn (n : Nat) (mode : s.lsc.mode ≠ .starting) : s.Worked p (s.withdrawAt n).1
  | retryLimitSet (n : Nat) (hn : n ≤ 3) : s.Worked p (s.withLsc { s.lsc with retryLimit := n })
  | completionsRead : s.Worked p (s.completionsRead p)
  | noticesRead : s.Worked p (s.changePort p fun x => { x with flags := 0 })
  | enablesSet (e : Quad) (range : enablesInRange e = true) : s.Worked p (s.changePort p fun x => x.enable e)
  | reachSet (room : Bool) (i : Nat) (w : ReachWindow) (range : w.inRange = true) : s.Worked p (s.setReach room i w)
  | countersCleared : s.Worked p (s.withCpi { s.cpi with counters := List.replicate 8 0, halfFlags := 0 })
  | halfMasksSet (m : Byte) : s.Worked p (s.withCpi { s.cpi with halfMasks := m })

/-- What a command of a kind can do, with its answer: FEED_RESTART and RESTART are the only ones that are followed by what waits for the
tether link. -/
inductive State.Does (s : State) (p : Port) (kind : Byte) : State × Answer → Prop
  | worked {u : State} (a : Answer) (hw : s.Worked p u) (refused : kind = 32 ∨ kind = 59 → a.status = .refused) : s.Does p kind (u, a)
  | feedRestarted (hk : kind = 32) (started : s.flc.started = true) : s.Does p kind (s.restartFeed, done false)
  | restarted (hk : kind = 59) (mode : s.lsc.mode ≠ .starting) : s.Does p kind (s.restart, done false)

section Does
variable {s : State} {p : Port} {kind : Byte}

theorem State.Worked.does {u : State} {a : Answer} (hw : s.Worked p u) (hk : kind ≠ 32 ∧ kind ≠ 59) : s.Does p kind (u, a) :=
  .worked a hw fun h => by rcases h with h | h <;> simp_all

theorem State.Does.refuses (r : Reason) : s.Does p kind (s, refuse r) :=
  .worked _ .nothing fun _ => rfl

theorem State.Does.answers {a : Answer} (hk : kind ≠ 32 ∧ kind ≠ 59) : s.Does p kind (s, a) :=
  State.Worked.nothing.does hk

/-- A command whose length does not fit changes nothing. -/
theorem parsed_does {α : Type} {layout : Option α} {f : α → State → State × Answer}
    (h : ∀ a, layout = some a → s.Does p kind (f a s)) : s.Does p kind (parsed layout f s) := by
  cases layout with
  | none => exact .refuses _
  | some a => exact h a rfl

/-- A view-changing command changes nothing, or makes its change and advances the generation. -/
theorem viewCommand_does {h : CmdHeader} {change : State → State} {clamped : Bool} (hk : kind ≠ 32 ∧ kind ≠ 59)
    (hc : s.Worked p (change s).viewChanged) : s.Does p kind (viewCommand h s change clamped) := by
  unfold viewCommand
  split
  · exact .refuses _
  · exact hc.does hk

theorem zoomCommand_does {h : CmdHeader} {watch : WatchKind} {zt glide : Nat} {wanted clamped : Bool} (hk : kind ≠ 32 ∧ kind ≠ 59)
    (low : 256 ≤ zt) (high : zt ≤ 4096) (rate : glide ≤ max 255 s.vwc.glide) :
    s.Does p kind (zoomCommand h s watch zt glide wanted clamped) := by
  unfold zoomCommand
  split
  · exact .refuses _
  · exact (State.Worked.zoomed zt glide _ low high rate).does hk

theorem firstFailure_none {checks : List (Bool × Reason)} (h : firstFailure checks = none) : ∀ c ∈ checks, c.1 = true := by
  induction checks with
  | nil => simp
  | cons c rest ih =>
    obtain ⟨holds, r⟩ := c
    cases holds
    · simp [firstFailure] at h
    · simpa [firstFailure] using ih h

/-- A store job command changes nothing, or every check holds and it is accepted. -/
theorem storeCommand_does {checks : List (Bool × Reason)} {clamped : Bool} {accept : State → State} (hk : kind ≠ 32 ∧ kind ≠ 59)
    (ha : s.lsc.mode ≠ .starting → (∀ c ∈ checks, c.1 = true) → s.Worked p (accept s)) :
    s.Does p kind (storeCommand s checks clamped accept) := by
  unfold storeCommand
  split
  · exact .refuses _
  · next mode =>
    split
    · exact .refuses _
    · next none => exact (ha mode (firstFailure_none none)).does hk

/-- The check that the queue is not full holds of a queue with room. -/
theorem room_of_checks {checks : List (Bool × Reason)} (h : ∀ c ∈ checks, c.1 = true) (hm : s.lsc.hasRoom ∈ checks) :
    s.lsc.queue.length < 16 := by
  simpa [Lsc.hasRoom] using h _ hm

/-- A store job command other than STORE changes nothing, or its job joins the queue. -/
theorem enqueue_does {h : CmdHeader} {checks : List (Bool × Reason)} {clamped : Bool} {task : JobTask} {serial : Option Half}
    (hk : kind ≠ 32 ∧ kind ≠ 59) (hm : s.lsc.hasRoom ∈ checks) (names : ∀ l name, task = .nameLesson l name → nameInRange name = true)
    (other : ∀ l c, task ≠ .store l c) :
    s.Does p kind (storeCommand s checks clamped fun s => s.enqueue (newJob h task serial none)) :=
  storeCommand_does hk fun mode all => .queued h task serial mode (room_of_checks all hm) names other

end Does

/-! ### Ranges of arguments -/

theorem clampTop_le (hi x : Nat) : (clampTop hi x).1 ≤ hi := Nat.min_le_left ..

theorem clampBetween_mem {lo hi : Nat} (h : lo ≤ hi) (x : Nat) : lo ≤ (clampBetween lo hi x).1 ∧ (clampBetween lo hi x).1 ≤ hi :=
  limit_mem h x

theorem entryArg_inRange (en k a0 a1 b0 b1 ac t : Byte) : (entryArg en k a0 a1 b0 b1 ac t).1.inRange = true := by
  simp [entryArg, ClassifierEntry.inRange, clampTop_le]

theorem profileArg_inRange (g c s l0 l1 : Byte) : (profileArg g c s l0 l1).1.inRange = true := by
  simp [profileArg, Profile.inRange, clampTop_le]

theorem marksArg_inRange (a b c : Byte) : (marksArg a b c).1.inRange = true := by
  have hi := clampBetween_mem (lo := 2) (hi := 64) (by omega) a.toNat
  have lo := clampTop_le ((clampBetween 2 64 a.toNat).1 - 1) b.toNat
  have st := clampBetween_mem (lo := 1) (hi := (clampBetween 2 64 a.toNat).1) (by omega) c.toNat
  have : (marksArg a b c).1 = ⟨_, _, _⟩ := rfl
  simp only [this, FeedMarks.inRange, Bool.and_eq_true, decide_eq_true_eq]
  omega

theorem reachWindowArg_inRange (en b m r : Byte) : (reachWindowArg en b m r).1.inRange = true := by
  simp [reachWindowArg, ReachWindow.inRange, clampTop_le]

theorem enablesInRange_and (e : Quad) : enablesInRange (e &&& eventSet) = true := by
  simp [enablesInRange, BitVec.and_assoc]

theorem nameArg_inRange (name : List Byte) : nameInRange (nameArg name).1 = true := by
  simp only [nameArg, nameInRange, List.length_map, List.length_take, Bool.and_eq_true, decide_eq_true_eq, List.all_map,
    List.all_eq_true, Function.comp_apply, nameByte]
  refine ⟨Nat.min_le_left .., fun b _ => ?_⟩
  split
  · assumption
  · decide

theorem entryList_inRange : ∀ {bytes : List Byte} {l : List (ClassifierEntry × Bool)}, entryList bytes = some l →
    ∀ x ∈ l, x.1.inRange = true
  | [], _, h => by simp_all [entryList]
  | en :: k :: a0 :: a1 :: b0 :: b1 :: ac :: t :: rest, l, h => by
    unfold entryList at h
    cases hr : entryList rest with
    | none => simp [hr] at h
    | some tail =>
      simp only [hr, Option.some.injEq] at h
      subst h
      simpa [entryArg_inRange] using fun a b h => entryList_inRange hr (a, b) h
  | [_], _, h | [_, _], _, h | [_, _, _], _, h | [_, _, _, _], _, h | [_, _, _, _, _], _, h | [_, _, _, _, _, _], _, h
  | [_, _, _, _, _, _, _], _, h => by simp [entryList] at h

theorem profileList_inRange : ∀ {bytes : List Byte} {l : List (Profile × Bool)}, profileList bytes = some l →
    ∀ x ∈ l, x.1.inRange = true
  | [], _, h => by simp_all [profileList]
  | g :: c :: s :: l0 :: l1 :: rest, l, h => by
    unfold profileList at h
    cases hr : profileList rest with
    | none => simp [hr] at h
    | some tail =>
      simp only [hr, Option.some.injEq] at h
      subst h
      simpa [profileArg_inRange] using fun a b h => profileList_inRange hr (a, b) h
  | [_], _, h | [_, _], _, h | [_, _, _], _, h | [_, _, _, _], _, h => by simp [profileList] at h

/-- A list with one element replaced keeps what holds of the old elements and of the new one. -/
theorem all_set {α : Type} {p : α → Bool} {l : List α} (h : l.all p = true) {i : Nat} {a : α} (ha : p a = true) :
    (l.set i a).all p = true := by
  rw [List.all_eq_true] at *
  exact fun x hx => (List.mem_or_eq_of_mem_set hx).elim (h x) fun e => e ▸ ha

theorem writeEntries_length (table : List ClassifierEntry) (first : Nat) (l : List ClassifierEntry) :
    (writeEntries table first l).length = table.length := by
  simp only [writeEntries, List.length_append, List.length_take, List.length_drop]
  omega

theorem writeEntries_inRange {table l : List ClassifierEntry} (first : Nat) (ht : table.all ClassifierEntry.inRange = true)
    (hl : ∀ e ∈ l, e.inRange = true) : (writeEntries table first l).all ClassifierEntry.inRange = true := by
  rw [List.all_eq_true] at *
  intro e he
  simp only [writeEntries, List.mem_append] at he
  rcases he with (he | he) | he
  · exact ht e (List.mem_of_mem_take he)
  · exact hl e (List.mem_of_mem_take he)
  · exact ht e (List.mem_of_mem_drop he)

theorem steppedZoom_mem (zt : Nat) (d : Int) : 256 ≤ (steppedZoom zt d).1 ∧ (steppedZoom zt d).1 ≤ 4096 := by
  have := limitInt_le 4096 (zt + d)
  simp only [steppedZoom]; omega

theorem zoomRate_le (old : Nat) (rate : Option Nat) : (zoomRate old rate).1 ≤ max 255 old := by
  cases rate with
  | none => exact Nat.le_max_right ..
  | some r => exact (clampTop_le 255 r).trans (Nat.le_max_left ..)

/-! ### What each command does -/

section Works
variable (h : CmdHeader) (args : List Byte) (s : State)

theorem workZoom_does : s.Does h.port 1 (workZoom h args s) :=
  parsed_does fun _ _ =>
    have target := clampBetween_mem (by omega : 256 ≤ 4096) _
    zoomCommand_does (by decide) target.1 target.2 (zoomRate_le _ _)

theorem workZoomStep_does : s.Does h.port 2 (workZoomStep h args s) :=
  parsed_does fun a _ =>
    have target := steppedZoom_mem s.vwc.zt a.1
    zoomCommand_does (by decide) target.1 target.2 (Nat.le_max_right ..)

theorem workPan_does : s.Does h.port 3 (workPan h args s) :=
  parsed_does fun _ _ => viewCommand_does (by decide) (.aimed _ _ (limitInt_le ..) (limitInt_le ..))

theorem workCentre_does : s.Does h.port 4 (workCentre h args s) :=
  parsed_does fun _ _ => viewCommand_does (by decide) (.aimed _ _ (clampTop_le ..) (clampTop_le ..))

theorem workFitPage_does : s.Does h.port 5 (workFitPage h args s) :=
  parsed_does fun _ _ => by
    split
    · exact .refuses _
    · exact State.Worked.fitted.does (by decide)

theorem workFreeze_does : s.Does h.port 6 (workFreeze h args s) :=
  parsed_does fun _ _ => by
    split
    · split <;> exact .refuses _
    · next latest => exact viewCommand_does (by decide) (.frozen _ latest)

theorem workUnfreeze_does : s.Does h.port 7 (workUnfreeze h args s) :=
  parsed_does fun _ _ => viewCommand_does (by decide) .unfrozen

theorem workLayout_does : s.Does h.port 8 (workLayout h args s) :=
  parsed_does fun _ _ => viewCommand_does (by decide) (.laidOut _)

theorem workShowLive_does : s.Does h.port 9 (workShowLive h args s) :=
  parsed_does fun _ _ => viewCommand_does (by decide) .shownLive

theorem workSetGlide_does : s.Does h.port 10 (workSetGlide h args s) :=
  parsed_does fun _ _ => viewCommand_does (by decide) (.glideSet _ (clampTop_le ..))

theorem workReadView_does : s.Does h.port 11 (workReadView h args s) := parsed_does fun _ _ => .answers (by decide)

theorem workSetEdgeThreshold_does : s.Does h.port 12 (workSetEdgeThreshold h args s) :=
  parsed_does fun _ _ => (State.Worked.thresholdSet _ (clampTop_le ..)).does (by decide)

theorem workReadEdgeThreshold_does : s.Does h.port 13 (workReadEdgeThreshold h args s) := parsed_does fun _ _ => .answers (by decide)

theorem workReadTile_does : s.Does h.port 14 (workReadTile h args s) := parsed_does fun _ _ => .answers (by decide)

theorem workSetClassifierEntry_does : s.Does h.port 15 (workSetClassifierEntry h args s) :=
  parsed_does fun a ha => by
    have range : a.2.1.inRange = true := by
      unfold indexedEntryArgs at ha
      split at ha
      · cases ha; exact entryArg_inRange ..
      · cases ha
    exact (State.Worked.entriesSet _ (List.length_set ..) fun old => all_set old range).does (by decide)

theorem workSetClassifierEntries_does : s.Does h.port 16 (workSetClassifierEntries h args s) :=
  parsed_does fun a ha => by
    have range : ∀ e ∈ a.2.map (·.1), e.inRange = true := by
      unfold entriesArgs at ha
      split at ha
      · cases ha
      · split at ha
        · next hl => 
          split at ha <;> cases ha
          intro e he
          obtain ⟨x, hx, rfl⟩ := List.mem_map.mp he
          exact entryList_inRange hl x hx
        · cases ha
    exact (State.Worked.entriesSet _ (writeEntries_length ..) fun old => writeEntries_inRange _ old range).does (by decide)

theorem workSetEntryEnable_does : s.Does h.port 17 (workSetEntryEnable h args s) :=
  parsed_does fun a _ => by
    refine (State.Worked.entriesSet _ (List.length_modify ..) fun old => ?_).does (by decide)
    rw [List.all_eq_true] at *
    intro e he
    obtain ⟨i, hi, rfl⟩ := List.getElem_of_mem he
    rw [List.getElem_modify]
    have := old _ (List.getElem_mem (by simpa using hi : i < s.tcl.table.entries.length))
    split <;> simpa [ClassifierEntry.inRange] using this

theorem workSetDefaultAction_does : s.Does h.port 18 (workSetDefaultAction h args s) :=
  parsed_does fun _ _ => (State.Worked.fallbackSet _).does (by decide)

theorem workSetTextQuorum_does : s.Does h.port 19 (workSetTextQuorum h args s) :=
  parsed_does fun _ _ =>
    have q := clampBetween_mem (by omega : 1 ≤ 255) _
    (State.Worked.quorumSet _ q.1 q.2).does (by decide)

theorem workReadClassifier_does : s.Does h.port 20 (workReadClassifier h args s) := parsed_does fun _ _ => .answers (by decide)

theorem workReadPageBox_does : s.Does h.port 21 (workReadPageBox h args s) := parsed_does fun _ _ => .answers (by decide)

theorem workSetProfile_does : s.Does h.port 22 (workSetProfile h args s) :=
  parsed_does fun a ha => by
    have range : a.2.1.inRange = true := by
      unfold indexedProfileArgs at ha
      split at ha
      · cases ha; exact profileArg_inRange ..
      · cases ha
    refine (State.Worked.profilesSet _ fun old => ?_).does (by decide)
    simp only [profilesInRange, Bool.and_eq_true, decide_eq_true_eq, List.length_set] at old ⊢
    exact ⟨old.1, all_set old.2 range⟩

theorem workSetProfiles_does : s.Does h.port 23 (workSetProfiles h args s) :=
  parsed_does fun l hl => by
    refine (State.Worked.profilesSet _ fun _ => ?_).does (by decide)
    unfold profilesArgs at hl
    split at hl
    · next hp =>
      split at hl <;> cases hl
      next four =>
      simp only [profilesInRange, List.length_map, four, decide_true, Bool.true_and, List.all_map, List.all_eq_true]
      exact fun x hx => profileList_inRange hp x hx
    · cases hl

theorem workReadProfiles_does : s.Does h.port 24 (workReadProfiles h args s) := parsed_does fun _ _ => .answers (by decide)

theorem workReadSlots_does : s.Does h.port 25 (workReadSlots h args s) := parsed_does fun _ _ => .answers (by decide)

theorem workSetOutputMode_does : s.Does h.port 26 (workSetOutputMode h args s) :=
  parsed_does fun _ _ => (State.Worked.pendingModeSet _ (clampTop_le ..)).does (by decide)

theorem workOutputRestart_does : s.Does h.port 27 (workOutputRestart h args s) :=
  parsed_does fun _ _ => by
    split
    · exact .refuses _
    · exact State.Worked.outputRestarted.does (by decide)

theorem workBlank_does : s.Does h.port 28 (workBlank h args s) := parsed_does fun _ _ => (State.Worked.blanked _).does (by decide)

theorem workReadOutput_does : s.Does h.port 29 (workReadOutput h args s) := parsed_does fun _ _ => .answers (by decide)

theorem workSetFeedNotes_does : s.Does h.port 30 (workSetFeedNotes h args s) :=
  parsed_does fun _ _ => (State.Worked.notesSet _).does (by decide)

theorem workSetFeedMarks_does : s.Does h.port 31 (workSetFeedMarks h args s) :=
  parsed_does fun _ _ => (State.Worked.marksSet _ (marksArg_inRange ..)).does (by decide)

theorem workFeedRestart_does : s.Does h.port 32 (workFeedRestart h args s) :=
  parsed_does fun _ _ => by
    split
    · next started => exact .feedRestarted rfl started
    · exact .refuses _

theorem workReadFeed_does : s.Does h.port 33 (workReadFeed h args s) := parsed_does fun _ _ => State.Worked.drawn.does (by decide)

theorem workStore_does : s.Does h.port 34 (workStore h args s) :=
  parsed_does fun _ _ => storeCommand_does (by decide) fun mode all => .stored h _ mode (room_of_checks all (by simp))

theorem workRecall_does : s.Does h.port 35 (workRecall h args s) :=
  parsed_does fun _ _ => enqueue_does (by decide) (by simp) (by simp) (by simp)

theorem workExport_does : s.Does h.port 36 (workExport h args s) :=
  parsed_does fun _ _ => enqueue_does (by decide) (by simp) (by simp) (by simp)

theorem workDelete_does : s.Does h.port 37 (workDelete h args s) :=
  parsed_does fun _ _ => enqueue_does (by decide) (by simp) (by simp) (by simp)

theorem workMove_does : s.Does h.port 38 (workMove h args s) :=
  parsed_does fun _ _ => enqueue_does (by decide) (by simp) (by simp) (by simp)

theorem workOpenLesson_does : s.Does h.port 39 (workOpenLesson h args s) :=
  parsed_does fun _ _ => enqueue_does (by decide) (by simp) (by simp) (by simp)

theorem workCloseLesson_does : s.Does h.port 40 (workCloseLesson h args s) :=
  parsed_does fun _ _ => storeCommand_does (by decide) fun mode all =>
    .queued h (.closeLesson s.lsc.current) none mode (room_of_checks all (by simp)) (by simp) (by simp)

theorem workClearLesson_does : s.Does h.port 41 (workClearLesson h args s) :=
  parsed_does fun _ _ => enqueue_does (by decide) (by simp) (by simp) (by simp)

theorem workNameLesson_does : s.Does h.port 42 (workNameLesson h args s) :=
  parsed_does fun a _ => enqueue_does (by decide) (by simp)
    (fun _ _ e => by cases e; exact nameArg_inRange a.2) (by simp)

theorem workSetLessonFlags_does : s.Does h.port 43 (workSetLessonFlags h args s) :=
  parsed_does fun _ _ => enqueue_does (by decide) (by simp) (by simp) (by simp)

theorem workSaveSettings_does : s.Does h.port 44 (workSaveSettings h args s) :=
  parsed_does fun _ _ => enqueue_does (by decide) (by simp) (by simp) (by simp)

theorem workWithdraw_does : s.Does h.port 45 (workWithdraw h args s) :=
  parsed_does fun _ _ => by
    split
    · exact .refuses _
    · next mode =>
      split
      · exact .refuses _
      · next n _ => exact (State.Worked.withdrawn n mode).does (a := (s.withdrawAt n).2) (by decide)

theorem workSetPlaceRetryLimit_does : s.Does h.port 46 (workSetPlaceRetryLimit h args s) :=
  parsed_does fun _ _ => (State.Worked.retryLimitSet _ (clampTop_le ..)).does (by decide)

theorem workReadStore_does : s.Does h.port 47 (workReadStore h args s) := parsed_does fun _ _ => .answers (by decide)

theorem workReadLesson_does : s.Does h.port 48 (workReadLesson h args s) :=
  parsed_does fun _ _ => by
    split
    · exact .refuses _
    · dsimp only
      split <;> exact .answers (by decide)

theorem workReadJobs_does : s.Does h.port 49 (workReadJobs h args s) := parsed_does fun _ _ => .answers (by decide)

theorem workReadStatus_does : s.Does h.port 50 (workReadStatus h args s) := parsed_does fun _ _ => .answers (by decide)

theorem workReadCompletions_does : s.Does h.port 51 (workReadCompletions h args s) :=
  parsed_does fun _ _ => State.Worked.completionsRead.does (by decide)

theorem workReadNotices_does : s.Does h.port 52 (workReadNotices h args s) :=
  parsed_does fun _ _ => State.Worked.noticesRead.does (by decide)

theorem workSetNoticeEnables_does : s.Does h.port 53 (workSetNoticeEnables h args s) :=
  parsed_does fun _ _ => (State.Worked.enablesSet _ (enablesInRange_and _)).does (by decide)

theorem workSetReach_does : s.Does h.port 54 (workSetReach h args s) :=
  parsed_does fun _ _ => by
    split
    · exact (State.Worked.reachSet _ _ _ (reachWindowArg_inRange ..)).does (by decide)
    · exact .refuses _

theorem workReadReach_does : s.Does h.port 55 (workReadReach h args s) := parsed_does fun _ _ => .answers (by decide)

theorem workReadCounters_does : s.Does h.port 56 (workReadCounters h args s) := parsed_does fun _ _ => .answers (by decide)

theorem workClearCounters_does : s.Does h.port 57 (workClearCounters h args s) :=
  parsed_does fun _ _ => State.Worked.countersCleared.does (by decide)

theorem workSetHalfMasks_does : s.Does h.port 58 (workSetHalfMasks h args s) :=
  parsed_does fun _ _ => (State.Worked.halfMasksSet _).does (by decide)

theorem workRestart_does : s.Does h.port 59 (workRestart h args s) :=
  parsed_does fun _ _ => by
    split
    · split
      · exact .refuses _
      · next mode => exact .restarted rfl mode
    · exact .refuses _

theorem workUnknownCommand_does (kind : Byte) : s.Does h.port kind (workUnknownCommand h args s) := .refuses _

/-- What each command kind of 10 Table 10-7 does. -/
theorem works_do (n : Nat) (hn : n < 59) : s.Does h.port (BitVec.ofNat 8 (n + 1)) ((works.getD n workUnknownCommand) h args s) := by
  interval_cases n
  · exact workZoom_does h args s
  · exact workZoomStep_does h args s
  · exact workPan_does h args s
  · exact workCentre_does h args s
  · exact workFitPage_does h args s
  · exact workFreeze_does h args s
  · exact workUnfreeze_does h args s
  · exact workLayout_does h args s
  · exact workShowLive_does h args s
  · exact workSetGlide_does h args s
  · exact workReadView_does h args s
  · exact workSetEdgeThreshold_does h args s
  · exact workReadEdgeThreshold_does h args s
  · exact workReadTile_does h args s
  · exact workSetClassifierEntry_does h args s
  · exact workSetClassifierEntries_does h args s
  · exact workSetEntryEnable_does h args s
  · exact workSetDefaultAction_does h args s
  · exact workSetTextQuorum_does h args s
  · exact workReadClassifier_does h args s
  · exact workReadPageBox_does h args s
  · exact workSetProfile_does h args s
  · exact workSetProfiles_does h args s
  · exact workReadProfiles_does h args s
  · exact workReadSlots_does h args s
  · exact workSetOutputMode_does h args s
  · exact workOutputRestart_does h args s
  · exact workBlank_does h args s
  · exact workReadOutput_does h args s
  · exact workSetFeedNotes_does h args s
  · exact workSetFeedMarks_does h args s
  · exact workFeedRestart_does h args s
  · exact workReadFeed_does h args s
  · exact workStore_does h args s
  · exact workRecall_does h args s
  · exact workExport_does h args s
  · exact workDelete_does h args s
  · exact workMove_does h args s
  · exact workOpenLesson_does h args s
  · exact workCloseLesson_does h args s
  · exact workClearLesson_does h args s
  · exact workNameLesson_does h args s
  · exact workSetLessonFlags_does h args s
  · exact workSaveSettings_does h args s
  · exact workWithdraw_does h args s
  · exact workSetPlaceRetryLimit_does h args s
  · exact workReadStore_does h args s
  · exact workReadLesson_does h args s
  · exact workReadJobs_does h args s
  · exact workReadStatus_does h args s
  · exact workReadCompletions_does h args s
  · exact workReadNotices_does h args s
  · exact workSetNoticeEnables_does h args s
  · exact workSetReach_does h args s
  · exact workReadReach_does h args s
  · exact workReadCounters_does h args s
  · exact workClearCounters_does h args s
  · exact workSetHalfMasks_does h args s
  · exact workRestart_does h args s

/-- What the command of a kind does, whatever the kind. -/
theorem workOf_does (kind : Byte) : s.Does h.port kind (workOf kind h args s) := by
  unfold workOf
  split
  · exact workUnknownCommand_does h args s kind
  · next nonzero =>
    have pos : kind.toNat ≠ 0 := fun e => nonzero (BitVec.eq_of_toNat_eq e)
    by_cases small : kind.toNat - 1 < 59
    · have e : BitVec.ofNat 8 (kind.toNat - 1 + 1) = kind := by
        rw [Nat.sub_add_cancel (Nat.pos_of_ne_zero pos), BitVec.ofNat_toNat, BitVec.setWidth_eq]
      simpa only [e] using works_do h args s _ small
    · rw [List.getD_eq_default _ _ (by simpa [works] using small)]
      exact workUnknownCommand_does h args s kind

end Works

end Sys2Proof.Machine

namespace Sys2Proof.Machine

/-! ### Notes in the CPI: events, completion records and counts -/

/-- What work without a command's own changes of the CPI can leave there: events raised, completion records given, counters
incremented. -/
inductive Cpi.Noted (c : Cpi) : Cpi → Prop
  | same : c.Noted c
  | raise {d : Cpi} (e : Event) (h : c.Noted d) : c.Noted (d.raise e)
  | give {d : Cpi} (p : Port) (r : Completion) (h : c.Noted d) : c.Noted (d.given p r)
  | count {d : Cpi} (k : Counter) (h : c.Noted d) : c.Noted (d.count k)

theorem Cpi.Noted.trans {c d e : Cpi} (h : c.Noted d) (g : d.Noted e) : c.Noted e := by
  induction g with
  | same => exact h
  | raise e _ ih => exact ih.raise e
  | give p r _ ih => exact ih.give p r
  | count k _ ih => exact ih.count k

/-- What notes leave as it was at every port and of the links. -/
structure Cpi.sameButNotes (c d : Cpi) : Prop where
  owed : ∀ p, (d.port p).owed = (c.port p).owed
  busy : ∀ p, (d.port p).busy = (c.port p).busy
  enables : ∀ p, (d.port p).enables = (c.port p).enables
  reachRoom : d.reachRoom = c.reachRoom
  reachTether : d.reachTether = c.reachTether
  halfMasks : d.halfMasks = c.halfMasks
  counters : d.counters.length = c.counters.length
  roomTx : d.roomTx = c.roomTx
  tetherTx : d.tetherTx = c.tetherTx
  roomRx : d.roomRx = c.roomRx
  lastSide : d.lastSide = c.lastSide

theorem Cpi.sameButNotes.refl (c : Cpi) : c.sameButNotes c :=
  ⟨fun _ => rfl, fun _ => rfl, fun _ => rfl, rfl, rfl, rfl, rfl, rfl, rfl, rfl, rfl⟩

theorem Cpi.sameButNotes.trans {c d e : Cpi} (h : c.sameButNotes d) (g : d.sameButNotes e) : c.sameButNotes e where
  owed p := (g.owed p).trans (h.owed p)
  busy p := (g.busy p).trans (h.busy p)
  enables p := (g.enables p).trans (h.enables p)
  reachRoom := g.reachRoom.trans h.reachRoom
  reachTether := g.reachTether.trans h.reachTether
  halfMasks := g.halfMasks.trans h.halfMasks
  counters := g.counters.trans h.counters
  roomTx := g.roomTx.trans h.roomTx
  tetherTx := g.tetherTx.trans h.tetherTx
  roomRx := g.roomRx.trans h.roomRx
  lastSide := g.lastSide.trans h.lastSide

@[simp] theorem PortState.raised_busy (x : PortState) (e : Event) : (x.raised e).busy = x.busy := by
  unfold PortState.raised; split <;> rfl
@[simp] theorem PortState.give_busy (x : PortState) (r : Completion) : (x.give r).busy = x.busy := by
  unfold PortState.give; split <;> rfl
@[simp] theorem PortState.give_enables (x : PortState) (r : Completion) : (x.give r).enables = x.enables := by
  unfold PortState.give; split <;> rfl

theorem Cpi.sameButNotes_raise (c : Cpi) (e : Event) : c.sameButNotes (c.raise e) :=
  ⟨fun _ => by simp, fun _ => by simp, fun _ => by simp, rfl, rfl, rfl, rfl, rfl, rfl, rfl, rfl⟩

theorem Cpi.port_given (c : Cpi) (p q : Port) (r : Completion) :
    (c.given p r).port q = if q = p then (c.port p).give r else c.port q := by
  by_cases h : q = p
  · rw [if_pos h, h]; exact c.port_setPort ..
  · rw [if_neg h]; exact c.port_setPort_ne _ h

theorem Cpi.sameButNotes_given (c : Cpi) (p : Port) (r : Completion) : c.sameButNotes (c.given p r) := by
  constructor
  case owed | busy | enables => intro q; rw [Cpi.port_given]; split <;> simp [*]
  all_goals cases p <;> rfl

theorem Cpi.sameButNotes_count (c : Cpi) (k : Counter) : c.sameButNotes (c.count k) := by
  constructor
  case owed | busy | enables => intro q; rcases c.count_port k q with h | h <;> simp [h]
  case counters =>
    unfold Cpi.count
    split
    · dsimp only; split <;> simp [Cpi.raise]
    · simp
  all_goals
    unfold Cpi.count
    split
    · dsimp only; split <;> rfl
    · rfl

/-- Notes change nothing else of the CPI. -/
theorem Cpi.Noted.keeps {c d : Cpi} (h : c.Noted d) : c.sameButNotes d := by
  induction h with
  | same => exact .refl c
  | raise e _ ih => exact ih.trans (Cpi.sameButNotes_raise _ e)
  | give p r _ ih => exact ih.trans (Cpi.sameButNotes_given _ p r)
  | count k _ ih => exact ih.trans (Cpi.sameButNotes_count _ k)

/-! ### What any arrival can do -/

/-- The changes of the state that an arrival at a powered part can make before the sendings at its end. -/
inductive State.Effect (s : State) : State → Prop
  | nothing : s.Effect s
  | command {u : State} (p : Port) (r : Reply) (hw : s.Worked p u) (free : (s.cpi.port p).owed = none) : s.Effect (u.owe p r)
  | feedRestarted (p : Port) (r : Reply) (started : s.flc.started = true) (free : (s.cpi.port p).owed = none) :
      s.Effect (s.restartFeed.owe p r).serveFeed
  | restarted (p : Port) (r : Reply) (mode : s.lsc.mode ≠ .starting) (free : (s.cpi.port p).owed = none) :
      s.Effect (s.restart.owe p r).serveFeed
  | refusedBusy (p : Port) (r : Reply) (owed : (s.cpi.port p).owed.isSome = true) : s.Effect (s.refuseBusy p r)
  | frameStart : s.Effect s.endFrameInProgress.openFrame.askSlot
  | lineEnd (line : List PixelClock) : s.Effect (s.lineEnd line)
  | frameEnd : s.Effect s.frameEnd
  | signalLate (d n : Nat) (late : s.siu.timer = running d (n + 1)) : s.Effect (s.withSiu { s.siu with timer := running d n })
  | signalLost (d : Nat) (due : s.siu.timer = running d 0) : s.Effect s.signalLost
  | notice (given : s.spm.notices ≠ 0) : s.Effect s.takeNotice
  | outputFrame : s.Effect s.frameStarts
  | offer (o : BaseOffer) (started : s.flc.started = true) : s.Effect (s.baseOffer o).servePages
  | note (p : NotePage) (started : s.flc.started = true) : s.Effect (s.notePage p).servePages
  | hold (d : Half) : s.Effect (s.takeHold d)
  | pageLate (d n : Nat) (late : s.flc.pageTimer = running d (n + 1)) : s.Effect (s.withFlc { s.flc with pageTimer := running d n })
  | pageExpired (d : Nat) (due : s.flc.pageTimer = running d 0) : s.Effect s.pageExpired.servePages
  | intervalLate (d n : Nat) (late : s.flc.intervalTimer = running d (n + 1)) :
      s.Effect (s.withFlc { s.flc with intervalTimer := running d n })
  | intervalExpired (d : Nat) (due : s.flc.intervalTimer = running d 0) : s.Effect s.intervalExpired
  | allowanceLate (d n : Nat) (late : s.flc.allowanceTimer = running d (n + 1)) :
      s.Effect (s.withFlc { s.flc with allowanceTimer := running d n })
  | allowanceExpired (d : Nat) (due : s.flc.allowanceTimer = running d 0) : s.Effect s.cutFrame
  | holdLate (d n : Nat) (late : s.flc.hold = running d (n + 1)) : s.Effect (s.withFlc { s.flc with hold := running d n })
  | holdExpired (d : Nat) (due : s.flc.hold = running d 0) : s.Effect s.releaseHold
  | feedFrameStart : s.Effect s.startFeedFrame
  | lineProduced : s.Effect s.produceLine
  | lineSent (free : s.cpi.tetherTx = none) : s.Effect s.lineGoes
  | flash (result : FlashResult) (busy : s.lsc.flash.isSome = true) : s.Effect (s.flashDone result)
  | panelRead (clocked : Nat) : s.Effect (s.panelRead clocked)
  | roomSent : s.Effect s.roomSent
  | tetherSent : s.Effect s.tetherSent

/-- Every block is the same, and of the CPI the settings: what the taking of replies, BUSY refusals, received bytes and sendings leave
alone. -/
structure State.alike (s t : State) : Prop where
  siu : t.siu = s.siu
  tsu : t.tsu = s.tsu
  tcl : t.tcl = s.tcl
  peu : t.peu = s.peu
  spm : t.spm = s.spm
  vwc : t.vwc = s.vwc
  dou : t.dou = s.dou
  flc : t.flc = s.flc
  lsc : t.lsc = s.lsc
  reachRoom : t.cpi.reachRoom = s.cpi.reachRoom
  reachTether : t.cpi.reachTether = s.cpi.reachTether
  enables : ∀ p, (t.cpi.port p).enables = (s.cpi.port p).enables

theorem State.alike.refl (s : State) : s.alike s :=
  ⟨rfl, rfl, rfl, rfl, rfl, rfl, rfl, rfl, rfl, rfl, rfl, fun _ => rfl⟩

theorem State.alike.trans {s t u : State} (h : s.alike t) (g : t.alike u) : s.alike u where
  siu := g.siu.trans h.siu
  tsu := g.tsu.trans h.tsu
  tcl := g.tcl.trans h.tcl
  peu := g.peu.trans h.peu
  spm := g.spm.trans h.spm
  vwc := g.vwc.trans h.vwc
  dou := g.dou.trans h.dou
  flc := g.flc.trans h.flc
  lsc := g.lsc.trans h.lsc
  reachRoom := g.reachRoom.trans h.reachRoom
  reachTether := g.reachTether.trans h.reachTether
  enables p := (g.enables p).trans (h.enables p)

section Alike
variable (s : State)

/-- A port given another reply, or another BUSY refusal, leaves the settings of the CPI. -/
theorem State.alike_changePort (p : Port) (f : PortState → PortState) (hf : (f (s.cpi.port p)).enables = (s.cpi.port p).enables) :
    s.alike (s.changePort p f) := by
  refine ⟨rfl, rfl, rfl, rfl, rfl, rfl, rfl, rfl, rfl, by cases p <;> rfl, by cases p <;> rfl, fun q => ?_⟩
  by_cases h : q = p
  · rw [h]; exact (congrArg PortState.enables (s.cpi.port_setPort p _)).trans hf
  · exact congrArg PortState.enables (s.cpi.port_setPort_ne _ h)

theorem State.alike_owe (p : Port) (r : Reply) : s.alike (s.owe p r) := s.alike_changePort p (fun x => { x with owed := some r }) rfl

theorem State.alike_refuseBusy (p : Port) (r : Reply) : s.alike (s.refuseBusy p r) :=
  s.alike_changePort p (fun x => { x with busy := some r }) rfl

theorem State.alike_withEmitted (e : List Emission) : s.alike (s.withEmitted e) :=
  ⟨rfl, rfl, rfl, rfl, rfl, rfl, rfl, rfl, rfl, rfl, rfl, fun _ => rfl⟩

theorem State.alike_withPending (q : List Instr) : s.alike (s.withPending q) :=
  ⟨rfl, rfl, rfl, rfl, rfl, rfl, rfl, rfl, rfl, rfl, rfl, fun _ => rfl⟩

theorem State.alike_transmit : s.alike s.transmit := by
  obtain ⟨panel, ⟨_, _, _, room, _⟩, ⟨_, _, _, tether, _⟩, reachRoom, reachTether, _⟩ := s.transmit_sends
  refine ⟨by simp, by simp, by simp, by simp, by simp, by simp, by simp, by simp, by simp, reachRoom, reachTether, fun p => ?_⟩
  cases p
  · exact congrArg _ panel
  · exact room
  · exact tether

end Alike

/-- A part between arrivals differs from one that takes an arrival in what was emitted and in the Room receiver at most. -/
def State.listening (s : State) (e : List Emission) (rx : RoomReceiver) : State :=
  (s.withEmitted e).withCpi { s.cpi with roomRx := rx }

theorem State.alike_listening (s : State) (e : List Emission) (rx : RoomReceiver) : s.alike (s.listening e rx) :=
  ⟨rfl, rfl, rfl, rfl, rfl, rfl, rfl, rfl, rfl, rfl, rfl, fun p => by cases p <;> rfl⟩

/-- What the taking of a command at its port can do. -/
inductive State.Commanded (s : State) : State → Prop
  | nothing : s.Commanded s
  | worked {u : State} (p : Port) (r : Reply) (hw : s.Worked p u) (free : (s.cpi.port p).owed = none) : s.Commanded (u.owe p r)
  | feedRestarted (p : Port) (r : Reply) (started : s.flc.started = true) (free : (s.cpi.port p).owed = none) :
      s.Commanded (s.restartFeed.owe p r).serveFeed
  | restarted (p : Port) (r : Reply) (mode : s.lsc.mode ≠ .starting) (free : (s.cpi.port p).owed = none) :
      s.Commanded (s.restart.owe p r).serveFeed
  | refusedBusy (p : Port) (r : Reply) (owed : (s.cpi.port p).owed.isSome = true) : s.Commanded (s.refuseBusy p r)

theorem State.Commanded.effect {s t : State} (h : s.Commanded t) : s.Effect t := by
  cases h with
  | nothing => exact .nothing
  | worked p r hw free => exact .command p r hw free
  | feedRestarted p r started free => exact .feedRestarted p r started free
  | restarted p r mode free => exact .restarted p r mode free
  | refusedBusy p r owed => exact .refusedBusy p r owed

/-- The taking of a command by the holder of its port. -/
theorem State.hand_commanded {s : State} {kind : Byte} {h : CmdHeader} {f : State → State × Answer} (hf : s.Does h.port kind (f s)) :
    s.Commanded (s.hand kind h f) := by
  unfold State.hand
  split
  · next free =>
    generalize f s = x at hf
    cases hf with
    | worked a hw refused =>
      dsimp only
      by_cases hk : kind = 32 ∨ kind = 59
      · rw [State.afterRestart_refused _ _ (refused hk)]; exact .worked _ _ hw free
      · rw [State.afterRestart_other _ _ (not_or.mp hk)]; exact .worked _ _ hw free
    | feedRestarted hk started =>
      simp only [State.afterRestart, hk, done, doneWith]
      exact .feedRestarted _ _ started free
    | restarted hk mode =>
      simp only [State.afterRestart, hk, done, doneWith]
      exact .restarted _ _ mode free
  · next owed _ => exact .refusedBusy _ _ (by rw [owed]; rfl)
  · exact .nothing

theorem State.takeBody_commanded (s : State) (p : Port) (body : List Byte) : s.Commanded (s.takeBody p body) := by
  unfold State.takeBody
  split
  · exact .nothing
  · exact State.hand_commanded (workOf_does _ _ s _)

/-- What an arrival brings about before the sendings: one effect, or the commands of the bodies that the Room receiver takes, each
further one of which draws a BUSY refusal at most. -/
inductive State.Heard (s : State) : State → Prop
  | same : s.Heard s
  | one {u : State} (e : s.Effect u) : s.Heard u
  | next {t u : State} (h : s.Heard t) (e : t.Commanded u) : s.Heard u

theorem State.Heard.keeps {inv : State → Prop} (hi : ∀ t u, t.Effect u → inv t → inv u) {s t : State} (h : s.Heard t) (hs : inv s) :
    inv t := by
  induction h with
  | same => exact hs
  | one e => exact hi _ _ e hs
  | next _ e ih => exact hi _ _ e.effect ih

theorem State.hear_heard (s : State) (bytes : List Byte) : ∃ rx, (s.withCpi { s.cpi with roomRx := rx }).Heard (s.hear bytes) := by
  refine ⟨(s.cpi.roomRx.takeAll bytes).1, ?_⟩
  unfold State.hear
  have run : ∀ (bodies : List (List Byte)) (r t : State), r.Heard t → r.Heard (bodies.foldl (fun t body => t.takeBody .room body) t) := by
    intro bodies
    induction bodies with
    | nil => exact fun _ _ h => h
    | cons b rest ih => exact fun r t h => ih r _ (h.next (t.takeBody_commanded .room b))
  exact run _ _ _ .same

theorem State.offerArrives_effect (s : State) (o : BaseOffer) : s.Effect (s.offerArrives o) := by
  unfold State.offerArrives
  split
  · next started => exact .offer o started
  · exact .nothing

theorem State.noteArrives_effect (s : State) (p : NotePage) : s.Effect (s.noteArrives p) := by
  unfold State.noteArrives
  split
  · next started => exact .note p started
  · exact .nothing

theorem State.takeFeedPacket_effect (s : State) (kind : Byte) (payload : List Byte) : s.Effect (s.takeFeedPacket kind payload) := by
  unfold State.takeFeedPacket
  split
  · cases Config.offer.read payload with
    | none => exact .nothing
    | some o => exact s.offerArrives_effect o
  split
  · cases Config.note.read payload with
    | none => exact .nothing
    | some p => exact s.noteArrives_effect p
  split
  · cases Config.hold.read payload with
    | none => exact .nothing
    | some d => exact .hold d
  · exact .nothing

theorem State.receive_effect (s : State) (bytes : List Byte) : s.Effect (s.receive bytes) := by
  unfold State.receive
  cases readPacket bytes with
  | none => exact .nothing
  | some p =>
    simp only [Option.elim_some, State.takePacket]
    split
    · exact .nothing
    · exact (s.takeBody_commanded _ _).effect
    · exact s.takeFeedPacket_effect _ _

/-- A timer's expiry has one of two effects, or none. -/
theorem State.expires_effect {s : State} {timer : Option Timer} {put : Option Timer → State} {effect : State}
    (late : ∀ d n, timer = running d (n + 1) → s.Effect (put (running d n))) (due : ∀ d, timer = running d 0 → s.Effect effect) :
    s.Effect (s.expires timer put effect) := by
  rcases s.expires_cases timer put effect with ⟨_, e⟩ | ⟨d, n, h, e⟩ | ⟨d, h, e⟩ <;> rw [e]
  · exact .nothing
  · exact late d n h
  · exact due d h

/-- An arrival before the sendings at its end: the part listens, one or more effects follow, of which all but the first come from
further bodies on the Room line, and the Panel's data-out line is driven. -/
def State.Acts (s t : State) : Prop :=
  ∃ rx u e, (s.listening [] rx).Heard u ∧ t = (u.withEmitted e).transmit

section Acts
variable {s : State}

theorem State.Effect.acts {u : State} (h : (s.withEmitted []).Effect u) : s.Acts u.transmit :=
  ⟨s.cpi.roomRx, u, u.emitted, .one h, rfl⟩

theorem State.driven_eq (s : State) (p : Port) (c : Cpi) (n : Nat) : s.driven p c n = s.withEmitted (s.driven p c n).emitted := by
  cases p <;> rfl

theorem State.Effect.acts_driven {u : State} (h : (s.withEmitted []).Effect u) (p : Port) (c : Cpi) (n : Nat) :
    s.Acts (u.driven p c n).transmit :=
  ⟨s.cpi.roomRx, u, _, .one h, by rw [State.driven_eq]⟩

theorem State.hear_acts (bytes : List Byte) : s.Acts ((s.withEmitted []).hear bytes).transmit := by
  obtain ⟨rx, h⟩ := (s.withEmitted []).hear_heard bytes
  exact ⟨rx, _, _, h, rfl⟩

theorem State.transact_acts (x : PanelTransaction) : s.Acts ((s.withEmitted []).transact x).transmit := by
  cases x with
  | command body => exact ((s.withEmitted []).takeBody_commanded .panel body).effect.acts_driven _ _ _
  | read n => exact (State.Effect.panelRead n).acts
  | ignored => exact State.Effect.nothing.acts

theorem arrive_acts {f : State → State} {t : State} (hp : s.powered = true) (h : s.Acts (f (s.withEmitted [])).transmit)
    (ht : arrive s f = .next t) : s.Acts t := by
  rw [arrive_powered f hp] at ht
  cases ht
  exact h

theorem command_acts {kind : Byte} {h : CmdHeader} {args : List Byte} {f : State → State × Answer} {t : State}
    (hf : (s.withEmitted []).Does h.port kind (f (s.withEmitted []))) (hp : s.powered = true) (ht : command kind h args s f = .next t) :
    s.Acts t := by
  refine arrive_acts hp ?_ ht
  split
  · exact State.hear_acts _
  · exact (State.hand_commanded hf).effect.acts_driven _ _ _

end Acts

/-- Every arrival but START_UP and POWER_LOSS has its effect between the clearing of the emissions and the sendings. -/
theorem exec_arrives (c : Instr) (s : State) (h1 : c ≠ .startUp) (h2 : c ≠ .powerLoss) : ∃ f, exec c s = arrive s f := by
  cases c
  case startUp => exact absurd rfl h1
  case powerLoss => exact absurd rfl h2
  case outputFrameStart => exact ⟨State.frameStarts, rfl⟩
  all_goals exact ⟨fun _ => _, rfl⟩

/-- A part without power takes START_UP and POWER_LOSS alone (log 2). -/
theorem exec_unpowered {c : Instr} {s : State} (hp : s.powered = false) (h1 : c ≠ .startUp) (h2 : c ≠ .powerLoss) :
    exec c s = .next s := by
  obtain ⟨f, e⟩ := exec_arrives c s h1 h2
  rw [e, arrive_unpowered f hp]

/-- All that an arrival at a powered part can do: START_UP and POWER_LOSS bring start-up values, every other one acts. -/
theorem exec_acts {c : Instr} {s t : State} (hp : s.powered = true) (ht : exec c s = .next t) :
    t = s.startedUp ∨ t = (s.startedUp.withPower false).quiet ∨ s.Acts t := by
  have effect {f : State → State} (h : (s.withEmitted []).Effect (f (s.withEmitted []))) (ht : arrive s f = .next t) :
      t = s.startedUp ∨ t = (s.startedUp.withPower false).quiet ∨ s.Acts t := .inr (.inr (arrive_acts hp h.acts ht))
  cases c
  case startUp => cases ht; exact .inl rfl
  case powerLoss => cases ht; exact .inr (.inl rfl)
  case frameStart => exact effect (f := fun s => s.endFrameInProgress.openFrame.askSlot) .frameStart ht
  case lineEnd pixels => exact effect (f := fun s => s.lineEnd pixels) (.lineEnd pixels) ht
  case frameEnd => exact effect (f := State.frameEnd) .frameEnd ht
  case noSignalTimerExpiry =>
    exact effect (f := fun s => s.expires s.siu.timer (fun x => s.withSiu { s.siu with timer := x }) s.signalLost)
      (State.expires_effect .signalLate .signalLost) ht
  case slotFreedNotice =>
    refine effect (f := fun s => if s.spm.notices = 0 then s else s.takeNotice) ?_ ht
    split
    · exact .nothing
    · next given => exact .notice given
  case outputFrameStart => exact effect (f := State.frameStarts) .outputFrame ht
  case baseOffer o => exact effect (f := fun s => s.offerArrives o) (State.offerArrives_effect _ o) ht
  case notePage p => exact effect (f := fun s => s.noteArrives p) (State.noteArrives_effect _ p) ht
  case hold d => exact effect (f := fun s => s.takeHold d) (.hold d) ht
  case pageTimerExpiry =>
    exact effect (f := fun s => s.expires s.flc.pageTimer (fun x => s.withFlc { s.flc with pageTimer := x }) s.pageExpired.servePages)
      (State.expires_effect .pageLate .pageExpired) ht
  case intervalTimerExpiry =>
    exact effect (f := fun s => s.expires s.flc.intervalTimer (fun x => s.withFlc { s.flc with intervalTimer := x }) s.intervalExpired)
      (State.expires_effect .intervalLate .intervalExpired) ht
  case allowanceTimerExpiry =>
    exact effect (f := fun s => s.expires s.flc.allowanceTimer (fun x => s.withFlc { s.flc with allowanceTimer := x }) s.cutFrame)
      (State.expires_effect .allowanceLate .allowanceExpired) ht
  case holdTimerExpiry =>
    exact effect (f := fun s => s.expires s.flc.hold (fun x => s.withFlc { s.flc with hold := x }) s.releaseHold)
      (State.expires_effect .holdLate .holdExpired) ht
  case feedFrameStart => exact effect (f := State.startFeedFrame) .feedFrameStart ht
  case feedLineProduced => exact effect (f := State.produceLine) .lineProduced ht
  case feedLineSent =>
    refine effect (f := fun s => if s.cpi.tetherTx.isNone then s.lineGoes else s) ?_ ht
    split
    · next free => exact .lineSent (Option.isNone_iff_eq_none.mp free)
    · exact .nothing
  case flashOperationComplete result =>
    refine effect (f := fun s => if s.lsc.flash.isSome then s.flashDone result else s) ?_ ht
    split
    · next busy => exact .flash result busy
    · exact .nothing
  case panelReadTransaction sent =>
    exact .inr (.inr (arrive_acts (f := fun s => s.transact (readTransaction sent)) hp (State.transact_acts _) ht))
  case roomFrameDropped bytes => exact .inr (.inr (arrive_acts (f := fun s => s.hear bytes) hp (State.hear_acts _) ht))
  case tetherPacketDiscarded header words =>
    exact effect (f := fun s => s.receive (header ++ words)) (State.receive_effect _ _) ht
  case roomFrameSent => exact effect (f := State.roomSent) .roomSent ht
  case tetherPacketSent => exact effect (f := State.tetherSent) .tetherSent ht
  case unknownCommand kind h args => exact .inr (.inr (command_acts (workUnknownCommand_does h args _ kind) hp ht))
  all_goals
    next h args =>
    have does := workOf_does h args (s.withEmitted [])
    exact .inr (.inr (command_acts (does _) hp ((exec_command s rfl (.inl rfl)).symm.trans ht)))

/-- A property of the blocks and of the CPI's settings that start-up brings about, or keeps, and that every effect keeps is kept by
every step. -/
theorem keptByStep_of_effects {inv : State → Prop} (alike : ∀ s t, s.alike t → inv s → inv t)
    (startUp : ∀ s, inv s → inv s.startedUp) (powerLoss : ∀ s, inv s → inv (s.startedUp.withPower false).quiet)
    (effect : ∀ s t, s.Effect t → inv s → inv t) : keptByStep inv := by
  intro s t hs ht
  unfold step at ht
  split at ht
  · cases ht; exact hs
  · next c rest _ =>
    have hr : inv (s.withPending rest) := alike _ _ (s.alike_withPending rest) hs
    by_cases hp : (s.withPending rest).powered = true
    · rcases exec_acts hp ht with rfl | rfl | ⟨rx, u, e, hu, rfl⟩
      · exact startUp _ hr
      · exact powerLoss _ hr
      · have := hu.keeps effect (alike _ _ (State.alike_listening _ [] rx) hr)
        exact alike _ _ ((u.alike_withEmitted e).trans (State.alike_transmit _)) this
    · rw [Bool.not_eq_true] at hp
      by_cases h1 : c = .startUp
      · subst h1; cases ht; exact startUp _ hr
      by_cases h2 : c = .powerLoss
      · subst h2; cases ht; exact powerLoss _ hr
      rw [exec_unpowered hp h1 h2] at ht
      cases ht; exact hr

end Sys2Proof.Machine

namespace Sys2Proof.Machine

/-! ### What the running of store jobs can change -/

/-- What the work of store jobs leaves alone: every block but the LSC, the pool, the VWC, the FLC and the CPI, of which last it only
takes notes; of the LSC the retry limit, and the store mode but for READ_ONLY. What SAVE_SETTINGS saves are the settings in force, and
no reading of the catalogue area begins. -/
structure State.Ran (s t : State) : Prop where
  siu : t.siu = s.siu
  tsu : t.tsu = s.tsu
  tcl : t.tcl = s.tcl
  peu : t.peu = s.peu
  vwc : t.vwc = s.vwc
  dou : t.dou = s.dou
  flc : t.flc = s.flc
  powered : t.powered = s.powered
  freeCount : t.freeCount = s.freeCount
  pending : t.pending = s.pending
  emitted : t.emitted = s.emitted
  cpi : s.cpi.Noted t.cpi
  retryLimit : t.lsc.retryLimit = s.lsc.retryLimit
  saved : t.lsc.saved = s.lsc.saved ∨ t.lsc.saved = s.settingsInForce
  mode : t.lsc.mode = s.lsc.mode ∨ t.lsc.mode = .readOnly
  reading : ∀ r, t.lsc.activity = .recovering r → s.lsc.activity = .recovering r

/-- The settings in force follow from the blocks and from what notes leave alone. -/
theorem State.Ran.settingsInForce {s t : State} (h : s.Ran t) : t.settingsInForce = s.settingsInForce := by
  have k := h.cpi.keeps
  have panel := k.enables .panel
  have room := k.enables .room
  have tether := k.enables .tether
  simp only [Cpi.port] at panel room tether
  simp only [State.settingsInForce, h.tcl, h.tsu, h.peu, h.vwc, h.dou, h.flc, k.reachRoom, k.reachTether, panel, room, tether]

theorem State.Ran.refl (s : State) : s.Ran s :=
  ⟨rfl, rfl, rfl, rfl, rfl, rfl, rfl, rfl, rfl, rfl, rfl, .same, rfl, .inl rfl, .inl rfl, fun _ h => h⟩

theorem State.Ran.trans {s t u : State} (h : s.Ran t) (g : t.Ran u) : s.Ran u where
  siu := g.siu.trans h.siu
  tsu := g.tsu.trans h.tsu
  tcl := g.tcl.trans h.tcl
  peu := g.peu.trans h.peu
  vwc := g.vwc.trans h.vwc
  dou := g.dou.trans h.dou
  flc := g.flc.trans h.flc
  powered := g.powered.trans h.powered
  freeCount := g.freeCount.trans h.freeCount
  pending := g.pending.trans h.pending
  emitted := g.emitted.trans h.emitted
  cpi := h.cpi.trans g.cpi
  retryLimit := g.retryLimit.trans h.retryLimit
  saved := by
    rcases g.saved with e | e
    · exact e ▸ h.saved
    · exact .inr (e.trans h.settingsInForce)
  mode := by
    rcases g.mode with e | e
    · exact e ▸ h.mode
    · exact .inr e
  reading r e := h.reading r (g.reading r e)

/-- The same as `trans`, the later change first. -/
theorem State.Ran.after {s t u : State} (g : t.Ran u) (h : s.Ran t) : s.Ran u := h.trans g

section Ran
variable (s : State)

/-- A changed pool. -/
theorem State.ran_withSpm (p : Spm) : s.Ran (s.withSpm p) :=
  ⟨rfl, rfl, rfl, rfl, rfl, rfl, rfl, rfl, rfl, rfl, rfl, .same, rfl, .inl rfl, .inl rfl, fun _ h => h⟩

/-- A changed LSC whose retry limit, settings and mode stay and which reads no catalogue area. -/
theorem State.ran_withLsc {l : Lsc} (limit : l.retryLimit = s.lsc.retryLimit := by rfl)
    (saved : l.saved = s.lsc.saved := by rfl) (mode : l.mode = s.lsc.mode := by rfl)
    (reading : ∀ r, l.activity = .recovering r → s.lsc.activity = .recovering r := by exact fun _ h => h) : s.Ran (s.withLsc l) :=
  ⟨rfl, rfl, rfl, rfl, rfl, rfl, rfl, rfl, rfl, rfl, rfl, .same, limit, .inl saved, .inl mode, reading⟩

theorem State.ran_withLessons (ls : List LessonRecord) : s.Ran (s.withLsc (s.lsc.withLessons ls)) :=
  s.ran_withLsc

theorem State.ran_raise (e : Event) : s.Ran (s.raise e) :=
  ⟨rfl, rfl, rfl, rfl, rfl, rfl, rfl, rfl, rfl, rfl, rfl, .raise e .same, rfl, .inl rfl, .inl rfl, fun _ h => h⟩

theorem State.ran_count (k : Counter) : s.Ran (s.count k) :=
  ⟨rfl, rfl, rfl, rfl, rfl, rfl, rfl, rfl, rfl, rfl, rfl, .count k .same, rfl, .inl rfl, .inl rfl, fun _ h => h⟩

theorem State.ran_give (p : Port) (r : Completion) : s.Ran (s.give p r) :=
  ⟨rfl, rfl, rfl, rfl, rfl, rfl, rfl, rfl, rfl, rfl, rfl, .give p r .same, rfl, .inl rfl, .inl rfl, fun _ h => h⟩

theorem State.ran_setHead (j : Job) : s.Ran (s.setHead j) := s.ran_withLsc

theorem State.ran_withQueue (q : List Job) : s.Ran (s.withQueue q) := s.ran_withLsc

theorem State.ran_quiet : s.Ran s.quiet := s.ran_withLsc rfl rfl rfl fun _ h => nomatch h

/-- An operation issued for anything but the reading of the catalogue area. -/
theorem State.ran_issue (op : FlashOp) {a : Activity} (ha : ∀ r, a ≠ .recovering r) : s.Ran (s.issue op a) :=
  s.ran_withLsc rfl rfl rfl fun r h => absurd h (ha r)

theorem State.ran_dropPin (j : Job) : s.Ran (s.dropPin j) := by
  unfold State.dropPin
  split
  · exact .refl s
  · exact s.ran_withSpm _

theorem State.ran_finishHead (r : Reason) : s.Ran (s.finishHead r) := by
  unfold State.finishHead
  split
  · exact .refl s
  · exact (s.ran_withQueue _).trans (State.ran_give _ _ _)

theorem State.ran_readOnly : s.Ran s.readOnly := by
  have mode : s.quiet.Ran (s.quiet.withLsc { s.quiet.lsc with mode := .readOnly }) :=
    ⟨rfl, rfl, rfl, rfl, rfl, rfl, rfl, rfl, rfl, rfl, rfl, .same, rfl, .inl rfl, .inr rfl, fun _ h => h⟩
  exact (s.ran_quiet.trans mode).trans (State.ran_raise _ _)

theorem State.ran_written (block : Nat) : s.Ran (s.written block) :=
  (State.ran_count _ _).after ((State.ran_withLsc _).after s.ran_quiet)

theorem State.ran_attempt {owner : WriteOwner} {image : CatalogueImage} {n block : Nat} {t : State}
    (h : s.attempt owner image n block = some t) : s.Ran t := by
  unfold State.attempt at h
  split at h
  · cases h
  · cases h
    exact (State.ran_issue _ _ (fun _ => by simp)).after (s.ran_withLsc)

theorem State.ran_writeLost (j : Job) : s.Ran (s.writeLost j).1 := by
  unfold State.writeLost
  split
  · dsimp only
    split
    · exact s.ran_dropPin j
    · exact (s.ran_withLessons _).trans (State.ran_dropPin _ j)
  · exact .refl s

theorem State.ran_jobWrite (j : Job) : s.Ran (s.jobWrite j).1 := by
  unfold State.jobWrite
  split
  · next t h => exact (s.ran_setHead j).trans (State.ran_attempt _ h)
  · exact ((s.ran_setHead j).trans (State.ran_readOnly _)).trans (State.ran_writeLost _ j)

theorem State.ran_beginStore (j : Job) (lesson : Nat) (c : Capture) : s.Ran (s.beginStore j lesson c).1 := by
  unfold State.beginStore
  split
  · exact s.ran_dropPin j
  split
  · exact s.ran_dropPin j
  split
  · exact s.ran_dropPin j
  · exact (State.ran_jobWrite _ _).after (s.ran_withLsc)

theorem State.ran_endStore (j : Job) (q : Half) (r : Reason) : s.Ran (s.endStore j q r).1 := by
  have removed : s.Ran ((s.dropPin j).withLsc (s.lsc.withLessons (removeRecord s.lsc.lessons q))) :=
    (s.ran_dropPin j).trans ((s.dropPin j).ran_withLsc (by simp [Lsc.withLessons]) (by simp [Lsc.withLessons])
      (by simp [Lsc.withLessons]) fun r h => by simpa [Lsc.withLessons] using h)
  exact removed.trans (State.ran_jobWrite _ _)

theorem State.ran_attemptFailed (j : Job) (q : Half) (p : Nat) : s.Ran (s.attemptFailed j q p).1 := by
  have retired : s.Ran ((s.quiet.withLsc (s.quiet.lsc.retire p)).raise .placeRetired) :=
    (State.ran_raise _ _).after ((State.ran_withLsc _).after s.ran_quiet)
  unfold State.attemptFailed
  dsimp only
  split
  · have counted := retired.trans (State.ran_count _ .storeRetries)
    split
    · exact counted.trans (State.ran_endStore _ _ _ _)
    · exact (counted.trans (State.ran_withLessons _ _)).trans (State.ran_jobWrite _ _)
  · exact retired.trans (State.ran_endStore _ _ _ _)

theorem State.ran_testReserve (j : Job) (r : PageRecord) : s.Ran (s.testReserve j r) := by
  unfold State.testReserve
  split
  · split
    · exact ((s.ran_withSpm _).trans (State.ran_setHead _ _)).trans (State.ran_issue _ _ (fun _ => by simp))
    · exact s.ran_setHead _
  · exact s.ran_setHead _

theorem State.ran_beginRecall (j : Job) : s.Ran (s.beginRecall j).1 := by
  unfold State.beginRecall
  split
  · exact .refl s
  · exact s.ran_testReserve j _

theorem State.ran_beginExport (j : Job) : s.Ran (s.beginExport j).1 := by
  unfold State.beginExport
  split
  · exact .refl s
  split
  · exact .refl s
  split
  · exact s.ran_testReserve j _
  · exact .refl s

theorem State.ran_edited (j : Job) : s.Ran (s.edited j).1 := by
  unfold State.edited
  split
  · exact s.ran_jobWrite _
  · exact .refl s

theorem State.ran_editLessons (ls : List LessonRecord) : s.Ran (s.withLsc (s.lsc.editLessons ls)) := by
  unfold Lsc.editLessons
  split
  · exact .refl s
  · exact s.ran_withLessons ls

theorem State.ran_beginEdit (j : Job) : s.Ran (s.beginEdit j).1 := by
  unfold State.beginEdit
  split
  · exact .refl s
  · exact (s.ran_editLessons _).trans (State.ran_edited _ j)

theorem State.ran_beginSave (j : Job) : s.Ran (s.beginSave j).1 := by
  have saves : s.Ran (s.withLsc { s.lsc with saved := s.settingsInForce, due := true }) :=
    ⟨rfl, rfl, rfl, rfl, rfl, rfl, rfl, rfl, rfl, rfl, rfl, .same, rfl, .inr rfl, .inl rfl, fun _ h => h⟩
  exact saves.trans (State.ran_edited _ j)

theorem State.ran_beginRun (j : Job) : s.Ran (s.beginRun j).1 := by
  unfold State.beginRun
  split
  · exact s.ran_dropPin j
  split
  · exact s.ran_beginStore j _ _
  · exact s.ran_beginRecall j
  · exact s.ran_beginExport j
  · exact s.ran_beginSave j
  · exact s.ran_beginEdit j

/-- What every run and every end of a run keeps is kept while the heads of the queue begin their runs. -/
theorem State.advance_keeps {inv : State → Prop}
    (run : ∀ (s : State) j rest, s.lsc.queue = j :: rest → inv s → inv (s.beginRun j).1)
    (finish : ∀ (s : State) j rest r, s.lsc.queue = j :: rest → inv s → (s.beginRun j).2 = some r → inv ((s.beginRun j).1.finishHead r)) :
    ∀ (fuel : Nat) (s : State), inv s → inv (State.advance fuel s)
  | 0, _, h => h
  | fuel + 1, s, h => by
    unfold State.advance
    split
    · exact h
    · next j rest queue =>
      split
      · next t e =>
        have := run s j rest queue h
        rwa [e] at this
      · next t r e =>
        have := finish s j rest r queue h (by rw [e])
        rw [e] at this
        exact State.advance_keeps run finish fuel _ this

theorem State.ran_runNext : s.Ran s.runNext :=
  State.advance_keeps (inv := s.Ran) (fun t j _ _ h => h.trans (t.ran_beginRun j))
    (fun t j _ r _ h _ => (h.trans (t.ran_beginRun j)).trans (State.ran_finishHead _ r)) _ s (.refl s)

theorem State.ran_endHead (r : Reason) : s.Ran (s.endHead r) :=
  (s.ran_finishHead r).trans (State.ran_runNext _)

theorem State.ran_settleHead {x : State × Option Reason} (h : s.Ran x.1) : s.Ran (State.settleHead x) := by
  unfold State.settleHead
  split
  · exact h
  · exact h.trans (State.ran_endHead _ _)

theorem State.ran_enqueue (j : Job) : s.Ran (s.enqueue j) := by
  unfold State.enqueue
  split
  · exact (s.ran_withQueue _).trans (State.ran_runNext _)
  · exact s.ran_withQueue _

theorem State.ran_removeJob (n : Nat) (j : Job) : s.Ran (s.removeJob n j) := by
  have gone := ((s.ran_withQueue (s.lsc.queue.eraseIdx n)).trans (State.ran_dropPin _ j)).trans
    (State.ran_give _ j.port (j.record .withdrawn .noReason s.siu.frameNumber))
  unfold State.removeJob
  dsimp only
  split
  · exact gone.trans (State.ran_runNext _)
  · exact gone

theorem State.ran_withdrawAt (n : Nat) : s.Ran (s.withdrawAt n).1 := by
  unfold State.withdrawAt
  split
  · exact .refl s
  split
  · exact s.ran_withQueue _
  · exact s.ran_removeJob n _

theorem State.ran_acceptStore (h : CmdHeader) (k : CropAsked) : s.Ran (s.acceptStore h k) := by
  have pinned : s.Ran (s.pinLatest { port := h.port, marker := h.marker }) := by
    unfold State.pinLatest
    split
    · exact .refl s
    · exact s.ran_withSpm _
  exact pinned.trans (State.ran_enqueue _ _)

theorem State.ran_takeNotice : s.Ran s.takeNotice := by
  have taken := s.ran_withSpm { s.spm with notices := s.spm.notices - 1 }
  unfold State.takeNotice
  dsimp only
  split
  · exact taken
  split
  · exact taken.trans (State.ran_testReserve _ _ _)
  · exact taken

/-! ### The steps of a STORE run and of a catalogue write -/

theorem State.ran_eraseBlock (p k : Nat) : s.Ran (s.eraseBlock p k) := s.ran_issue _ (fun _ => by simp)

theorem State.ran_programImage (j : Job) (c : Capture) (p k : Nat) (crc : Quad) : s.Ran (s.programImage j c p k crc) :=
  s.ran_issue _ (fun _ => by simp)

theorem State.ran_readBack (p : Nat) (c : PageCheck) : s.Ran (s.readBack p c) := s.ran_issue _ (fun _ => by simp)

theorem State.ran_programHeader (lesson : Nat) (r : PageRecord) (crc : Quad) : s.Ran (s.programHeader lesson r crc) :=
  (s.ran_withLessons _).trans (State.ran_issue _ _ (fun _ => by simp))

theorem State.ran_keep (j : Job) (q : Half) : s.Ran (s.keep j q).1 := by
  have kept : s.Ran ((s.quiet.dropPin j).withLsc
      (s.quiet.lsc.withLessons (changeRecord s.quiet.lsc.lessons q fun r => { r with state := .kept }))) :=
    (s.ran_quiet.trans (State.ran_dropPin _ j)).trans ((s.quiet.dropPin j).ran_withLsc (by simp [Lsc.withLessons])
      (by simp [Lsc.withLessons]) (by simp [Lsc.withLessons]) fun r h => by simpa [Lsc.withLessons] using h)
  exact kept.trans (State.ran_jobWrite _ _)

theorem State.ran_erased (j : Job) (c : Capture) (r : PageRecord) (k : Nat) (result : FlashResult) :
    s.Ran (s.erased j c r k result).1 := by
  unfold State.erased
  split
  · exact s.ran_attemptFailed j _ _
  split
  · exact s.ran_eraseBlock _ _
  · exact (s.ran_setHead _).trans (State.ran_programImage _ _ _ _ _ _)

theorem State.ran_programmed (j : Job) (lesson : Nat) (c : Capture) (r : PageRecord) (k : Nat) (crc : Quad) (result : FlashResult) :
    s.Ran (s.programmed j lesson c r k crc result).1 := by
  unfold State.programmed
  split
  · exact s.ran_attemptFailed j _ _
  split
  · exact (s.ran_setHead _).trans (State.ran_readBack _ _ _)
  split
  · exact s.ran_programImage _ _ _ _ _
  · exact s.ran_programHeader _ _ _

theorem State.ran_checked (j : Job) (r : PageRecord) (c : PageCheck) (result : FlashResult) : s.Ran (s.checked j r c result).1 := by
  unfold State.checked
  dsimp only
  split
  · exact s.ran_readBack _ _
  split
  · exact s.ran_keep j _
  · exact s.ran_attemptFailed j _ _

theorem State.ran_damaged (j : Job) (n : Nat) (q : Half) : s.Ran (s.damaged j n q).1 := by
  have t : s.Ran ((s.quiet.withSpm (s.spm.remove n .load)).withLsc
      (s.quiet.lsc.withLessons (changeRecord s.lsc.lessons q fun r => { r with state := .damaged }))) :=
    (State.ran_withLsc _).after ((State.ran_withSpm _ _).after s.ran_quiet)
  unfold State.damaged
  dsimp only
  split
  · exact t
  · exact t.trans (State.ran_jobWrite _ _)

theorem State.ran_jobWritten (j : Job) : s.Ran (s.jobWritten j).1 := by
  unfold State.jobWritten
  split
  · split
    · exact (s.ran_setHead _).trans (State.ran_eraseBlock _ _ _)
    · exact .refl s
  all_goals exact .refl s

/-- What a failed catalogue write does besides making the store READ_ONLY. -/
theorem State.ran_writeFailed (owner : WriteOwner) : s.Ran (s.writeFailed owner) := by
  unfold State.writeFailed
  split
  · exact .refl s
  · exact s.ran_runNext
  split
  · exact .refl s
  · exact (s.ran_writeLost _).trans (State.ran_endHead _ _)

/-- What a passed catalogue write of a job or of RESTART does. -/
theorem State.ran_writePassed {owner : WriteOwner} (h : owner ≠ .recovery) : s.Ran (s.writePassed owner) := by
  unfold State.writePassed
  split
  · exact absurd rfl h
  · exact s.ran_runNext
  split
  · exact .refl s
  · exact s.ran_settleHead (s.ran_jobWritten _)

end Ran

end Sys2Proof.Machine

namespace Sys2Proof.Machine

/-! ### What the feed link can change -/

/-- The CPI but for the side that used the tether link last. -/
def Cpi.withSide (c : Cpi) (x : Option LinkSide) : Cpi := { c with lastSide := x }

theorem Cpi.raise_withSide (c : Cpi) (e : Event) (x : Option LinkSide) : (c.withSide x).raise e = (c.raise e).withSide x := rfl

theorem Cpi.given_withSide (c : Cpi) (p : Port) (r : Completion) (x : Option LinkSide) :
    (c.withSide x).given p r = (c.given p r).withSide x := by cases p <;> rfl

theorem Cpi.count_withSide (c : Cpi) (k : Counter) (x : Option LinkSide) : (c.withSide x).count k = (c.count k).withSide x := by
  by_cases half : c.counter k = halfRange
  · have half' : (c.withSide x).counter k = halfRange := half
    by_cases masked : c.halfMasks.getLsbD k.number = true
    · have masked' : (c.withSide x).halfMasks.getLsbD k.number = true := masked
      simp only [Cpi.count, half, half', masked, masked', if_true]; rfl
    · have masked' : ¬ (c.withSide x).halfMasks.getLsbD k.number = true := masked
      simp only [Cpi.count, half, half', if_neg masked, if_neg masked', if_true]; rfl
  · have half' : ¬ (c.withSide x).counter k = halfRange := half
    simp only [Cpi.count, if_neg half, if_neg half']; rfl

theorem Cpi.Noted.withSide {c d : Cpi} (h : c.Noted d) (x : Option LinkSide) : (c.withSide x).Noted (d.withSide x) := by
  induction h with
  | same => exact .same
  | raise e _ ih => exact Cpi.raise_withSide _ e x ▸ ih.raise e
  | give p r _ ih => exact Cpi.given_withSide _ p r x ▸ ih.give p r
  | count k _ ih => exact Cpi.count_withSide _ k x ▸ ih.count k

/-- What the feed link controller's work leaves alone: every block but the FLC, the pool, the LSC and the CPI, of which last it only uses
the tether link and takes notes. Of the FLC the marks and the notes stay and the hand-over is not made; of the LSC what running jobs
leave stays. -/
structure State.Fed (s t : State) : Prop where
  siu : t.siu = s.siu
  tsu : t.tsu = s.tsu
  tcl : t.tcl = s.tcl
  peu : t.peu = s.peu
  vwc : t.vwc = s.vwc
  dou : t.dou = s.dou
  powered : t.powered = s.powered
  freeCount : t.freeCount = s.freeCount
  pending : t.pending = s.pending
  marks : t.flc.marks = s.flc.marks
  started : t.flc.started = s.flc.started
  cpi : ∃ x, (s.cpi.withSide x).Noted t.cpi
  retryLimit : t.lsc.retryLimit = s.lsc.retryLimit
  saved : t.lsc.saved = s.lsc.saved ∨ t.lsc.saved = s.settingsInForce
  mode : t.lsc.mode = s.lsc.mode ∨ t.lsc.mode = .readOnly
  reading : ∀ r, t.lsc.activity = .recovering r → s.lsc.activity = .recovering r

theorem State.Fed.settingsInForce {s t : State} (h : s.Fed t) : t.settingsInForce = s.settingsInForce := by
  obtain ⟨x, noted⟩ := h.cpi
  have k := noted.keeps
  have panel : t.cpi.panel.enables = s.cpi.panel.enables := k.enables .panel
  have room : t.cpi.room.enables = s.cpi.room.enables := k.enables .room
  have tether : t.cpi.tether.enables = s.cpi.tether.enables := k.enables .tether
  have reachRoom : t.cpi.reachRoom = s.cpi.reachRoom := k.reachRoom
  have reachTether : t.cpi.reachTether = s.cpi.reachTether := k.reachTether
  simp only [State.settingsInForce, h.tcl, h.tsu, h.peu, h.vwc, h.dou, h.marks, panel, room, tether, reachRoom, reachTether]

theorem State.Fed.refl (s : State) : s.Fed s :=
  ⟨rfl, rfl, rfl, rfl, rfl, rfl, rfl, rfl, rfl, rfl, rfl, ⟨s.cpi.lastSide, .same⟩, rfl, .inl rfl, .inl rfl, fun _ h => h⟩

theorem State.Fed.trans {s t u : State} (h : s.Fed t) (g : t.Fed u) : s.Fed u where
  siu := g.siu.trans h.siu
  tsu := g.tsu.trans h.tsu
  tcl := g.tcl.trans h.tcl
  peu := g.peu.trans h.peu
  vwc := g.vwc.trans h.vwc
  dou := g.dou.trans h.dou
  powered := g.powered.trans h.powered
  freeCount := g.freeCount.trans h.freeCount
  pending := g.pending.trans h.pending
  marks := g.marks.trans h.marks
  started := g.started.trans h.started
  cpi := by
    obtain ⟨x, hx⟩ := h.cpi
    obtain ⟨y, hy⟩ := g.cpi
    exact ⟨y, (hx.withSide y).trans hy⟩
  retryLimit := g.retryLimit.trans h.retryLimit
  saved := by
    rcases g.saved with e | e
    · exact e ▸ h.saved
    · exact .inr (e.trans h.settingsInForce)
  mode := by
    rcases g.mode with e | e
    · exact e ▸ h.mode
    · exact .inr e
  reading r e := h.reading r (g.reading r e)

theorem State.Fed.after {s t u : State} (g : t.Fed u) (h : s.Fed t) : s.Fed u := h.trans g

/-- The running of jobs is among what the feed link can bring about. -/
theorem State.Ran.fed {s t : State} (h : s.Ran t) : s.Fed t :=
  ⟨h.siu, h.tsu, h.tcl, h.peu, h.vwc, h.dou, h.powered, h.freeCount, h.pending, by rw [h.flc], by rw [h.flc],
    ⟨s.cpi.lastSide, h.cpi⟩, h.retryLimit, h.saved, h.mode, h.reading⟩

section Fed
variable (s : State)

theorem State.fed_withFlc {f : Flc} (marks : f.marks = s.flc.marks := by rfl) (started : f.started = s.flc.started := by rfl) :
    s.Fed (s.withFlc f) :=
  ⟨rfl, rfl, rfl, rfl, rfl, rfl, rfl, rfl, rfl, marks, started, ⟨s.cpi.lastSide, .same⟩, rfl, .inl rfl, .inl rfl, fun _ h => h⟩

theorem State.fed_withSpm (p : Spm) : s.Fed (s.withSpm p) := (s.ran_withSpm p).fed
theorem State.fed_raise (e : Event) : s.Fed (s.raise e) := (s.ran_raise e).fed
theorem State.fed_count (k : Counter) : s.Fed (s.count k) := (s.ran_count k).fed

theorem State.fed_sendPacket (p : FeedPacket) : s.Fed (s.sendPacket p) :=
  ⟨rfl, rfl, rfl, rfl, rfl, rfl, rfl, rfl, rfl, rfl, rfl, ⟨some .flc, .same⟩, rfl, .inl rfl, .inl rfl, fun _ h => h⟩

theorem State.fed_sendPages (l : List AgreementPage) : s.Fed (s.sendPages l) := by
  induction l generalizing s with
  | nil => exact s.fed_withFlc
  | cons p rest ih =>
    unfold State.sendPages
    split
    · exact (ih _).after (s.fed_sendPacket _)
    · exact s.fed_withFlc

theorem State.fed_servePages : s.Fed s.servePages := s.fed_sendPages _

theorem State.fed_queuePage (p : AgreementPage) : s.Fed (s.queuePage p) := s.fed_withFlc

theorem State.fed_startPageTimer : s.Fed s.startPageTimer := s.fed_withFlc

theorem State.fed_sendOffer (ack : Bool) : s.Fed (s.sendOffer ack) := (State.fed_startPageTimer _).after (s.fed_queuePage _)

theorem State.fed_beginAgreement : s.Fed s.beginAgreement := (State.fed_sendOffer _ _).after s.fed_withFlc

theorem State.fed_sendNote (ack2 : Bool) : s.Fed (s.sendNote ack2) := (State.fed_queuePage _ _).after s.fed_withFlc

theorem State.fed_feedUp (format : Nat) : s.Fed (s.feedUp format) := (State.fed_raise _ _).after s.fed_withFlc

theorem State.fed_noCommonFormat : s.Fed s.noCommonFormat :=
  (State.fed_raise _ _).after ((State.fed_queuePage _ _).after s.fed_withFlc)

theorem State.fed_resolve : s.Fed s.resolve := by
  unfold State.resolve
  split
  · exact s.fed_feedUp _
  · exact s.fed_noCommonFormat

theorem State.fed_baseComplete : s.Fed s.baseComplete := by
  unfold State.baseComplete
  split
  · exact (State.fed_startPageTimer _).after ((State.fed_sendNote _ _).after s.fed_withFlc)
  · exact s.fed_resolve

theorem State.fed_takeOffer (o : BaseOffer) : s.Fed (s.takeOffer o) := by
  have answered : s.Fed ((s.withFlc { s.flc with partner := some o }).sendOffer true) := (State.fed_sendOffer _ _).after s.fed_withFlc
  unfold State.takeOffer
  dsimp only
  split
  · exact (State.fed_baseComplete _).after answered
  · exact (State.fed_withFlc _).after answered

theorem Flc.hear_keeps (f : Flc) (ack2 : Bool) : (f.hear ack2).marks = f.marks ∧ (f.hear ack2).started = f.started := by
  unfold Flc.hear Flc.agree
  split
  · exact ⟨rfl, rfl⟩
  split
  · split
    · exact ⟨rfl, rfl⟩
    · split_ifs <;> exact ⟨rfl, rfl⟩
  · exact ⟨rfl, rfl⟩

theorem Flc.takeNote_keeps (f : Flc) (p : NotePage) : (f.takeNote p).1.marks = f.marks ∧ (f.takeNote p).1.started = f.started := by
  unfold Flc.takeNote
  split <;> split_ifs <;> exact ⟨rfl, rfl⟩

theorem State.fed_newNote (p : NotePage) : s.Fed (s.newNote p) := by
  have hear := s.flc.hear_keeps p.ack2
  have take := (s.flc.hear p.ack2).takeNote_keeps p
  have kept : s.Fed (s.withFlc { ((s.flc.hear p.ack2).takeNote p).1 with bridgeToggle := p.toggle }) :=
    s.fed_withFlc (take.1.trans hear.1) (take.2.trans hear.2)
  unfold State.newNote
  dsimp only
  split
  · exact (State.fed_resolve _).after ((State.fed_sendNote _ _).after kept)
  · exact (State.fed_startPageTimer _).after ((State.fed_sendNote _ _).after kept)

theorem State.fed_repeatNote : s.Fed s.repeatNote := by
  unfold State.repeatNote
  split
  · exact .refl s
  · exact (State.fed_startPageTimer _).after (s.fed_queuePage _)

theorem State.fed_endExport (r : Reason) : s.Fed (s.endExport r) := by
  unfold State.endExport
  split
  · exact .refl s
  · exact (State.ran_endHead _ r).fed.after ((State.fed_withSpm _ _).after s.fed_withFlc)

theorem State.fed_countDropped : s.Fed s.countDropped := by
  unfold State.countDropped
  split
  · exact .refl s
  split
  · exact .refl s
  · exact s.fed_count _

theorem State.fed_leaveUp (a : Agreement) : s.Fed (s.leaveUp a) :=
  (State.fed_endExport _ _).after ((State.fed_withSpm _ _).after ((State.fed_withFlc _).after s.fed_countDropped))

theorem State.fed_feedFault : s.Fed s.feedFault := by
  unfold State.feedFault
  refine (State.fed_raise _ _).after ((State.fed_withFlc _).after ?_)
  split
  · exact s.fed_leaveUp _
  · exact .refl s

theorem State.fed_remoteRestart (o : BaseOffer) : s.Fed (s.remoteRestart o) :=
  (State.fed_takeOffer _ o).after ((State.fed_withFlc _).after ((State.fed_raise _ _).after (s.fed_leaveUp _)))

theorem State.fed_offerAgain (o : BaseOffer) : s.Fed (s.offerAgain o) := by
  unfold State.offerAgain
  split
  · exact (State.fed_baseComplete _).after s.fed_withFlc
  · exact s.fed_takeOffer o

theorem State.fed_baseOffer (o : BaseOffer) : s.Fed (s.baseOffer o) := by
  have fault := s.fed_feedFault
  unfold State.baseOffer
  split
  case h_1 | h_2 => exact .refl s
  case h_3 | h_4 =>
    split
    · exact s.fed_takeOffer o
    · exact fault
  case h_5 =>
    split
    · exact s.fed_offerAgain o
    · exact fault
  case h_6 =>
    split
    · split
      · exact s.fed_remoteRestart o
      · exact .refl s
    · exact fault

theorem State.fed_notePage (p : NotePage) : s.Fed (s.notePage p) := by
  unfold State.notePage
  split
  · split
    · exact s.fed_repeatNote
    · exact s.fed_newNote p
  all_goals exact .refl s

theorem State.fed_pageExpired : s.Fed s.pageExpired := by
  have counted : s.Fed (s.withFlc { s.flc with restartCount := s.flc.restartCount + 1 }) := s.fed_withFlc
  unfold State.pageExpired
  dsimp only
  split
  · exact (State.fed_beginAgreement _).after counted
  · exact (State.fed_raise _ _).after ((State.fed_withFlc _).after counted)

theorem State.fed_startFeedFrame : s.Fed s.startFeedFrame := by
  unfold State.startFeedFrame
  split
  · split
    · exact s.fed_withFlc
    · exact (State.fed_withSpm _ _).after s.fed_withFlc
    · exact .refl s
  · exact .refl s

theorem State.fed_produceLine : s.Fed s.produceLine := by
  unfold State.produceLine
  split
  · exact .refl s
  split
  · dsimp only
    split
    · exact (State.fed_withSpm _ _).after s.fed_withFlc
    · exact s.fed_withFlc
  · exact .refl s

theorem State.fed_sendStart (f : FeedFrame) : s.Fed (s.sendStart f) := by
  unfold State.sendStart
  split
  · exact s.fed_sendPacket _
  · exact .refl s

theorem State.fed_frameOver : s.Fed s.frameOver := s.fed_withFlc

theorem State.fed_endKind (k : FeedKind) (r : Reason) : s.Fed (s.endKind k r) := by
  unfold State.endKind
  split
  · exact .refl s
  · exact s.fed_endExport r

theorem State.fed_sendLine (f : FeedFrame) (l : FeedLine) (rest : List FeedLine) : s.Fed (s.sendLine f l rest) := by
  have sent : s.Fed (((s.sendStart f).withFlc { s.flc with buffer := rest, frame := some (f.afterSent rest.length) }).sendPacket
      (.feedLine l)) :=
    (State.fed_sendPacket _ _).after (((s.sendStart f).fed_withFlc (by simp) (by simp)).after (s.fed_sendStart f))
  unfold State.sendLine
  dsimp only
  split
  · exact (State.fed_endKind _ _ _).after ((State.fed_count _ _).after ((State.fed_frameOver _).after ((State.fed_sendPacket _ _).after sent)))
  · exact sent

theorem State.fed_lineGoes : s.Fed s.lineGoes := by
  unfold State.lineGoes
  split
  · split
    · exact s.fed_sendLine _ _ _
    · exact .refl s
  · exact .refl s

theorem State.fed_sendCutEnd : s.Fed s.sendCutEnd := by
  unfold State.sendCutEnd
  split
  · exact .refl s
  split
  · exact (State.fed_endKind _ _ _).after ((State.fed_frameOver _).after ((State.fed_sendPacket _ _).after (s.fed_sendStart _)))
  · exact .refl s

theorem State.fed_cutFrame : s.Fed s.cutFrame := by
  unfold State.cutFrame
  split
  · exact .refl s
  · exact (State.fed_sendCutEnd _).after ((State.fed_count _ _).after ((State.fed_withSpm _ _).after s.fed_withFlc))

theorem State.fed_serveFeed : s.Fed s.serveFeed := (State.fed_sendCutEnd _).after s.fed_servePages

theorem State.fed_releaseHold : s.Fed s.releaseHold := (State.fed_sendCutEnd _).after s.fed_withFlc

theorem State.fed_takeHold (d : Half) : s.Fed (s.takeHold d) := by
  unfold State.takeHold
  split
  · exact s.fed_releaseHold
  · exact s.fed_withFlc

theorem State.fed_intervalExpired : s.Fed s.intervalExpired := by
  unfold State.intervalExpired
  split
  · exact s.fed_withFlc
  · exact (State.fed_count _ _).after s.fed_withFlc

theorem State.fed_restartFeed : s.Fed s.restartFeed := by
  unfold State.restartFeed
  refine (State.fed_beginAgreement _).after ((State.fed_withFlc _).after ?_)
  split
  · exact s.fed_leaveUp _
  · exact .refl s

end Fed

end Sys2Proof.Machine

namespace Sys2Proof.Machine

/-! ### What everything but the intake leaves of it -/

/-- The intake with its building set, its frame copies and its line store, the page box and the queue of arrivals are as they were. -/
structure State.Leaves (s t : State) : Prop where
  siu : t.siu = s.siu
  building : t.tsu.building = s.tsu.building
  thresholdCopy : t.tsu.thresholdCopy = s.tsu.thresholdCopy
  tableCopy : t.tcl.copy = s.tcl.copy
  box : t.tcl.box = s.tcl.box
  profilesCopy : t.peu.copy = s.peu.copy
  lineStore : t.peu.lineStore = s.peu.lineStore
  pending : t.pending = s.pending

theorem State.Leaves.refl (s : State) : s.Leaves s := ⟨rfl, rfl, rfl, rfl, rfl, rfl, rfl, rfl⟩

theorem State.Leaves.trans {s t u : State} (h : s.Leaves t) (g : t.Leaves u) : s.Leaves u where
  siu := g.siu.trans h.siu
  building := g.building.trans h.building
  thresholdCopy := g.thresholdCopy.trans h.thresholdCopy
  tableCopy := g.tableCopy.trans h.tableCopy
  box := g.box.trans h.box
  profilesCopy := g.profilesCopy.trans h.profilesCopy
  lineStore := g.lineStore.trans h.lineStore
  pending := g.pending.trans h.pending

theorem State.Leaves.after {s t u : State} (g : t.Leaves u) (h : s.Leaves t) : s.Leaves u := h.trans g

theorem State.Fed.leaves {s t : State} (h : s.Fed t) : s.Leaves t :=
  ⟨h.siu, by rw [h.tsu], by rw [h.tsu], by rw [h.tcl], by rw [h.tcl], by rw [h.peu], by rw [h.peu], h.pending⟩

theorem State.Ran.leaves {s t : State} (h : s.Ran t) : s.Leaves t := h.fed.leaves

/-- A state with the same intake blocks and queue. -/
theorem State.leaves_of_eq {s t : State} (siu : t.siu = s.siu := by simp) (tsu : t.tsu = s.tsu := by simp)
    (tcl : t.tcl = s.tcl := by simp) (peu : t.peu = s.peu := by simp) (pending : t.pending = s.pending := by simp) : s.Leaves t :=
  ⟨siu, by rw [tsu], by rw [tsu], by rw [tcl], by rw [tcl], by rw [peu], by rw [peu], pending⟩

section Leaves
variable (s : State)

theorem State.leaves_viewChanged : s.Leaves s.viewChanged := State.leaves_of_eq

theorem State.leaves_owe (p : Port) (r : Reply) : s.Leaves (s.owe p r) := State.leaves_of_eq

theorem State.leaves_fitPage : s.Leaves s.fitPage :=
  State.leaves_of_eq (by simp [State.fitPage, State.aim]) (by simp [State.fitPage, State.aim]) (by simp [State.fitPage, State.aim])
    (by simp [State.fitPage, State.aim]) (by simp [State.fitPage, State.aim])

theorem State.leaves_unfreeze : s.Leaves s.unfreeze := by
  unfold State.unfreeze
  split
  · exact .refl s
  · exact State.leaves_of_eq

theorem State.leaves_showLive : s.Leaves s.showLive := by
  unfold State.showLive
  split
  · exact .refl s
  · exact State.leaves_of_eq

/-- The work of a command leaves the intake alone. -/
theorem State.Worked.leaves {s u : State} {p : Port} (h : s.Worked p u) : s.Leaves u := by
  cases h
  case nothing => exact .refl s
  case aimed => exact State.leaves_of_eq rfl rfl rfl rfl rfl
  case zoomed => exact State.leaves_of_eq
  case fitted => exact (State.leaves_viewChanged _).after s.leaves_fitPage
  case frozen => exact State.leaves_of_eq rfl rfl rfl rfl rfl
  case unfrozen => exact (State.leaves_viewChanged _).after s.leaves_unfreeze
  case laidOut => exact State.leaves_of_eq
  case shownLive => exact (State.leaves_viewChanged _).after s.leaves_showLive
  case glideSet => exact State.leaves_of_eq
  case stored h k _ _ => exact (s.ran_acceptStore h k).leaves
  case queued => exact (s.ran_enqueue _).leaves
  case withdrawn n _ => exact (s.ran_withdrawAt n).leaves
  case reachSet room i w _ => cases room <;> exact State.leaves_of_eq rfl rfl rfl rfl rfl
  all_goals exact ⟨rfl, rfl, rfl, rfl, rfl, rfl, rfl, rfl⟩

theorem State.leaves_frameStarts : s.Leaves s.frameStarts := by
  unfold State.frameStarts
  split
  · exact State.leaves_of_eq
  split
  · exact .refl s
  · exact State.leaves_of_eq (by simp [State.outputFrame, State.latchPanes]) (by simp [State.outputFrame, State.latchPanes])
      (by simp [State.outputFrame, State.latchPanes]) (by simp [State.outputFrame, State.latchPanes])
      (by simp [State.outputFrame, State.latchPanes])

theorem State.leaves_handOver : s.Leaves s.handOver := ⟨rfl, rfl, rfl, rfl, rfl, rfl, rfl, rfl⟩

theorem State.leaves_ready : s.Leaves s.ready := ⟨rfl, rfl, rfl, rfl, rfl, rfl, rfl, rfl⟩

theorem State.leaves_dropUnfinished : s.Leaves s.dropUnfinished := by
  have dropped : s.Leaves ((s.withLsc (s.lsc.withLessons (dropWriting s.lsc.lessons))).raise .pageDroppedAtStart) := State.leaves_of_eq
  unfold State.dropUnfinished
  split
  · dsimp only
    split
    · next h => exact (State.ran_attempt _ h).leaves.after dropped
    · exact (State.ran_readOnly _).leaves.after dropped
  · exact s.leaves_ready

theorem State.leaves_recovered (best : Option (Nat × CatalogueImage)) : s.Leaves (s.recovered best) := by
  have handed : s.Leaves (s.quiet.withLsc (s.quiet.lsc.adopt best)).handOver :=
    (State.leaves_handOver _).after State.leaves_of_eq
  unfold State.recovered
  refine (State.fed_servePages _).leaves.after ((State.leaves_dropUnfinished _).after ?_)
  split
  · exact (State.ran_raise _ _).leaves.after handed
  · exact handed

theorem State.leaves_writing (w : CatalogueWrite) (result : FlashResult) : s.Leaves (s.writing w result) := by
  unfold State.writing
  split
  · exact State.leaves_of_eq
  · have passed := (s.ran_written w.block).leaves
    by_cases owner : w.owner = .recovery
    · rw [owner]; exact (State.leaves_ready _).after passed
    · exact (State.ran_writePassed _ owner).leaves.after passed
  · have failed : s.Ran (s.readOnly.writeFailed w.owner) := (State.ran_writeFailed _ _).after s.ran_readOnly
    split
    · split
      · next h => exact (State.ran_attempt _ h).leaves
      · exact failed.leaves
    · exact failed.leaves

theorem State.leaves_loaded (j : Job) (r : PageRecord) (n : Nat) (c : PageCheck) (result : FlashResult) :
    s.Leaves (s.loaded j r n c result).1 := by
  have drawn : s.Leaves (s.withSpm (s.spm.draw n fun p => p.addBytes c.page result)) := State.leaves_of_eq
  unfold State.loaded
  dsimp only
  split
  · exact (State.ran_issue _ _ (fun _ => by simp)).leaves.after drawn
  split
  · refine State.Leaves.after ?_ drawn
    unfold State.loadSound
    split
    · unfold State.handExport
      dsimp only
      split <;> exact State.leaves_of_eq
    · exact State.leaves_of_eq (by simp [State.recalled, State.showPage]) (by simp [State.recalled, State.showPage])
        (by simp [State.recalled, State.showPage]) (by simp [State.recalled, State.showPage]) (by simp [State.recalled, State.showPage])
  · exact (State.ran_damaged _ _ _ _).leaves.after drawn

theorem State.leaves_onPlace (result : FlashResult) (j : Job) (r : PageRecord) : s.Leaves (s.onPlace result j r).1 := by
  unfold State.onPlace
  split
  · exact (s.ran_erased _ _ _ _ _).leaves
  · exact (s.ran_programmed _ _ _ _ _ _ _).leaves
  · exact (s.ran_checked _ _ _ _).leaves
  · exact s.leaves_loaded _ _ _ _ _
  · exact .refl s

theorem State.leaves_settleHead {x : State × Option Reason} (h : s.Leaves x.1) : s.Leaves (State.settleHead x) := by
  unfold State.settleHead
  split
  · exact h
  · exact (State.ran_endHead _ _).leaves.after h

theorem State.leaves_flashDone (result : FlashResult) : s.Leaves (s.flashDone result) := by
  unfold State.flashDone
  split
  · exact .refl s
  · unfold State.recovering
    split
    · exact State.leaves_of_eq
    · exact s.leaves_recovered _
  · exact s.leaves_writing _ _
  · split
    · exact .refl s
    split
    · exact .refl s
    · exact s.leaves_settleHead (s.leaves_onPlace _ _ _)

theorem State.leaves_panelRead (clocked : Nat) : s.Leaves (s.panelRead clocked) := by
  unfold State.panelRead
  dsimp only
  split <;> exact State.leaves_of_eq

theorem State.leaves_roomSent : s.Leaves s.roomSent := by
  unfold State.roomSent
  split <;> exact State.leaves_of_eq

theorem State.leaves_tetherSent : s.Leaves s.tetherSent := by
  unfold State.tetherSent
  split
  · exact .refl s
  · exact (State.fed_serveFeed _).leaves.after State.leaves_of_eq

end Leaves

/-- All that an arrival can do to the intake: it leaves it alone, or the arrival is RESTART or one of the intake's own. -/
theorem State.Effect.intake_cases {s t : State} (h : s.Effect t) :
    s.Leaves t ∨ (∃ p r, t = (s.restart.owe p r).serveFeed) ∨ t = s.endFrameInProgress.openFrame.askSlot ∨
      (∃ line, t = s.lineEnd line) ∨ t = s.frameEnd ∨
      (∃ d n, s.siu.timer = running d (n + 1) ∧ t = s.withSiu { s.siu with timer := running d n }) ∨ t = s.signalLost := by
  cases h
  case restarted p r _ _ => exact .inr (.inl ⟨p, r, rfl⟩)
  case frameStart => exact .inr (.inr (.inl rfl))
  case lineEnd line => exact .inr (.inr (.inr (.inl ⟨line, rfl⟩)))
  case frameEnd => exact .inr (.inr (.inr (.inr (.inl rfl))))
  case signalLate d n late => exact .inr (.inr (.inr (.inr (.inr (.inl ⟨d, n, late, rfl⟩)))))
  case signalLost => exact .inr (.inr (.inr (.inr (.inr (.inr rfl)))))
  all_goals left
  case nothing => exact .refl s
  case command p r hw _ => exact (State.leaves_owe _ p r).after hw.leaves
  case feedRestarted p r _ _ => exact (State.fed_serveFeed _).leaves.after ((State.leaves_owe _ p r).after s.fed_restartFeed.leaves)
  case refusedBusy => exact State.leaves_of_eq
  case notice => exact s.ran_takeNotice.leaves
  case outputFrame => exact s.leaves_frameStarts
  case offer o _ => exact (State.fed_servePages _).leaves.after (s.fed_baseOffer o).leaves
  case note p _ => exact (State.fed_servePages _).leaves.after (s.fed_notePage p).leaves
  case hold d => exact (s.fed_takeHold d).leaves
  case pageExpired => exact (State.fed_servePages _).leaves.after s.fed_pageExpired.leaves
  case intervalExpired => exact s.fed_intervalExpired.leaves
  case allowanceExpired => exact s.fed_cutFrame.leaves
  case holdExpired => exact s.fed_releaseHold.leaves
  case feedFrameStart => exact s.fed_startFeedFrame.leaves
  case lineProduced => exact s.fed_produceLine.leaves
  case lineSent => exact s.fed_lineGoes.leaves
  case flash result _ => exact s.leaves_flashDone result
  case panelRead n => exact s.leaves_panelRead n
  case roomSent => exact s.leaves_roomSent
  case tetherSent => exact s.leaves_tetherSent
  all_goals exact State.leaves_of_eq

/-! ### The intake stays sound (01; 03 R38) -/

/-- The intake's soundness rests on what arrivals of the other blocks leave alone. -/
theorem State.Leaves.keeps_intakeSound {s t : State} (h : s.Leaves t) (hs : s.intakeSound) : t.intakeSound := by
  simpa only [State.intakeSound, h.siu, h.building, h.lineStore] using hs

section IntakeSound
variable {s : State}

/-- What RESTART makes of the intake and of the blocks around it. -/
theorem State.restart_leaves (s : State) : s.restartBlocks.Leaves s.restart := by
  have begun : s.restartBlocks.Leaves s.restartBlocks.rework.beginAgreement :=
    (State.fed_beginAgreement _).leaves.after State.leaves_of_eq
  unfold State.restart State.writeAfterRestart
  split
  · split
    · next h => exact (State.ran_attempt _ h).leaves.after begun
    · exact (State.ran_readOnly _).leaves.after begun
  · exact begun

theorem State.intakeSound_of_waiting {t : State} (siu : t.siu = Siu.restarted) (building : t.tsu.building = none) : t.intakeSound := by
  simp [State.intakeSound, siu, building, Siu.restarted]

@[simp] theorem State.breakFrame_building (s : State) : s.breakFrame.tsu.building = none := by simp [State.breakFrame]

@[simp] theorem State.breakFrame_lineStore (s : State) : s.breakFrame.peu.lineStore = s.peu.lineStore := by simp [State.breakFrame]

/-- A frame that is broken leaves a sound intake, whatever state its own rule gives. -/
theorem State.intakeSound_broken (hs : s.intakeSound) {i : IntakeState} (hi : i ≠ .receiving) (quiet : i ≠ .noSignal) :
    (s.breakFrame.setIntake i).intakeSound := by
  obtain ⟨_, lines, number, _, _⟩ := hs
  simp [State.intakeSound, State.setIntake, lines, number, hi, quiet]

theorem State.intakeSound_frameStart (s : State) : s.endFrameInProgress.openFrame.askSlot.intakeSound := by
  unfold State.askSlot
  split <;> simp [State.intakeSound, State.setIntake, State.openFrame, lastFrameNumber]

theorem State.enhanceAccepted_keeps (s : State) (y : Nat) (line : List PixelClock) :
    (s.enhanceAccepted y line).siu = s.siu ∧ (s.enhanceAccepted y line).tsu = s.tsu ∧
      (s.enhanceAccepted y line).peu.lineStore = storeLine s.peu.lineStore line := by
  unfold State.enhanceAccepted
  dsimp only
  split <;> simp

/-- The line store holds the line taken and the two before it at most. -/
theorem storeLine_length (store : List (List PixelClock)) (line : List PixelClock) (h : store.length ≤ 3) :
    (storeLine store line).length = min 3 (store.length + 1) := by
  simp only [storeLine, List.length_drop, List.length_append, List.length_singleton]
  omega

theorem State.intakeSound_lineEnd (hs : s.intakeSound) (line : List PixelClock) : (s.lineEnd line).intakeSound := by
  obtain ⟨receiving, lines, number, silent, store⟩ := id hs
  unfold State.lineEnd
  split
  case h_1 state =>
    split
    · next whole =>
      obtain ⟨siu, tsu, held⟩ := (s.withTsu (s.tsu.gather s.siu.lines line)).enhanceAccepted_keeps s.siu.lines line
      have open_set := receiving.mp state
      have stored := store state
      unfold State.acceptLine
      refine ⟨?_, ?_, number, silent, fun _ => ?_⟩
      · rw [State.withSiu_tsu, tsu]; simpa [state, Tsu.gather] using open_set
      · simpa using whole.2
      · simp only [State.withSiu_peu, State.withSiu_siu, held, State.withTsu_peu]
        rw [storeLine_length _ _ (by omega), stored]
        omega
    · exact State.intakeSound_broken hs (by decide) (by decide)
  all_goals exact hs

theorem State.settle_building (s : State) : s.settle.tsu.building = none := by
  unfold State.settle
  split
  · assumption
  · rfl

theorem State.enhanceLast_keeps (s : State) : s.enhanceLast.siu = s.siu ∧ s.enhanceLast.tsu = s.tsu ∧ s.enhanceLast.peu = s.peu := by
  unfold State.enhanceLast
  split <;> simp

theorem State.goodFrame_keeps (s : State) :
    s.goodFrame.siu = { s.siu with intake := .waiting } ∧ s.goodFrame.tsu.building = none := by
  obtain ⟨siu, -, -⟩ := s.enhanceLast_keeps
  constructor
  · simp [State.goodFrame, State.setIntake, siu]
  · simp [State.goodFrame, State.settle_building]

theorem State.intakeSound_frameEnd (hs : s.intakeSound) : s.frameEnd.intakeSound := by
  obtain ⟨receiving, lines, number, silent, store⟩ := id hs
  unfold State.frameEnd
  split
  case h_1 state =>
    split
    · obtain ⟨siu, building⟩ := s.goodFrame_keeps
      simp [State.intakeSound, siu, building, lines, number]
    · exact State.intakeSound_broken hs (by decide) (by decide)
  case h_2 state | h_3 state =>
    have closed : s.tsu.building = none := by simpa [state] using receiving
    simp [State.intakeSound, State.setIntake, lines, number, closed]
  all_goals exact hs

theorem State.intakeSound_signalLost (hs : s.intakeSound) : s.signalLost.intakeSound := by
  obtain ⟨receiving, lines, number, silent, store⟩ := hs
  unfold State.signalLost
  dsimp only
  split
  · simp [State.intakeSound, lines, number]
  · next state =>
    have closed : s.tsu.building = none := by simpa [state] using receiving
    simp [State.intakeSound, lines, number, closed]

theorem State.Effect.keeps_intakeSound {t : State} (h : s.Effect t) (hs : s.intakeSound) : t.intakeSound := by
  rcases h.intake_cases with h | ⟨p, r, rfl⟩ | rfl | ⟨line, rfl⟩ | rfl | ⟨d, n, late, rfl⟩ | rfl
  · exact h.keeps_intakeSound hs
  · have leaves := (State.fed_serveFeed _).leaves.after ((State.leaves_owe _ p r).after s.restart_leaves)
    exact leaves.keeps_intakeSound (State.intakeSound_of_waiting rfl rfl)
  · exact s.intakeSound_frameStart
  · exact State.intakeSound_lineEnd hs line
  · exact State.intakeSound_frameEnd hs
  · obtain ⟨receiving, lines, number, silent, store⟩ := hs
    have runs : s.siu.intake ≠ .noSignal := fun e => by simp [silent e, running] at late
    exact ⟨receiving, lines, number, fun e => absurd e runs, store⟩
  · exact State.intakeSound_signalLost hs

end IntakeSound

/-- Settles O8: only RESTART and the intake's own arrivals touch the intake, its building set and its line store, and each of them keeps
it sound. -/
theorem intakeStaysSound : Obligations.IntakeStaysSound :=
  keptByStep_of_effects
    (fun s t h hs => by simpa only [State.intakeSound, h.siu, h.tsu, h.peu] using hs)
    (fun _ _ => State.intakeSound_of_waiting rfl rfl) (fun _ _ => State.intakeSound_of_waiting rfl rfl)
    fun _ _ h hs => h.keeps_intakeSound hs

/-! ### Every arrival ends (00 section 1.6.4) -/

/-- Every effect of an arrival keeps the queue of the arrivals that wait. -/
theorem State.Effect.keeps_pending {s t : State} (h : s.Effect t) : t.pending = s.pending := by
  rcases h.intake_cases with h | ⟨p, r, rfl⟩ | rfl | ⟨line, rfl⟩ | rfl | ⟨d, n, late, rfl⟩ | rfl
  · exact h.pending
  · exact ((State.fed_serveFeed _).leaves.after ((State.leaves_owe _ p r).after s.restart_leaves)).pending
  · simp
  · unfold State.lineEnd State.acceptLine State.enhanceAccepted
    split
    · split
      · dsimp only; split <;> simp
      · simp
    all_goals rfl
  · unfold State.frameEnd State.goodFrame State.enhanceLast
    split
    · split
      · split <;> simp
      · simp
    all_goals simp
  · rfl
  · unfold State.signalLost
    dsimp only
    split <;> simp

theorem State.Acts.keeps_pending {s t : State} (h : s.Acts t) : t.pending = s.pending := by
  obtain ⟨rx, u, e, heard, rfl⟩ := h
  have : u.pending = (s.listening [] rx).pending :=
    heard.keeps (inv := fun v => v.pending = (s.listening [] rx).pending) (fun _ _ e h => e.keeps_pending.trans h) rfl
  exact (State.transmit_pending _).trans this

/-- Settles O11: `arrive` always answers a next state, every effect keeps the queue, and without power `arrive` does nothing. -/
theorem everyArrivalEnds : Obligations.EveryArrivalEnds := by
  refine ⟨fun c s => ?_, fun c s hp h1 h2 => exec_unpowered hp h1 h2⟩
  have ends : ∃ t, exec c s = .next t := by
    by_cases h1 : c = .startUp
    · exact h1 ▸ ⟨_, rfl⟩
    by_cases h2 : c = .powerLoss
    · exact h2 ▸ ⟨_, rfl⟩
    obtain ⟨f, e⟩ := exec_arrives c s h1 h2
    rw [e]
    unfold arrive
    split <;> exact ⟨_, rfl⟩
  obtain ⟨t, ht⟩ := ends
  refine ⟨t, ht, ?_⟩
  by_cases hp : s.powered = true
  · rcases exec_acts hp ht with rfl | rfl | h
    · rfl
    · rfl
    · exact h.keeps_pending
  · rw [Bool.not_eq_true] at hp
    by_cases h1 : c = .startUp
    · subst h1; cases ht; rfl
    by_cases h2 : c = .powerLoss
    · subst h2; cases ht; rfl
    rw [exec_unpowered hp h1 h2] at ht
    cases ht; rfl

end Sys2Proof.Machine

namespace Sys2Proof.Machine

/-! ### Every setting stays within its range -/

/-- The settings in use and their frame copies are as they were; what is saved may be the settings in force, and no reading of the
catalogue area begins. -/
structure State.SameSettings (s t : State) : Prop where
  table : t.tcl.table = s.tcl.table := by first | rfl | simp
  tableCopy : t.tcl.copy = s.tcl.copy := by first | rfl | simp
  threshold : t.tsu.threshold = s.tsu.threshold := by first | rfl | simp
  thresholdCopy : t.tsu.thresholdCopy = s.tsu.thresholdCopy := by first | rfl | simp
  profiles : t.peu.profiles = s.peu.profiles := by first | rfl | simp
  profilesCopy : t.peu.copy = s.peu.copy := by first | rfl | simp
  glide : t.vwc.glide = s.vwc.glide := by first | rfl | simp
  modes : t.dou.mode = s.dou.mode ∧ t.dou.pendingMode = s.dou.pendingMode := by first | exact ⟨rfl, rfl⟩ | simp
  marks : t.flc.marks = s.flc.marks := by first | rfl | simp
  reach : t.cpi.reachRoom = s.cpi.reachRoom ∧ t.cpi.reachTether = s.cpi.reachTether := by first | exact ⟨rfl, rfl⟩ | simp
  enables : ∀ p, (t.cpi.port p).enables = (s.cpi.port p).enables := by first | exact fun _ => rfl | simp
  retryLimit : t.lsc.retryLimit = s.lsc.retryLimit := by first | rfl | simp
  saved : t.lsc.saved = s.lsc.saved ∨ t.lsc.saved = s.settingsInForce := by first | exact .inl rfl | simp
  reading : ∀ r, t.lsc.activity = .recovering r → s.lsc.activity = .recovering r := by first | exact fun _ h => h | simp

/-- The settings in force are within their ranges when each block's setting is. -/
theorem State.settingsSound.inForce {s : State} (h : s.settingsSound) : s.settingsInForce.inRange = true := by
  obtain ⟨table, -, threshold, -, profiles, -, glide, -, pending, marks, room, tether, ep, er, et, -⟩ := h
  simp [State.settingsInForce, SavedSettings.inRange, table, threshold, profiles, glide, pending, marks, room, tether, ep, er, et]

theorem State.SameSettings.keeps {s t : State} (h : s.SameSettings t) (hs : s.settingsSound) : t.settingsSound := by
  have inForce := hs.inForce
  obtain ⟨table, tableCopy, threshold, thresholdCopy, profiles, profilesCopy, glide, mode, pending, marks, room, tether, ep, er, et,
    limit, saved, found⟩ := hs
  have ep' : t.cpi.panel.enables = s.cpi.panel.enables := h.enables .panel
  have er' : t.cpi.room.enables = s.cpi.room.enables := h.enables .room
  have et' : t.cpi.tether.enables = s.cpi.tether.enables := h.enables .tether
  refine ⟨h.table ▸ table, h.tableCopy ▸ tableCopy, h.threshold ▸ threshold, h.thresholdCopy ▸ thresholdCopy, h.profiles ▸ profiles,
    h.profilesCopy ▸ profilesCopy, h.glide ▸ glide, h.modes.1 ▸ mode, h.modes.2 ▸ pending, h.marks ▸ marks, h.reach.1 ▸ room,
    h.reach.2 ▸ tether, ep' ▸ ep, er' ▸ er, et' ▸ et, h.retryLimit ▸ limit, ?_, fun r b i reads => found r b i (h.reading r reads)⟩
  rcases h.saved with e | e
  · exact e ▸ saved
  · exact e ▸ inForce

theorem State.Fed.sameSettings {s t : State} (h : s.Fed t) : s.SameSettings t := by
  obtain ⟨x, noted⟩ := h.cpi
  have k := noted.keeps
  refine ⟨by rw [h.tcl], by rw [h.tcl], by rw [h.tsu], by rw [h.tsu], by rw [h.peu], by rw [h.peu], by rw [h.vwc], by rw [h.dou]; simp,
    h.marks, ⟨k.reachRoom, k.reachTether⟩, fun p => (k.enables p).trans ?_, h.retryLimit, h.saved, h.reading⟩
  cases p <;> rfl

theorem State.Ran.sameSettings {s t : State} (h : s.Ran t) : s.SameSettings t := h.fed.sameSettings

theorem State.alike.sameSettings {s t : State} (h : s.alike t) : s.SameSettings t :=
  ⟨by rw [h.tcl], by rw [h.tcl], by rw [h.tsu], by rw [h.tsu], by rw [h.peu], by rw [h.peu], by rw [h.vwc], by rw [h.dou]; simp,
    by rw [h.flc], ⟨h.reachRoom, h.reachTether⟩, h.enables, by rw [h.lsc], .inl (by rw [h.lsc]), fun r e => h.lsc ▸ e⟩

section SettingsSound
variable {s : State}

theorem State.settingsSound.ran {t : State} (hs : s.settingsSound) (h : s.Ran t) : t.settingsSound := h.sameSettings.keeps hs

theorem State.settingsSound.fed {t : State} (hs : s.settingsSound) (h : s.Fed t) : t.settingsSound := h.sameSettings.keeps hs

/-- What the VWC's, the DOU's or the pool's own work changes is no setting. -/
theorem State.settingsSound.same {t : State} (hs : s.settingsSound) (h : s.SameSettings t) : t.settingsSound := h.keeps hs

theorem State.sameSettings_viewChanged (s : State) : s.SameSettings s.viewChanged where
  enables p := by cases p <;> simp [State.viewChanged, State.raise, Cpi.port, Cpi.raise]

theorem State.sameSettings_endWatch (s : State) (e : Ending) : s.SameSettings (s.endWatch e) := by
  unfold State.endWatch
  split
  · exact {}
  · exact { reach := ⟨(Cpi.sameButNotes_given _ _ _).reachRoom, (Cpi.sameButNotes_given _ _ _).reachTether⟩,
            enables := (Cpi.sameButNotes_given _ _ _).enables }

theorem State.settingsSound_worked {u : State} {p : Port} (hs : s.settingsSound) (h : s.Worked p u) : u.settingsSound := by
  obtain ⟨table, tableCopy, threshold, thresholdCopy, profiles, profilesCopy, glide, mode, pending, marks, room, tether, ep, er, et,
    limit, saved, found⟩ := id hs
  have changed (t : State) (ht : t.settingsSound) : t.viewChanged.settingsSound := (State.sameSettings_viewChanged t).keeps ht
  cases h
  case nothing => exact hs
  case aimed => exact changed _ (hs.same {})
  case zoomed zt rate watch _ _ hrate =>
    refine changed _ ?_
    obtain ⟨a1, a2, a3, a4, a5, a6, a7, a8⟩ := hs.same (s.sameSettings_endWatch .superseded)
    exact ⟨a1, a2, a3, a4, a5, a6, by rw [Nat.max_eq_left glide] at hrate; exact hrate, a8⟩
  case fitted => exact changed _ (((hs.same (s.sameSettings_endWatch .superseded)).same {}).same {})
  case frozen => exact changed _ (hs.same {})
  case unfrozen =>
    refine changed _ ?_
    unfold State.unfreeze
    split
    · exact hs
    · exact hs.same {}
  case laidOut => exact changed _ (hs.same {})
  case shownLive =>
    refine changed _ ?_
    unfold State.showLive
    split
    · exact hs
    · exact hs.same {}
  case glideSet r hr =>
    exact changed _ ⟨table, tableCopy, threshold, thresholdCopy, profiles, profilesCopy, hr, mode, pending, marks, room, tether, ep, er, et,
      limit, saved, found⟩
  case thresholdSet v hv =>
    exact ⟨table, tableCopy, hv, thresholdCopy, profiles, profilesCopy, glide, mode, pending, marks, room, tether, ep, er, et, limit, saved,
      found⟩
  case entriesSet l length range =>
    refine ⟨?_, tableCopy, threshold, thresholdCopy, profiles, profilesCopy, glide, mode, pending, marks, room, tether, ep, er, et, limit,
      saved, found⟩
    simp only [Classifier.inRange, Bool.and_eq_true, decide_eq_true_eq] at table
    obtain ⟨⟨⟨h32, hall⟩, low⟩, high⟩ := table
    simp only [State.setEntries, State.withTcl_tcl, Classifier.inRange, length, h32, range hall, low, high, decide_true, Bool.and_self]
  case fallbackSet =>
    exact ⟨table, tableCopy, threshold, thresholdCopy, profiles, profilesCopy, glide, mode, pending, marks, room, tether, ep, er, et, limit,
      saved, found⟩
  case quorumSet q low high =>
    refine ⟨?_, tableCopy, threshold, thresholdCopy, profiles, profilesCopy, glide, mode, pending, marks, room, tether, ep, er, et, limit,
      saved, found⟩
    simp only [Classifier.inRange, Bool.and_eq_true, decide_eq_true_eq] at table
    obtain ⟨⟨⟨h32, hall⟩, -⟩, -⟩ := table
    simp only [State.withTcl_tcl, Classifier.inRange, h32, hall, low, high, decide_true, Bool.and_self]
  case profilesSet l range =>
    exact ⟨table, tableCopy, threshold, thresholdCopy, range profiles, profilesCopy, glide, mode, pending, marks, room, tether, ep, er, et,
      limit, saved, found⟩
  case pendingModeSet m hm =>
    exact ⟨table, tableCopy, threshold, thresholdCopy, profiles, profilesCopy, glide, mode, hm, marks, room, tether, ep, er, et, limit,
      saved, found⟩
  case outputRestarted =>
    refine State.settingsSound.ran ?_ (State.ran_raise _ .outputRestarted)
    exact ⟨table, tableCopy, threshold, thresholdCopy, profiles, profilesCopy, glide, pending, pending, marks, room, tether, ep, er, et,
      limit, saved, found⟩
  case blanked | notesSet | drawn | countersCleared | halfMasksSet => exact hs.same { enables := fun p => by cases p <;> rfl }
  case marksSet m hm =>
    exact ⟨table, tableCopy, threshold, thresholdCopy, profiles, profilesCopy, glide, mode, pending, hm, room, tether, ep, er, et, limit,
      saved, found⟩
  case stored h k _ _ => exact hs.ran (s.ran_acceptStore h k)
  case queued => exact hs.ran (s.ran_enqueue _)
  case withdrawn n _ => exact hs.ran (s.ran_withdrawAt n)
  case retryLimitSet n hn =>
    exact ⟨table, tableCopy, threshold, thresholdCopy, profiles, profilesCopy, glide, mode, pending, marks, room, tether, ep, er, et, hn,
      saved, found⟩
  case completionsRead => exact hs.same (s.alike_changePort p _ rfl).sameSettings
  case noticesRead => exact hs.same (s.alike_changePort p _ rfl).sameSettings
  case enablesSet e range =>
    cases p
    · exact ⟨table, tableCopy, threshold, thresholdCopy, profiles, profilesCopy, glide, mode, pending, marks, room, tether, range, er, et,
        limit, saved, found⟩
    · exact ⟨table, tableCopy, threshold, thresholdCopy, profiles, profilesCopy, glide, mode, pending, marks, room, tether, ep, range, et,
        limit, saved, found⟩
    · exact ⟨table, tableCopy, threshold, thresholdCopy, profiles, profilesCopy, glide, mode, pending, marks, room, tether, ep, er, range,
        limit, saved, found⟩
  case reachSet toRoom i w range =>
    have put {l : List ReachWindow} (hl : reachInRange l = true) : reachInRange (l.set i w) = true := by
      simp only [reachInRange, Bool.and_eq_true, decide_eq_true_eq, List.length_set] at hl ⊢
      exact ⟨hl.1, all_set hl.2 range⟩
    cases toRoom
    · exact ⟨table, tableCopy, threshold, thresholdCopy, profiles, profilesCopy, glide, mode, pending, marks, room, put tether, ep, er, et,
        limit, saved, found⟩
    · exact ⟨table, tableCopy, threshold, thresholdCopy, profiles, profilesCopy, glide, mode, pending, marks, put room, tether, ep, er, et,
        limit, saved, found⟩

/-! ### The recovery and the hand-over -/

/-- The image of a valid block holds contents that the part writes (log 31). -/
theorem validImage_inRange {bytes : List Byte} {i : CatalogueImage} (h : validImage bytes = some i) : i.inRange = true := by
  unfold validImage at h
  dsimp only at h
  split at h
  · obtain ⟨x, -, rfl⟩ := Option.map_eq_some_iff.mp h
    exact x.property
  · cases h

/-- A best image is within the ranges where both its candidates are. -/
theorem betterImage_inRange {best : Option (Nat × CatalogueImage)} {block : Nat} {found : Option CatalogueImage}
    (hb : ∀ b i, best = some (b, i) → i.inRange = true) (hf : ∀ i, found = some i → i.inRange = true) :
    ∀ b i, betterImage best block found = some (b, i) → i.inRange = true := by
  intro b i h
  unfold betterImage at h
  split at h
  · exact hb b i h
  · cases h; exact hf _ rfl
  · split at h <;> cases h
    · exact hf _ rfl
    · exact hb _ _ rfl

/-- The best image that a step of the recovery goes on or ends with. -/
def RecoveryStep.best : RecoveryStep → Option (Nat × CatalogueImage)
  | .readsOn r => r.best
  | .ended best => best

theorem RecoveryRead.leave_best (r : RecoveryRead) (best : Option (Nat × CatalogueImage)) : (r.leave best).best = best := by
  unfold RecoveryRead.leave
  split <;> rfl

theorem RecoveryRead.step_inRange {r : RecoveryRead} (hr : ∀ b i, r.best = some (b, i) → i.inRange = true) (result : FlashResult) :
    ∀ b i, (r.step result).best = some (b, i) → i.inRange = true := by
  unfold RecoveryRead.step
  split
  · rw [RecoveryRead.leave_best]; exact hr
  · split
    · exact hr
    · rw [RecoveryRead.leave_best]; exact betterImage_inRange hr fun i h => validImage_inRange h

theorem factorySettings_inRange : Config.factorySettings.inRange = true := by decide

theorem Lsc.adopt_saved (l : Lsc) {best : Option (Nat × CatalogueImage)} (h : ∀ b i, best = some (b, i) → i.inRange = true) :
    (l.adopt best).saved.inRange = true := by
  unfold Lsc.adopt
  split
  · next b i =>
    have := h b i rfl
    simp only [CatalogueImage.inRange, Bool.and_eq_true] at this
    exact this.2
  · exact factorySettings_inRange

/-- The hand-over gives the blocks the saved settings. -/
theorem State.settingsSound_handOver (hs : s.settingsSound) : s.handOver.settingsSound := by
  obtain ⟨-, tableCopy, -, thresholdCopy, -, profilesCopy, -, -, -, -, -, -, -, -, -, limit, saved, found⟩ := hs
  have v := saved
  simp only [SavedSettings.inRange, Bool.and_eq_true, decide_eq_true_eq] at v
  obtain ⟨⟨⟨⟨⟨⟨⟨⟨⟨⟨table, threshold⟩, profiles⟩, glide⟩, mode⟩, marks⟩, room⟩, tether⟩, ep⟩, er⟩, et⟩ := v
  exact ⟨table, tableCopy, threshold, thresholdCopy, profiles, profilesCopy, glide, mode, mode, marks, room, tether, ep, er, et, limit,
    saved, found⟩

theorem State.sameSettings_ready (s : State) : s.SameSettings s.ready where
  enables p := by cases p <;> simp [State.ready, State.quiet, State.raise, Cpi.port, Cpi.raise]
  reading _ h := nomatch h

theorem State.settingsSound_dropUnfinished (hs : s.settingsSound) : s.dropUnfinished.settingsSound := by
  have dropped := hs.ran ((State.ran_raise _ .pageDroppedAtStart).after (s.ran_withLessons (dropWriting s.lsc.lessons)))
  unfold State.dropUnfinished
  split
  · dsimp only
    split
    · next h => exact dropped.ran (State.ran_attempt _ h)
    · exact dropped.ran (State.ran_readOnly _)
  · exact hs.same s.sameSettings_ready

theorem State.settingsSound_recovered (hs : s.settingsSound) {best : Option (Nat × CatalogueImage)}
    (hb : ∀ b i, best = some (b, i) → i.inRange = true) : (s.recovered best).settingsSound := by
  have adopted : (s.quiet.withLsc (s.quiet.lsc.adopt best)).settingsSound := by
    obtain ⟨a1, a2, a3, a4, a5, a6, a7, a8, a9, a10, a11, a12, a13, a14, a15, limit, -, -⟩ := hs
    refine ⟨a1, a2, a3, a4, a5, a6, a7, a8, a9, a10, a11, a12, a13, a14, a15, ?_, Lsc.adopt_saved _ hb, ?_⟩
    · unfold Lsc.adopt; split <;> exact limit
    · intro r b i h
      unfold Lsc.adopt at h
      split at h <;> exact nomatch h
  have handed := State.settingsSound_handOver adopted
  unfold State.recovered
  refine State.settingsSound.fed (State.settingsSound_dropUnfinished ?_) (State.fed_servePages _)
  split
  · exact handed.ran (State.ran_raise _ _)
  · exact handed

theorem State.settingsSound_recovering (hs : s.settingsSound) {r : RecoveryRead} (reads : s.lsc.activity = .recovering r)
    (result : FlashResult) : (s.recovering r result).settingsSound := by
  obtain ⟨a1, a2, a3, a4, a5, a6, a7, a8, a9, a10, a11, a12, a13, a14, a15, limit, saved, found⟩ := id hs
  have best := RecoveryRead.step_inRange (found r · · reads) result
  unfold State.recovering
  split
  · next next h =>
    rw [h] at best
    exact ⟨a1, a2, a3, a4, a5, a6, a7, a8, a9, a10, a11, a12, a13, a14, a15, limit, saved,
      fun r' b i e hb => by cases e; exact best b i hb⟩
  · next h =>
    rw [h] at best
    exact State.settingsSound_recovered hs best

theorem State.settingsSound_writing (hs : s.settingsSound) (w : CatalogueWrite) (result : FlashResult) :
    (s.writing w result).settingsSound := by
  have failed := hs.ran ((State.ran_writeFailed s.readOnly w.owner).after s.ran_readOnly)
  unfold State.writing
  split
  · exact hs.same { reading := fun r h => nomatch h }
  · have passed := hs.ran (s.ran_written w.block)
    by_cases owner : w.owner = .recovery
    · rw [owner]; exact passed.same (State.sameSettings_ready _)
    · exact passed.ran (State.ran_writePassed _ owner)
  · split
    · split
      · next h => exact hs.ran (State.ran_attempt _ h)
      · exact failed
    · exact failed

theorem State.settingsSound_loaded (hs : s.settingsSound) (j : Job) (r : PageRecord) (n : Nat) (c : PageCheck) (result : FlashResult) :
    (s.loaded j r n c result).1.settingsSound := by
  have drawn := hs.ran (s.ran_withSpm (s.spm.draw n fun p => p.addBytes c.page result))
  unfold State.loaded
  dsimp only
  split
  · exact drawn.ran (State.ran_issue _ _ (fun _ => by simp))
  split
  · unfold State.loadSound
    split
    · unfold State.handExport
      dsimp only
      split
      · exact drawn.same { reading := fun r h => nomatch h }
      · exact drawn.same { reading := fun r h => nomatch h }
    · refine State.settingsSound.same ?_ (State.sameSettings_viewChanged _)
      exact drawn.same { reading := fun r h => nomatch h }
  · exact drawn.ran (State.ran_damaged _ _ _ _)

theorem State.settingsSound_flashDone (hs : s.settingsSound) (result : FlashResult) : (s.flashDone result).settingsSound := by
  unfold State.flashDone
  split
  · exact hs
  · next reads => exact State.settingsSound_recovering hs reads result
  · exact State.settingsSound_writing hs _ result
  · split
    · exact hs
    split
    · exact hs
    · next j _ _ _ r _ =>
      have placed : (s.onPlace result j r).1.settingsSound := by
        unfold State.onPlace
        split
        · exact hs.ran (s.ran_erased _ _ _ _ _)
        · exact hs.ran (s.ran_programmed _ _ _ _ _ _ _)
        · exact hs.ran (s.ran_checked _ _ _ _)
        · exact State.settingsSound_loaded hs _ _ _ _ _
        · exact hs
      unfold State.settleHead
      split
      · exact placed
      · exact placed.ran (State.ran_endHead _ _)

/-! ### Start-up, RESTART and the remaining arrivals -/

theorem State.settingsSound_reset : State.reset.settingsSound := by
  refine ⟨by decide, fun c h => (nomatch h), by decide, by decide, by decide, fun l h => (nomatch h), by decide, by decide,
    by decide, by decide, by decide, by decide, by decide, by decide, by decide, by decide, by decide, ?_⟩
  intro r b i h hb
  cases h
  cases hb

theorem State.settingsSound_startedUp (s : State) : s.startedUp.settingsSound :=
  State.settingsSound_reset.same { reading := fun _ h => h }

theorem State.settingsSound_restart (hs : s.settingsSound) : s.restart.settingsSound := by
  obtain ⟨table, -, threshold, thresholdCopy, profiles, -, glide, -, pending, marks, room, tether, ep, er, et, limit, saved, -⟩ := hs
  have kept : s.lsc.abandon.retryLimit = s.lsc.retryLimit ∧ s.lsc.abandon.saved = s.lsc.saved := by
    unfold Lsc.abandon
    split
    · exact ⟨rfl, rfl⟩
    split
    · split <;> exact ⟨rfl, rfl⟩
    · exact ⟨rfl, rfl⟩
  have blocks : s.restartBlocks.settingsSound :=
    ⟨table, nofun, threshold, thresholdCopy, profiles, nofun, glide, pending, pending, marks, room, tether, ep, er, et,
      kept.1.symm ▸ limit, kept.2.symm ▸ saved, fun _ _ _ h => nomatch h⟩
  have begun : s.restartBlocks.rework.beginAgreement.settingsSound := (blocks.same {}).fed (State.fed_beginAgreement _)
  unfold State.restart State.writeAfterRestart
  split
  · split
    · next h => exact begun.ran (State.ran_attempt _ h)
    · exact begun.ran (State.ran_readOnly _)
  · exact begun

theorem State.settingsSound_askSlot (hs : s.settingsSound) : s.askSlot.settingsSound := by
  unfold State.askSlot
  split
  · exact hs.same {}
  · exact State.settingsSound.same ((hs.same (t := s.withTsu { s.tsu with building := none }) {}).ran (State.ran_count _ .framesSkipped)) {}

theorem State.settingsSound_breakFrame (hs : s.settingsSound) : s.breakFrame.settingsSound := by
  have let_go : (s.withSpm (s.spm.removeKind .intake)).settingsSound := hs.ran (s.ran_withSpm _)
  have closed : ((s.withSpm (s.spm.removeKind .intake)).withTsu { s.tsu with building := none }).settingsSound := let_go.same {}
  exact (closed.ran (State.ran_count _ _)).ran (State.ran_raise _ _)

theorem State.settingsSound_frameStart (hs : s.settingsSound) : s.endFrameInProgress.openFrame.askSlot.settingsSound := by
  have ended : s.endFrameInProgress.settingsSound := by
    unfold State.endFrameInProgress
    split
    case h_2 => exact State.settingsSound_breakFrame hs
    case h_5 => exact hs.ran (s.ran_raise _)
    all_goals exact hs
  refine State.settingsSound_askSlot ?_
  obtain ⟨table, -, threshold, -, profiles, -, glide, rest⟩ := ended
  exact ⟨table, fun c e => by cases e; exact table, threshold, threshold, profiles, fun l e => by cases e; exact profiles, glide, rest⟩

theorem State.settingsSound_frameStarts (hs : s.settingsSound) : s.frameStarts.settingsSound := by
  unfold State.frameStarts
  split
  · exact hs.same {}
  split
  · exact hs
  · have glided : s.glide.settingsSound := by
      unfold State.glide
      split
      · exact hs
      · exact hs.same {}
    have tested : s.glide.testWatch.settingsSound := by
      unfold State.testWatch
      split
      · exact glided.same (State.sameSettings_endWatch _ _)
      · exact glided
    exact tested.same {}

theorem State.sameSettings_finish (s : State) (y : Nat) (above mid below : List PixelClock) :
    s.SameSettings (s.finish y above mid below) := { }

theorem State.settingsSound_enhanceAccepted (hs : s.settingsSound) (k : Nat) (line : List PixelClock) :
    (s.enhanceAccepted k line).settingsSound := by
  unfold State.enhanceAccepted
  dsimp only
  split
  · exact hs.same {}
  · exact hs.same {}
  · exact hs.same {}

theorem State.settingsSound_lineEnd (hs : s.settingsSound) (line : List PixelClock) : (s.lineEnd line).settingsSound := by
  unfold State.lineEnd
  split
  · split
    · have gathered : (s.withTsu (s.tsu.gather s.siu.lines line)).settingsSound := hs.same {}
      exact (State.settingsSound_enhanceAccepted gathered _ _).same {}
    · exact (State.settingsSound_breakFrame hs).same {}
  all_goals exact hs

theorem State.settingsSound_goodFrame (hs : s.settingsSound) : s.goodFrame.settingsSound := by
  have last : s.enhanceLast.settingsSound := by
    unfold State.enhanceLast
    split
    · exact hs.same (State.sameSettings_finish _ _ _ _ _)
    · exact hs
  have moved : s.enhanceLast.moveLatest.settingsSound := by
    unfold State.moveLatest
    split
    · exact last
    · exact last.same {}
  have settled : ((s.enhanceLast.moveLatest).count .framesIn).settle.settingsSound := by
    unfold State.settle
    split
    · exact moved.ran (State.ran_count _ _)
    · exact (moved.ran (State.ran_count _ _)).same {}
  unfold State.goodFrame State.boxNotice
  split
  · exact settled.same {}
  · exact State.settingsSound.same (settled.ran (State.ran_raise _ .pageBoxChanged)) {}

theorem State.settingsSound_frameEnd (hs : s.settingsSound) : s.frameEnd.settingsSound := by
  unfold State.frameEnd
  split
  · split
    · exact State.settingsSound_goodFrame hs
    · exact (State.settingsSound_breakFrame hs).same {}
  case h_2 | h_3 => exact hs.same {}
  all_goals exact hs

theorem State.settingsSound_signalLost (hs : s.settingsSound) : s.signalLost.settingsSound := by
  have broken : (if s.siu.intake = .receiving then s.breakFrame else s).settingsSound := by
    split
    · exact State.settingsSound_breakFrame hs
    · exact hs
  exact State.settingsSound.ran (broken.same {}) (State.ran_raise _ .noSignal)

theorem State.Effect.keeps_settingsSound {t : State} (h : s.Effect t) (hs : s.settingsSound) : t.settingsSound := by
  cases h
  case nothing => exact hs
  case command p r hw _ => exact (State.settingsSound_worked hs hw).same (State.alike_owe _ p r).sameSettings
  case feedRestarted p r _ _ =>
    exact ((hs.fed s.fed_restartFeed).same (State.alike_owe _ p r).sameSettings).fed (State.fed_serveFeed _)
  case restarted p r _ _ =>
    exact ((State.settingsSound_restart hs).same (State.alike_owe _ p r).sameSettings).fed (State.fed_serveFeed _)
  case refusedBusy p r _ => exact hs.same (s.alike_refuseBusy p r).sameSettings
  case frameStart => exact State.settingsSound_frameStart hs
  case lineEnd line => exact State.settingsSound_lineEnd hs line
  case frameEnd => exact State.settingsSound_frameEnd hs
  case signalLost => exact State.settingsSound_signalLost hs
  case notice => exact hs.ran s.ran_takeNotice
  case outputFrame => exact State.settingsSound_frameStarts hs
  case offer o _ => exact (hs.fed (s.fed_baseOffer o)).fed (State.fed_servePages _)
  case note p _ => exact (hs.fed (s.fed_notePage p)).fed (State.fed_servePages _)
  case hold d => exact hs.fed (s.fed_takeHold d)
  case pageExpired => exact (hs.fed s.fed_pageExpired).fed (State.fed_servePages _)
  case intervalExpired => exact hs.fed s.fed_intervalExpired
  case allowanceExpired => exact hs.fed s.fed_cutFrame
  case holdExpired => exact hs.fed s.fed_releaseHold
  case feedFrameStart => exact hs.fed s.fed_startFeedFrame
  case lineProduced => exact hs.fed s.fed_produceLine
  case lineSent => exact hs.fed s.fed_lineGoes
  case flash result _ => exact State.settingsSound_flashDone hs result
  case panelRead n =>
    unfold State.panelRead
    dsimp only
    split
    · exact (hs.same {}).same ((s.emit _).alike_changePort .panel PortState.replyLeaves rfl).sameSettings
    · exact hs.same {}
  case roomSent =>
    unfold State.roomSent
    split
    · exact hs
    · exact hs.same { enables := fun p => by cases p <;> first | rfl | (next k _ => cases k <;> rfl) }
  case tetherSent =>
    unfold State.tetherSent
    split
    · exact hs
    · refine State.settingsSound.fed (hs.same ?_) (State.fed_serveFeed _)
      exact { enables := fun p => by cases p <;> first | rfl | (next k _ => cases k <;> rfl) }
  all_goals exact hs.same {}

end SettingsSound

/-- Settles O4: a command's work writes settings within their ranges, the hand-over gives the blocks what an image or the factory holds,
and every other arrival leaves the settings alone. -/
theorem settingsStaySound : Obligations.SettingsStaySound :=
  keptByStep_of_effects (fun _ _ h hs => h.sameSettings.keeps hs) (fun s _ => s.settingsSound_startedUp)
    (fun s _ => State.SameSettings.keeps { reading := fun _ h => nomatch h } s.settingsSound_startedUp)
    fun _ _ h hs => h.keeps_settingsSound hs

end Sys2Proof.Machine

namespace Sys2Proof.Machine

/-! ### The view stays sound (05 R66, R72, R78; 02 R25) -/

/-- The window is the one of an output mode, and the zooms and the target centre are within their ranges. -/
def Vwc.aimed (v : Vwc) (mode : Nat) : Prop :=
  v.window = windowOf mode v.layout v.zc v.tx v.ty ∧
    256 ≤ v.zt ∧ v.zt ≤ 4096 ∧ 256 ≤ v.zc ∧ v.zc ≤ 4096 ∧ v.tx ≤ 3839 ∧ v.ty ≤ 2879

/-- The page box lies within the frame's tiles, and an open building set has all of them. -/
def State.boxed (s : State) : Prop :=
  (∀ b, s.tcl.box = some b → b.inRange) ∧ ∀ set, s.tsu.building = some set → set.length = 2700

theorem State.viewSound_iff (s : State) : s.viewSound ↔ s.vwc.aimed s.dou.mode ∧ s.boxed := by
  simp only [State.viewSound, Vwc.aimed, State.boxed, and_assoc]

/-- The figures the window is worked out from, the window and the target zoom are the same. -/
structure State.SameAim (s t : State) : Prop where
  window : t.vwc.window = s.vwc.window := by first | rfl | simp
  layout : t.vwc.layout = s.vwc.layout := by first | rfl | simp
  zt : t.vwc.zt = s.vwc.zt := by first | rfl | simp
  zc : t.vwc.zc = s.vwc.zc := by first | rfl | simp
  tx : t.vwc.tx = s.vwc.tx := by first | rfl | simp
  ty : t.vwc.ty = s.vwc.ty := by first | rfl | simp
  mode : t.dou.mode = s.dou.mode := by first | rfl | simp

theorem State.SameAim.keeps {s t : State} (h : s.SameAim t) (hs : s.vwc.aimed s.dou.mode) : t.vwc.aimed t.dou.mode := by
  simpa only [Vwc.aimed, h.window, h.layout, h.zt, h.zc, h.tx, h.ty, h.mode] using hs

theorem State.SameAim.trans {s t u : State} (h : s.SameAim t) (g : t.SameAim u) : s.SameAim u where
  window := g.window.trans h.window
  layout := g.layout.trans h.layout
  zt := g.zt.trans h.zt
  zc := g.zc.trans h.zc
  tx := g.tx.trans h.tx
  ty := g.ty.trans h.ty
  mode := g.mode.trans h.mode

theorem State.SameAim.after {s t u : State} (g : t.SameAim u) (h : s.SameAim t) : s.SameAim u := h.trans g

theorem State.sameAim_of_eq {s t : State} (vwc : t.vwc = s.vwc := by simp) (dou : t.dou = s.dou := by simp) : s.SameAim t :=
  ⟨by rw [vwc], by rw [vwc], by rw [vwc], by rw [vwc], by rw [vwc], by rw [vwc], by rw [dou]⟩

theorem State.Fed.sameAim {s t : State} (h : s.Fed t) : s.SameAim t := State.sameAim_of_eq h.vwc h.dou

theorem State.Ran.sameAim {s t : State} (h : s.Ran t) : s.SameAim t := h.fed.sameAim

/-- A window worked out anew is the one of the output mode in force. -/
theorem State.aimed_rework {s : State} (zt : 256 ≤ s.vwc.zt ∧ s.vwc.zt ≤ 4096) (zc : 256 ≤ s.vwc.zc ∧ s.vwc.zc ≤ 4096)
    (target : s.vwc.tx ≤ 3839 ∧ s.vwc.ty ≤ 2879) : s.rework.vwc.aimed s.rework.dou.mode :=
  ⟨rfl, zt.1, zt.2, zc.1, zc.2, target.1, target.2⟩

/-- What FIT_PAGE aims at is within the ranges of the targets. -/
theorem fitTarget_inRange (w : Window) {box : Option TileBox} (h : ∀ b, box = some b → b.inRange) :
    (256 ≤ (fitTarget w box).1 ∧ (fitTarget w box).1 ≤ 4096) ∧ (fitTarget w box).2.1 ≤ 3839 ∧ (fitTarget w box).2.2.1 ≤ 2879 := by
  unfold fitTarget
  split
  · decide
  · next b =>
    obtain ⟨hc, hc1, hr, hr1⟩ := h b rfl
    simp only [fitZoom, limit, middle]
    omega

section ViewSound
variable {s : State}

theorem State.sameAim_viewChanged (s : State) : s.SameAim s.viewChanged := {}

theorem State.sameAim_endWatch (s : State) (e : Ending) : s.SameAim (s.endWatch e) := by
  unfold State.endWatch
  split
  · exact {}
  · exact {}

theorem State.sameAim_unfreeze (s : State) : s.SameAim s.unfreeze := by
  unfold State.unfreeze
  split
  · exact {}
  · exact {}

theorem State.sameAim_showLive (s : State) : s.SameAim s.showLive := by
  unfold State.showLive
  split
  · exact {}
  · exact {}

theorem State.Worked.keeps_aimed {u : State} {p : Port} (h : s.Worked p u) (hs : s.vwc.aimed s.dou.mode)
    (hb : ∀ b, s.tcl.box = some b → b.inRange) : u.vwc.aimed u.dou.mode := by
  obtain ⟨window, zt, zt', zc, zc', tx, ty⟩ := id hs
  have changed (t : State) (ht : t.vwc.aimed t.dou.mode) : t.viewChanged.vwc.aimed t.viewChanged.dou.mode :=
    t.sameAim_viewChanged.keeps ht
  cases h
  case aimed tx ty hx hy => exact changed _ (State.aimed_rework ⟨zt, zt'⟩ ⟨zc, zc'⟩ ⟨hx, hy⟩)
  case zoomed z _ _ low high _ =>
    obtain ⟨window, -, -, rest⟩ := (s.sameAim_endWatch .superseded).keeps hs
    exact changed _ ⟨window, low, high, rest⟩
  case fitted =>
    obtain ⟨zoom, centre⟩ := fitTarget_inRange s.vwc.window hb
    obtain ⟨-, -, -, zc, zc', -, -⟩ := (s.sameAim_endWatch .superseded).keeps hs
    exact changed _ (State.aimed_rework zoom ⟨zc, zc'⟩ centre)
  case frozen => exact changed _ hs
  case unfrozen => exact changed _ (s.sameAim_unfreeze.keeps hs)
  case laidOut => exact changed _ (State.aimed_rework ⟨zt, zt'⟩ ⟨zc, zc'⟩ ⟨tx, ty⟩)
  case shownLive => exact changed _ (s.sameAim_showLive.keeps hs)
  case glideSet => exact changed _ hs
  case outputRestarted => exact State.aimed_rework (s := s.withDou _) ⟨zt, zt'⟩ ⟨zc, zc'⟩ ⟨tx, ty⟩
  case stored h k _ _ => exact (s.ran_acceptStore h k).sameAim.keeps hs
  case queued => exact (s.ran_enqueue _).sameAim.keeps hs
  case withdrawn n _ => exact (s.ran_withdrawAt n).sameAim.keeps hs
  case reachSet room _ _ _ => cases room <;> exact hs
  all_goals exact State.SameAim.keeps {} hs

theorem State.aimed_glide (hs : s.vwc.aimed s.dou.mode) : s.glide.vwc.aimed s.glide.dou.mode := by
  unfold State.glide
  split
  · exact hs
  · obtain ⟨-, zt, zt', zc, zc', tx, ty⟩ := hs
    have step := glideStep_between s.vwc.zt s.vwc.zc s.vwc.glide
    exact State.aimed_rework ⟨zt, zt'⟩ (s := s.withVwc _) (by dsimp only [State.withVwc_vwc]; omega) ⟨tx, ty⟩

theorem State.aimed_frameStarts (hs : s.vwc.aimed s.dou.mode) : s.frameStarts.vwc.aimed s.frameStarts.dou.mode := by
  have tested : s.glide.SameAim s.glide.testWatch := by
    unfold State.testWatch
    split
    · exact State.sameAim_endWatch _ _
    · exact {}
  unfold State.frameStarts
  split
  · exact hs
  split
  · exact hs
  · exact State.SameAim.keeps (s := s.glide.testWatch) {} (tested.keeps (State.aimed_glide hs))

/-- The hand-over works the window out anew for the output mode it brings. -/
theorem State.aimed_handOver (hs : s.vwc.aimed s.dou.mode) : s.handOver.vwc.aimed s.handOver.dou.mode := by
  obtain ⟨-, zt, zt', zc, zc', tx, ty⟩ := hs
  exact (State.fed_beginAgreement _).sameAim.keeps
    (State.aimed_rework (s := State.withCpi (State.withFlc (State.withDou (State.withVwc _ _) _) _) _) ⟨zt, zt'⟩ ⟨zc, zc'⟩ ⟨tx, ty⟩)

theorem State.aimed_recovered (hs : s.vwc.aimed s.dou.mode) (best : Option (Nat × CatalogueImage)) :
    (s.recovered best).vwc.aimed (s.recovered best).dou.mode := by
  have handed := State.aimed_handOver (s := s.quiet.withLsc (s.quiet.lsc.adopt best)) hs
  have dropped (t : State) : t.SameAim t.dropUnfinished := by
    unfold State.dropUnfinished
    split
    · have d : t.SameAim ((t.withLsc (t.lsc.withLessons (dropWriting t.lsc.lessons))).raise .pageDroppedAtStart) := {}
      dsimp only
      split
      · next h => exact (State.ran_attempt _ h).sameAim.after d
      · exact (State.ran_readOnly _).sameAim.after d
    · exact {}
  unfold State.recovered
  refine (State.fed_servePages _).sameAim.keeps ((dropped _).keeps ?_)
  split
  · exact (State.ran_raise _ _).sameAim.keeps handed
  · exact handed

theorem State.sameAim_writing (s : State) (w : CatalogueWrite) (result : FlashResult) : s.SameAim (s.writing w result) := by
  unfold State.writing
  split
  · exact {}
  · have passed := (s.ran_written w.block).sameAim
    by_cases owner : w.owner = .recovery
    · rw [owner]; exact State.SameAim.after (t := s.written w.block) {} passed
    · exact (State.ran_writePassed _ owner).sameAim.after passed
  · have failed : s.Ran (s.readOnly.writeFailed w.owner) := (State.ran_writeFailed _ _).after s.ran_readOnly
    split
    · split
      · next h => exact (State.ran_attempt _ h).sameAim
      · exact failed.sameAim
    · exact failed.sameAim

theorem State.sameAim_loaded (s : State) (j : Job) (r : PageRecord) (n : Nat) (c : PageCheck) (result : FlashResult) :
    s.SameAim (s.loaded j r n c result).1 := by
  have drawn : s.SameAim (s.withSpm (s.spm.draw n fun p => p.addBytes c.page result)) := {}
  unfold State.loaded
  dsimp only
  split
  · exact (State.ran_issue _ _ (fun _ => by simp)).sameAim.after drawn
  split
  · unfold State.loadSound
    split
    · unfold State.handExport
      dsimp only
      split
      · exact {}
      · exact {}
    · exact (State.sameAim_viewChanged _).after {}
  · exact (State.ran_damaged _ _ _ _).sameAim.after drawn

theorem State.aimed_flashDone (hs : s.vwc.aimed s.dou.mode) (result : FlashResult) :
    (s.flashDone result).vwc.aimed (s.flashDone result).dou.mode := by
  unfold State.flashDone
  split
  · exact hs
  · unfold State.recovering
    split
    · exact hs
    · exact State.aimed_recovered hs _
  · exact (s.sameAim_writing _ _).keeps hs
  · split
    · exact hs
    split
    · exact hs
    · next j _ _ _ r _ =>
      have placed : s.SameAim (s.onPlace result j r).1 := by
        unfold State.onPlace
        split
        · exact (s.ran_erased _ _ _ _ _).sameAim
        · exact (s.ran_programmed _ _ _ _ _ _ _).sameAim
        · exact (s.ran_checked _ _ _ _).sameAim
        · exact s.sameAim_loaded _ _ _ _ _
        · exact {}
      unfold State.settleHead
      split
      · exact placed.keeps hs
      · exact ((State.ran_endHead _ _).sameAim.after placed).keeps hs

theorem State.aimed_restart (s : State) : s.restart.vwc.aimed s.restart.dou.mode := by
  have begun : s.restartBlocks.rework.beginAgreement.vwc.aimed s.restartBlocks.rework.beginAgreement.dou.mode :=
    (State.fed_beginAgreement _).sameAim.keeps
      (State.aimed_rework (s := s.restartBlocks) (by decide : 256 ≤ resetVwc.zt ∧ resetVwc.zt ≤ 4096)
        (by decide : 256 ≤ resetVwc.zc ∧ resetVwc.zc ≤ 4096) (by decide : resetVwc.tx ≤ 3839 ∧ resetVwc.ty ≤ 2879))
  unfold State.restart State.writeAfterRestart
  split
  · split
    · next h => exact (State.ran_attempt _ h).sameAim.keeps begun
    · exact (State.ran_readOnly _).sameAim.keeps begun
  · exact begun

/-- The intake's arrivals do not touch the view. -/
theorem State.sameAim_lineEnd (s : State) (line : List PixelClock) : s.SameAim (s.lineEnd line) := by
  unfold State.lineEnd State.acceptLine State.enhanceAccepted
  split
  · split
    · dsimp only
      split
      · exact {}
      · exact {}
      · exact {}
    · exact {}
  all_goals exact {}

theorem State.sameAim_goodFrame (s : State) : s.SameAim s.goodFrame := by
  have last : s.enhanceLast.vwc = s.vwc ∧ s.enhanceLast.dou = s.dou := by
    unfold State.enhanceLast
    split <;> simp
  exact State.sameAim_of_eq (by simp [State.goodFrame, State.setIntake, last]) (by simp [State.goodFrame, State.setIntake, last])

theorem State.sameAim_frameEnd (s : State) : s.SameAim s.frameEnd := by
  unfold State.frameEnd
  split
  · split
    · exact s.sameAim_goodFrame
    · exact {}
  all_goals exact {}

theorem State.sameAim_signalLost (s : State) : s.SameAim s.signalLost := by
  unfold State.signalLost
  dsimp only
  split
  · exact {}
  · exact {}

theorem State.Effect.keeps_aimed {t : State} (h : s.Effect t) (hs : s.vwc.aimed s.dou.mode)
    (hb : ∀ b, s.tcl.box = some b → b.inRange) : t.vwc.aimed t.dou.mode := by
  cases h
  case command p r hw _ => exact State.SameAim.keeps {} (hw.keeps_aimed hs hb)
  case feedRestarted p r _ _ =>
    exact ((State.fed_serveFeed _).sameAim.after (State.SameAim.after {} s.fed_restartFeed.sameAim)).keeps hs
  case restarted p r _ _ =>
    exact ((State.fed_serveFeed _).sameAim.after {}).keeps s.aimed_restart
  case frameStart => exact State.SameAim.keeps (State.sameAim_of_eq) hs
  case lineEnd line => exact (s.sameAim_lineEnd line).keeps hs
  case frameEnd => exact s.sameAim_frameEnd.keeps hs
  case signalLost => exact s.sameAim_signalLost.keeps hs
  case notice => exact s.ran_takeNotice.sameAim.keeps hs
  case outputFrame => exact State.aimed_frameStarts hs
  case offer o _ => exact ((State.fed_servePages _).sameAim.after (s.fed_baseOffer o).sameAim).keeps hs
  case note p _ => exact ((State.fed_servePages _).sameAim.after (s.fed_notePage p).sameAim).keeps hs
  case hold d => exact (s.fed_takeHold d).sameAim.keeps hs
  case pageExpired => exact ((State.fed_servePages _).sameAim.after s.fed_pageExpired.sameAim).keeps hs
  case intervalExpired => exact s.fed_intervalExpired.sameAim.keeps hs
  case allowanceExpired => exact s.fed_cutFrame.sameAim.keeps hs
  case holdExpired => exact s.fed_releaseHold.sameAim.keeps hs
  case feedFrameStart => exact s.fed_startFeedFrame.sameAim.keeps hs
  case lineProduced => exact s.fed_produceLine.sameAim.keeps hs
  case lineSent => exact s.fed_lineGoes.sameAim.keeps hs
  case flash result _ => exact State.aimed_flashDone hs result
  case panelRead n =>
    unfold State.panelRead
    dsimp only
    split
    · exact hs
    · exact hs
  case roomSent =>
    unfold State.roomSent
    split
    · exact hs
    · exact hs
  case tetherSent =>
    unfold State.tetherSent
    split
    · exact hs
    · exact ((State.fed_serveFeed _).sameAim.after {}).keeps hs
  all_goals exact hs

/-! ### The page box and the building set stay whole -/

theorem State.Leaves.keeps_boxed {t : State} (h : s.Leaves t) (hs : s.boxed) : t.boxed := by
  simpa only [State.boxed, h.box, h.building] using hs

/-- A building set that has gathered a line, or has just been opened, is whole; so is the box around tiles of a whole set. -/
theorem State.boxed_of_closed {t : State} (box : ∀ b, t.tcl.box = some b → b.inRange) (building : t.tsu.building = none) : t.boxed :=
  ⟨box, fun _ h => by rw [building] at h; exact nomatch h⟩

/-- The least and the greatest of a list that begins with a number, against bounds that all of them keep. -/
theorem foldl_min_max {l : List Nat} {i lo hi : Nat} (hi' : lo ≤ i ∧ i ≤ hi) (hl : ∀ x ∈ l, lo ≤ x ∧ x ≤ hi) :
    lo ≤ l.foldl min i ∧ l.foldl min i ≤ i ∧ i ≤ l.foldl max i ∧ l.foldl max i ≤ hi := by
  induction l using List.reverseRecOn with
  | nil => simp [hi']
  | append_singleton l x ih =>
    have := ih fun y hy => hl y (by simp [hy])
    have := hl x (by simp)
    simp only [List.foldl_append, List.foldl_cons, List.foldl_nil]
    omega

theorem boxAround_inRange {l : List Nat} (hl : ∀ i ∈ l, i < 2700) {b : TileBox} (h : boxAround l = some b) : b.inRange := by
  cases l with
  | nil => exact nomatch h
  | cons i rest =>
    cases h
    have hi := hl i (by simp)
    have cols := foldl_min_max (l := rest.map (· % 60)) (i := i % 60) (lo := 0) (hi := 59) (by omega)
      (by simp only [List.mem_map]; rintro _ ⟨x, -, rfl⟩; omega)
    have rows := foldl_min_max (l := rest.map (· / 60)) (i := i / 60) (lo := 0) (hi := 44) (by omega)
      (by
        simp only [List.mem_map]
        rintro _ ⟨x, hx, rfl⟩
        have := hl x (by simp [hx])
        omega)
    simp only [TileBox.inRange]
    omega

theorem formBox_inRange {tiles : List TileRecord} (whole : tiles.length = 2700) {quorum : Nat} {b : TileBox}
    (h : formBox tiles quorum = some b) : b.inRange := by
  unfold formBox at h
  split at h
  · exact nomatch h
  · refine boxAround_inRange (fun i hi => ?_) h
    have := (List.mem_filter.mp hi).1
    rwa [List.mem_range, whole] at this

theorem gatherLine_length (threshold y : Nat) (line : List Nat) (set : List TileAcc) :
    (gatherLine threshold y line set).length = set.length := by simp [gatherLine]

theorem State.boxed_breakFrame (hs : s.boxed) : s.breakFrame.boxed :=
  State.boxed_of_closed (by simpa [State.breakFrame] using hs.1) (by simp)

theorem State.boxed_frameStart (hs : s.boxed) : s.endFrameInProgress.openFrame.askSlot.boxed := by
  have box : s.endFrameInProgress.openFrame.askSlot.tcl.box = s.tcl.box := by simp [State.openFrame]
  refine ⟨by rw [box]; exact hs.1, fun set h => ?_⟩
  unfold State.askSlot at h
  split at h
  · cases h; exact List.length_replicate
  · exact nomatch h

theorem State.boxed_lineEnd (hs : s.boxed) (line : List PixelClock) : (s.lineEnd line).boxed := by
  unfold State.lineEnd
  split
  · split
    · obtain ⟨-, tsu, -⟩ := (s.withTsu (s.tsu.gather s.siu.lines line)).enhanceAccepted_keeps s.siu.lines line
      have tcl : ((s.withTsu (s.tsu.gather s.siu.lines line)).enhanceAccepted s.siu.lines line).tcl = s.tcl := by
        unfold State.enhanceAccepted
        dsimp only
        split <;> simp
      unfold State.acceptLine
      refine ⟨by rw [State.withSiu_tcl, tcl]; exact hs.1, fun set h => ?_⟩
      rw [State.withSiu_tsu, tsu] at h
      simp only [State.withTsu_tsu, Tsu.gather, Option.map_eq_some_iff] at h
      obtain ⟨set, h, rfl⟩ := h
      rw [gatherLine_length]; exact hs.2 set h
    · exact State.boxed_breakFrame hs
  all_goals exact hs

theorem State.boxed_settle (hs : s.boxed) : s.settle.boxed := by
  unfold State.settle
  split
  · exact hs
  · next set h =>
    refine State.boxed_of_closed (fun b hb => formBox_inRange ?_ hb) rfl
    rw [classified, List.length_mapIdx]; exact hs.2 set h

theorem State.boxed_goodFrame (hs : s.boxed) : s.goodFrame.boxed := by
  have last : s.boxed → ((s.enhanceLast.moveLatest).count .framesIn).boxed := by
    obtain ⟨-, tsu, -⟩ := s.enhanceLast_keeps
    have tcl : s.enhanceLast.tcl = s.tcl := by unfold State.enhanceLast; split <;> simp
    simp [State.boxed, tsu, tcl]
  have settled := State.boxed_settle (last hs)
  unfold State.goodFrame State.boxNotice
  split
  · exact settled
  · exact settled

theorem State.boxed_frameEnd (hs : s.boxed) : s.frameEnd.boxed := by
  unfold State.frameEnd
  split
  · split
    · exact State.boxed_goodFrame hs
    · exact State.boxed_breakFrame hs
  all_goals exact hs

theorem State.boxed_signalLost (hs : s.boxed) : s.signalLost.boxed := by
  have broken := State.boxed_breakFrame hs
  unfold State.signalLost
  split
  · exact broken
  · exact hs

theorem State.Effect.keeps_boxed {t : State} (h : s.Effect t) (hs : s.boxed) : t.boxed := by
  rcases h.intake_cases with h | ⟨p, r, rfl⟩ | rfl | ⟨line, rfl⟩ | rfl | ⟨d, n, late, rfl⟩ | rfl
  · exact h.keeps_boxed hs
  · have leaves := (State.fed_serveFeed _).leaves.after ((State.leaves_owe _ p r).after s.restart_leaves)
    exact leaves.keeps_boxed (State.boxed_of_closed (fun _ h => nomatch h) rfl)
  · exact State.boxed_frameStart hs
  · exact State.boxed_lineEnd hs line
  · exact State.boxed_frameEnd hs
  · exact hs
  · exact State.boxed_signalLost hs

end ViewSound

theorem State.viewSound_reset : State.reset.viewSound := by
  have window : resetVwc.window = windowOf 2 .single 256 1920 1440 := by
    simp [resetVwc, resetWindow, windowOf, livePane, rasterSize, baseWindow, windowEdge]
  exact ⟨window, by decide, by decide, by decide, by decide, by decide, by decide, nofun, nofun⟩

/-- Settles O5: what changes the zoom, the target centre, the layout or the output mode works the window out anew, within the ranges of
what it is given; a page box is formed of the tiles of a whole set. -/
theorem viewStaysSound : Obligations.ViewStaysSound := by
  refine keptByStep_of_effects (fun s t h hs => ?_) (fun _ _ => State.viewSound_reset) (fun _ _ => State.viewSound_reset)
    fun s t h hs => ?_
  · simpa only [State.viewSound, h.vwc, h.dou, h.tcl, h.tsu] using hs
  · rw [State.viewSound_iff] at hs ⊢
    exact ⟨h.keeps_aimed hs.1 hs.2.1, h.keeps_boxed hs.2⟩

end Sys2Proof.Machine

namespace Sys2Proof.Machine

/-! ### Which slot carries which holder (04 R47 to R50) -/

section Pool
variable (p : Spm) (n m : Nat) (j k : HolderKind)

/-- Whether slot n carries a kind. -/
def Spm.has (p : Spm) (n : Nat) (k : HolderKind) : Bool := (p.slot n).holders.has k

variable {p n m j k}

theorem Holders.isEmpty_iff {h : Holders} : h.isEmpty = true ↔ h = noHolders := by
  unfold Holders.isEmpty; exact beq_iff_eq

theorem Holders.ne_of_has {h : Holders} (hk : h.has k = true) : h ≠ noHolders := by
  rintro rfl; simp at hk

theorem Spm.lt_of_ne {p : Spm} {n : Nat} (h : (p.slot n).holders ≠ noHolders) : n < p.slots.length := by
  by_contra hn
  exact h (by unfold Spm.slot; rw [List.getD_eq_default _ _ (Nat.le_of_not_lt hn)]; rfl)

theorem Spm.lt_of_has (h : p.has n k = true) : n < p.slots.length := Spm.lt_of_ne (Holders.ne_of_has h)

theorem Spm.has_leave (h : Holders) : (p.leave n h).has m j = if m = n ∧ n < p.slots.length then h.has j else p.has m j := by
  unfold Spm.has
  rw [(Spm.slot_leave p n m h).1]
  split
  · split
    · next e => simp [e]
    · rfl
  · rfl

theorem Spm.has_remove : (p.remove n k).has m j = if m = n ∧ j = k then false else p.has m j := by
  unfold Spm.remove
  split
  · next hk =>
    have hn := Spm.lt_of_has (p := p) hk
    rw [Spm.has_leave, Holders.has_put]
    by_cases hm : m = n
    · subst hm; by_cases hj : j = k <;> simp [hn, hj, Spm.has]
    · simp [hm]
  · next hk =>
    split
    · next e => obtain ⟨rfl, rfl⟩ := e; simpa [Spm.has] using hk
    · rfl

theorem Spm.has_removeKind_other (h : j ≠ k) : (p.removeKind k).has m j = p.has m j := by
  unfold Spm.removeKind
  split
  · rfl
  · simp [Spm.has_remove, h]

/-- With one slot at most that carries the kind, none does after its removal. -/
theorem Spm.has_removeKind (one : ∀ m n, p.has m k = true → p.has n k = true → m = n) : (p.removeKind k).has m k = false := by
  unfold Spm.removeKind
  split
  · next h => exact Spm.find_none h m
  · next n h =>
    rw [Spm.has_remove]
    split
    · rfl
    · next e =>
      by_contra hm
      exact e ⟨one m n (by simpa using hm) (Spm.find_some h).2.1, rfl⟩

theorem Spm.has_take (c : SlotContent) (x : Picture) (hn : n < p.slots.length) :
    (p.take n k c x).has m j = if m = n then decide (j = k) else p.has m j := by
  unfold Spm.has
  rw [Spm.slot_take]
  by_cases hm : m = n
  · simp [hm, hn, Holders.has_put]
  · simp [hm]

theorem Spm.has_place (hn : n < p.slots.length) : (p.place n k).has m j = if m = n ∧ j = k then true else p.has m j := by
  unfold Spm.has
  rw [Spm.slot_place]
  by_cases hm : m = n
  · subst hm; by_cases hj : j = k <;> simp [hn, hj, Holders.has_put]
  · simp [hm]

theorem Spm.has_replace {old new : HolderKind} (hn : n < p.slots.length) :
    (p.replace n old new).has m j = if m = n ∧ j = new then true else if m = n ∧ j = old then false else p.has m j := by
  unfold Spm.has
  rw [Spm.slot_replace]
  by_cases hm : m = n
  · subst hm
    by_cases hj : j = new
    · simp [hn, hj, Holders.has_put]
    · by_cases ho : j = old <;> simp [hn, hj, ho, Holders.has_put]
  · simp [hm]

theorem Holders.has_pins (h : Holders) (l : List PinTag) (k : HolderKind) : { h with pins := l }.has k = h.has k := by cases k <;> rfl

theorem Spm.has_pin (t : PinTag) : (p.pin n t).has m j = p.has m j := by
  unfold Spm.has
  rw [Spm.slot_pin]
  split
  · next e => rw [e.1, Holders.has_pins]
  · rfl

theorem Spm.has_unpin (t : PinTag) : (p.unpin n t).has m j = p.has m j := by
  unfold Spm.unpin
  split
  · rw [Spm.has_leave]
    split
    · next e => rw [e.1, Holders.has_pins]; rfl
    · rfl
  · rfl

theorem Spm.has_draw (f : Picture → Picture) : (p.draw n f).has m j = p.has m j := by
  unfold Spm.has
  rw [Spm.slot_draw]
  split
  · next e => rw [e.1]
  · rfl

/-- A slot found FREE is a slot of the pool without holders. -/
theorem Spm.lowestFree_some (h : p.lowestFree = some n) : n < p.slots.length ∧ (p.slot n).holders = noHolders := by
  unfold Spm.lowestFree at h
  rw [List.findIdx?_eq_some_iff_getElem] at h
  obtain ⟨hn, he, -⟩ := h
  refine ⟨hn, ?_⟩
  unfold Spm.slot; rw [List.getD_eq_getElem _ _ hn]; exact Holders.isEmpty_iff.mp he

/-- A kind moved to a slot is on that slot alone, when one slot at most carried it. -/
theorem Spm.has_move (one : ∀ m n, p.has m k = true → p.has n k = true → m = n) {target : Option Nat}
    (ht : ∀ n, target = some n → n < p.slots.length) :
    (p.move k target).has m j = if j = k then decide (target = some m) else p.has m j := by
  unfold Spm.move
  cases target with
  | none =>
    dsimp only
    by_cases hj : j = k
    · subst hj; simp [Spm.has_removeKind one]
    · simp [hj, Spm.has_removeKind_other hj]
  | some n =>
    have hn := ht n rfl
    dsimp only
    unfold Spm.removeOld
    split
    · next h =>
      rw [Spm.has_place hn]
      by_cases hj : j = k
      · subst hj
        have := Spm.find_none h m
        by_cases hm : m = n
        · simp [hm]
        · simpa [hm, Spm.has, Ne.symm hm] using this
      · simp [hj]
    · next o h =>
      have ho := (Spm.find_some h).2.1
      by_cases hno : n = o
      · subst hno
        rw [if_pos rfl, Spm.has_place hn]
        by_cases hj : j = k
        · subst hj
          by_cases hm : m = n
          · simp [hm]
          · have : p.has m j = false := by
              by_contra e
              exact hm (one m n (by simpa using e) ho)
            simp [hm, Ne.symm hm, this]
        · simp [hj]
      · rw [if_neg (by simpa using hno), Spm.has_remove, Spm.has_place hn]
        by_cases hj : j = k
        · subst hj
          by_cases hm : m = n
          · simp [hm, hno]
          · by_cases hmo : m = o
            · simp [hmo, hno]
            · have : p.has m j = false := by
                by_contra e
                exact hmo (one m o (by simpa using e) ho)
              simp [hm, hmo, Ne.symm hm, this]
        · simp [hj]

/-- The kind that succeeds another is on that slot alone; the other kinds but the succeeded one stay. -/
theorem Spm.has_succeed {old new : HolderKind} (ne : old ≠ new) (one : ∀ m n, p.has m new = true → p.has n new = true → m = n)
    (hn : n < p.slots.length) :
    (p.succeed n old new).has m j = if j = new then decide (m = n) else if m = n ∧ j = old then false else p.has m j := by
  unfold Spm.succeed Spm.removeOld
  split
  · next h =>
    rw [Spm.has_replace hn]
    by_cases hj : j = new
    · subst hj
      have := Spm.find_none h m
      by_cases hm : m = n
      · simp [hm]
      · simpa [hm, Spm.has] using this
    · simp [hj]
  · next o h =>
    have ho := (Spm.find_some h).2.1
    by_cases hno : n = o
    · subst hno
      rw [if_pos rfl, Spm.has_replace hn]
      by_cases hj : j = new
      · subst hj
        by_cases hm : m = n
        · simp [hm]
        · have : p.has m j = false := by
            by_contra e
            exact hm (one m n (by simpa using e) ho)
          simp [hm, this]
      · simp [hj]
    · rw [if_neg (by simpa using hno), Spm.has_remove, Spm.has_replace hn]
      by_cases hj : j = new
      · subst hj
        by_cases hm : m = n
        · simp [hm, hno]
        · by_cases hmo : m = o
          · simp [hmo, Ne.symm hno]
          · have : p.has m j = false := by
              by_contra e
              exact hmo (one m o (by simpa using e) ho)
            simp [hm, hmo, this]
      · simp [hj]

/-! ### The pool stays whole (04 R48, R49) -/

/-- Eight slots, each without content exactly while it is FREE. -/
def Spm.whole (p : Spm) : Prop :=
  p.slots.length = 8 ∧ ∀ n, (p.slot n).holders.isEmpty = true ↔ (p.slot n).content = .nothing

theorem Spm.whole.content {p : Spm} (h : p.whole) (n : Nat) : (p.slot n).holders = noHolders ↔ (p.slot n).content = .nothing :=
  Holders.isEmpty_iff.symm.trans (h.2 n)

theorem Spm.whole_of {p q : Spm} (h : p.whole) (length : q.slots.length = p.slots.length)
    (slot : ∀ m, q.slot m = p.slot m ∨ ((q.slot m).holders = noHolders ↔ (q.slot m).content = .nothing)) : q.whole := by
  refine ⟨length.trans h.1, fun m => Holders.isEmpty_iff.trans ?_⟩
  rcases slot m with e | e
  · rw [e]; exact h.content m
  · exact e

theorem Spm.whole_leave (h : p.whole) {hs : Holders} (held : (p.slot n).holders ≠ noHolders) : (p.leave n hs).whole := by
  refine Spm.whole_of h (by simp) fun m => ?_
  rw [(Spm.slot_leave p n m hs).1]
  split
  · next e =>
    have full : (p.slot n).content ≠ .nothing := fun e => held ((h.content n).mpr e)
    right
    split
    · simp
    · next hne => simp [hne, full]
  · exact .inl rfl

theorem Spm.whole_remove (h : p.whole) : (p.remove n k).whole := by
  unfold Spm.remove
  split
  · next hk => exact Spm.whole_leave h (Holders.ne_of_has hk)
  · exact h

theorem Spm.whole_removeKind (h : p.whole) : (p.removeKind k).whole := by
  unfold Spm.removeKind
  split
  · exact h
  · exact Spm.whole_remove h

theorem Spm.whole_removeOld (h : p.whole) (o t : Option Nat) : (p.removeOld o t k).whole := by
  unfold Spm.removeOld
  split
  · exact h
  split
  · exact h
  · exact Spm.whole_remove h

theorem Spm.whole_unpin (h : p.whole) (t : PinTag) : (p.unpin n t).whole := by
  unfold Spm.unpin
  split
  · next hp => exact Spm.whole_leave h (by rintro e; simp [e, noHolders] at hp)
  · exact h

theorem Holders.put_ne (h : Holders) (k : HolderKind) : h.put k true ≠ noHolders :=
  Holders.ne_of_has (k := k) (by simp [Holders.has_put])

/-- A slot that keeps its content and holds something is as whole as it was, when it held something. -/
theorem Spm.whole_held (h : p.whole) {q : Spm} (length : q.slots.length = p.slots.length) (held : (p.slot n).holders ≠ noHolders)
    (at_n : (q.slot n).holders ≠ noHolders ∧ (q.slot n).content = (p.slot n).content) (other : ∀ m, m ≠ n → q.slot m = p.slot m) :
    q.whole := by
  have full : (p.slot n).content ≠ .nothing := fun e => held ((h.content n).mpr e)
  refine Spm.whole_of h length fun m => ?_
  by_cases hm : m = n
  · subst hm; right; simp [at_n.1, at_n.2, full]
  · exact .inl (other m hm)

theorem Spm.whole_place (h : p.whole) (held : (p.slot n).holders ≠ noHolders) : (p.place n k).whole := by
  refine Spm.whole_held h (n := n) (by simp) held ?_ fun m hm => by simp [Spm.slot_place, hm]
  rw [Spm.slot_place, if_pos ⟨rfl, Spm.lt_of_ne held⟩]
  exact ⟨Holders.put_ne _ _, rfl⟩

theorem Spm.whole_replace (h : p.whole) {old new : HolderKind} (held : (p.slot n).holders ≠ noHolders) : (p.replace n old new).whole := by
  refine Spm.whole_held h (n := n) (by simp) held ?_ fun m hm => by simp [Spm.slot_replace, hm]
  rw [Spm.slot_replace, if_pos ⟨rfl, Spm.lt_of_ne held⟩]
  exact ⟨Holders.put_ne _ _, rfl⟩

theorem Spm.whole_pin (h : p.whole) (t : PinTag) (held : (p.slot n).holders ≠ noHolders) : (p.pin n t).whole := by
  refine Spm.whole_held h (n := n) (by simp) held ?_ fun m hm => by simp [Spm.slot_pin, hm]
  rw [Spm.slot_pin, if_pos ⟨rfl, Spm.lt_of_ne held⟩]
  exact ⟨fun e => by have := congrArg Holders.pins e; simp [noHolders] at this, rfl⟩

theorem Spm.whole_take (h : p.whole) {c : SlotContent} (x : Picture) (hc : c ≠ .nothing) : (p.take n k c x).whole := by
  refine Spm.whole_of h (by simp) fun m => ?_
  rw [Spm.slot_take]
  split
  · right; simp [hc, Holders.put_ne]
  · exact .inl rfl

theorem Spm.whole_draw (h : p.whole) (f : Picture → Picture) : (p.draw n f).whole := by
  refine Spm.whole_of h (by simp) fun m => ?_
  rw [Spm.slot_draw]
  split
  · next e => right; exact h.content n
  · exact .inl rfl

theorem Spm.whole_succeed (h : p.whole) {old new : HolderKind} (held : (p.slot n).holders ≠ noHolders) : (p.succeed n old new).whole :=
  Spm.whole_removeOld (Spm.whole_replace h held) _ _

theorem Spm.whole_move (h : p.whole) {target : Option Nat} (held : ∀ n, target = some n → (p.slot n).holders ≠ noHolders) :
    (p.move k target).whole := by
  unfold Spm.move
  split
  · exact Spm.whole_removeKind h
  · next n => exact Spm.whole_removeOld (Spm.whole_place h (held n rfl)) _ _

theorem Spm.whole_restarted (h : p.slots.length = 8) : p.restarted.whole :=
  ⟨by simp [h], fun n => by simp [Spm.slot_restarted, Holders.isEmpty_iff]⟩

theorem Spm.has_restarted : p.restarted.has n k = false := by simp [Spm.has, Spm.slot_restarted]

end Pool
end Sys2Proof.Machine

namespace Sys2Proof.Machine

/-! ### The lesson table and the place map stay sound (08 R124 to R126) -/

/-- A page's serial and place. -/
def PageRecord.key (r : PageRecord) : Half × Nat := (r.serial, r.place)

/-- At most 64 pages, a name within its range, and an EMPTY lesson without pages or name. -/
def LessonRecord.whole (l : LessonRecord) : Prop :=
  l.pages.length ≤ 64 ∧ nameInRange l.name = true ∧ (l.state = .empty → l.pages = [] ∧ l.name = [])

/-- The lesson table with its retired places, within the manual's ranges. -/
structure TableSound (ls : List LessonRecord) (retired : List Nat) : Prop where
  length : ls.length = 32
  opened : ls.countP (·.state == .opened) ≤ 1
  whole : ∀ l ∈ ls, l.whole
  serials : ((recordsOf ls).map (·.serial)).Nodup
  places : (takenPlaces ls retired).Nodup
  below : ∀ p ∈ takenPlaces ls retired, p < 510

theorem tableSound_iff (ls : List LessonRecord) (retired : List Nat) :
    TableSound ls retired ↔ lessonsInRange ls = true ∧ placesInRange ls retired = true := by
  have each (l : LessonRecord) : (decide (l.pages.length ≤ 64) && nameInRange l.name &&
      (l.state != .empty || (l.pages.isEmpty && l.name.isEmpty))) = true ↔ l.whole := by
    simp only [LessonRecord.whole, Bool.and_eq_true, Bool.or_eq_true, decide_eq_true_eq, bne_iff_ne, List.isEmpty_iff, and_assoc,
      ← imp_iff_not_or, ne_eq]
  simp only [lessonsInRange, placesInRange, Bool.and_eq_true, decide_eq_true_eq, List.all_eq_true, each, ← List.countP_eq_length_filter]
  constructor
  · rintro ⟨a, b, c, d, e, f⟩
    exact ⟨⟨⟨⟨a, b⟩, c⟩, d⟩, e, fun x hx => by simpa using f x hx⟩
  · rintro ⟨⟨⟨⟨a, b⟩, c⟩, d⟩, e, f⟩
    exact ⟨a, b, c, d, e, fun x hx => by simpa using f x hx⟩

theorem map_subperm {α β : Type} {l₁ l₂ : List α} (f : α → β) (h : l₁.Subperm l₂) : (l₁.map f).Subperm (l₂.map f) := by
  obtain ⟨l, p, s⟩ := h
  exact ⟨l.map f, p.map f, s.map f⟩

theorem nodup_of_subperm {α : Type} {l₁ l₂ : List α} (h : l₁.Subperm l₂) (n : l₂.Nodup) : l₁.Nodup := by
  obtain ⟨l, p, s⟩ := h
  exact p.nodup_iff.mp (n.sublist s)

/-- What an edit makes of a lesson: no page that was not there, and a whole lesson stays whole. -/
def LessonRecord.Shrinks (l l' : LessonRecord) : Prop :=
  (l.whole → l'.whole) ∧ (l'.pages.map PageRecord.key).Subperm (l.pages.map PageRecord.key)

theorem LessonRecord.Shrinks.refl (l : LessonRecord) : l.Shrinks l := ⟨id, .refl _⟩

/-- A lesson without some of its pages. -/
theorem LessonRecord.shrinks_pages (l : LessonRecord) {pages : List PageRecord} (h : pages.Sublist l.pages) :
    l.Shrinks { l with pages := pages } := by
  refine ⟨fun ⟨len, name, empty⟩ => ⟨h.length_le.trans len, name, fun e => ?_⟩, (h.map _).subperm⟩
  obtain ⟨none, noName⟩ := empty e
  refine ⟨?_, noName⟩
  dsimp only
  rw [none] at h
  exact List.sublist_nil.mp h

section Table
variable {ls ls' : List LessonRecord} {retired : List Nat}

theorem keys_subperm (h : List.Forall₂ LessonRecord.Shrinks ls ls') :
    ((recordsOf ls').map PageRecord.key).Subperm ((recordsOf ls).map PageRecord.key) := by
  induction h with
  | nil => exact .refl _
  | cons hl _ ih => simpa [recordsOf] using hl.2.append ih

theorem serials_eq_keys (ls : List LessonRecord) : (recordsOf ls).map (·.serial) = ((recordsOf ls).map PageRecord.key).map Prod.fst := by
  simp [PageRecord.key, Function.comp_def]

theorem places_eq_keys (ls : List LessonRecord) : (recordsOf ls).map (·.place) = ((recordsOf ls).map PageRecord.key).map Prod.snd := by
  simp [PageRecord.key, Function.comp_def]

/-- An edit that gives no lesson a page it had not keeps the table sound, when one lesson at most is OPEN after it. -/
theorem TableSound.shrinks (h : TableSound ls retired) (hs : List.Forall₂ LessonRecord.Shrinks ls ls')
    (opened : ls'.countP (·.state == .opened) ≤ 1) : TableSound ls' retired := by
  have keys := keys_subperm hs
  have taken : (takenPlaces ls' retired).Subperm (takenPlaces ls retired) := by
    unfold takenPlaces
    rw [places_eq_keys, places_eq_keys]
    exact (map_subperm _ keys).append (.refl _)
  refine ⟨hs.length_eq ▸ h.length, opened, ?_, ?_, nodup_of_subperm taken h.places, fun p hp => h.below p (taken.subset hp)⟩
  · intro l hl
    obtain ⟨n, hn, rfl⟩ := List.getElem_of_mem hl
    have hn' : n < ls.length := hs.length_eq ▸ hn
    exact (hs.get hn' hn).1 (h.whole _ (List.getElem_mem hn'))
  · rw [serials_eq_keys]
    exact nodup_of_subperm (map_subperm _ keys) (serials_eq_keys ls ▸ h.serials)

/-- An edit that opens no lesson leaves as many OPEN lessons at most. -/
theorem opened_le (h : List.Forall₂ (fun l l' : LessonRecord => l'.state = .opened → l.state = .opened) ls ls') :
    ls'.countP (·.state == .opened) ≤ ls.countP (·.state == .opened) := by
  induction h with
  | nil => exact le_rfl
  | cons hl _ ih =>
    simp only [List.countP_cons, beq_iff_eq]
    split
    · next e => simp [hl e, ih]
    · omega

theorem forall₂_map {R : LessonRecord → LessonRecord → Prop} (ls : List LessonRecord) (f : LessonRecord → LessonRecord) (h : ∀ l, R l (f l)) :
    List.Forall₂ R ls (ls.map f) :=
  List.forall₂_map_right_iff.mpr (List.forall₂_same.mpr fun l _ => h l)

theorem forall₂_modify_mem {R : LessonRecord → LessonRecord → Prop} (ls : List LessonRecord) (n : Nat) (f : LessonRecord → LessonRecord)
    (refl : ∀ l, R l l) (h : ∀ l ∈ ls, R l (f l)) : List.Forall₂ R ls (ls.modify n f) := by
  induction ls generalizing n with
  | nil => cases n <;> exact .nil
  | cons l ls ih =>
    cases n with
    | zero => exact .cons (h l (by simp)) (List.forall₂_same.mpr fun l _ => refl l)
    | succ n => exact .cons (refl l) (ih n fun l hl => h l (by simp [hl]))

theorem forall₂_mapIdx {R : LessonRecord → LessonRecord → Prop} (ls : List LessonRecord) (f : Nat → LessonRecord → LessonRecord)
    (h : ∀ n l, R l (f n l)) : List.Forall₂ R ls (ls.mapIdx f) := by
  rw [List.forall₂_iff_get]
  exact ⟨by simp, fun i hi _ => by simpa using h i _⟩

/-- An edit of every lesson that opens none and gives none a page. -/
theorem TableSound.map (h : TableSound ls retired) {f : LessonRecord → LessonRecord} (shrinks : ∀ r : LessonRecord, r.Shrinks (f r))
    (opens : ∀ r, (f r).state = .opened → r.state = .opened) : TableSound (ls.map f) retired :=
  h.shrinks (forall₂_map _ _ shrinks) ((opened_le (forall₂_map _ _ opens)).trans h.opened)

/-- An edit of one lesson that neither opens it nor gives it a page. -/
theorem TableSound.modify (h : TableSound ls retired) (l : Nat) {f : LessonRecord → LessonRecord} (shrinks : ∀ r ∈ ls, r.Shrinks (f r))
    (opens : ∀ r, (f r).state = .opened → r.state = .opened) : TableSound (ls.modify l f) retired :=
  h.shrinks (forall₂_modify_mem _ _ _ .refl shrinks) ((opened_le (forall₂_modify_mem _ _ _ (fun _ => id) fun r _ => opens r)).trans h.opened)

theorem TableSound.removeRecord (h : TableSound ls retired) (q : Half) : TableSound (removeRecord ls q) retired :=
  h.map (fun l => l.shrinks_pages List.filter_sublist) fun _ e => e

theorem TableSound.dropWriting (h : TableSound ls retired) : TableSound (dropWriting ls) retired :=
  h.map (fun l => l.shrinks_pages List.filter_sublist) fun _ e => e

/-- A record changed in anything but its serial and its place. -/
theorem TableSound.changeRecord (h : TableSound ls retired) (q : Half) {f : PageRecord → PageRecord} (same : ∀ r, (f r).key = r.key) :
    TableSound (changeRecord ls q f) retired := by
  refine h.map (fun l => ⟨fun ⟨len, name, empty⟩ => ⟨by simpa using len, name, fun e => ?_⟩, ?_⟩) fun _ e => e
  · obtain ⟨none, noName⟩ := empty e
    exact ⟨by simp [none], noName⟩
  · have : ((l.pages.map fun r => if r.serial = q then f r else r).map PageRecord.key) = l.pages.map PageRecord.key := by
      rw [List.map_map]
      refine List.map_congr_left fun r _ => ?_
      dsimp only [Function.comp_apply]
      split
      · exact same r
      · rfl
    dsimp only
    rw [this]

/-- The page of a serial among pages of different serials. -/
theorem find_serial_split {pages : List PageRecord} (h : (pages.map (·.serial)).Nodup) {q : Half} {r : PageRecord}
    (hr : pages.find? (·.serial == q) = some r) :
    r.serial = q ∧ ∃ as bs, pages = as ++ r :: bs ∧ (∀ x ∈ as, x.serial ≠ q) ∧ ∀ x ∈ bs, x.serial ≠ q := by
  obtain ⟨hs, as, bs, rfl, before⟩ := List.find?_eq_some_iff_append.mp hr
  have hs : r.serial = q := by simpa using hs
  refine ⟨hs, as, bs, rfl, fun x hx => by simpa using before x hx, fun x hx e => ?_⟩
  rw [List.map_append, List.map_cons, List.nodup_append, List.nodup_cons] at h
  exact h.2.1.1 (by rw [hs, ← e]; exact List.mem_map_of_mem hx)

theorem filter_serial {as bs : List PageRecord} {r : PageRecord} {q : Half} (hs : r.serial = q) (before : ∀ x ∈ as, x.serial ≠ q)
    (after : ∀ x ∈ bs, x.serial ≠ q) : (as ++ r :: bs).filter (fun x => x.serial != q) = as ++ bs := by
  rw [List.filter_append, List.filter_cons_of_neg (by simp [hs]), List.filter_eq_self.mpr, List.filter_eq_self.mpr]
  · intro x hx; simpa using after x hx
  · intro x hx; simpa using before x hx

/-- A page list with one of its pages moved holds the same pages. -/
theorem movePage_perm {pages : List PageRecord} (h : (pages.map (·.serial)).Nodup) (q : Half) (target : Nat) :
    (movePage pages q target).Perm pages := by
  unfold movePage
  split
  · exact .refl _
  · next r hr =>
    obtain ⟨hs, as, bs, rfl, before, after⟩ := find_serial_split h hr
    dsimp only
    rw [filter_serial hs before after]
    calc ((as ++ bs).take target ++ [r] ++ (as ++ bs).drop target).Perm (r :: ((as ++ bs).take target ++ (as ++ bs).drop target)) := by
          rw [List.append_assoc]; exact List.perm_middle
      _ = r :: (as ++ bs) := by rw [List.take_append_drop]
      (r :: (as ++ bs)).Perm (as ++ r :: bs) := List.perm_middle.symm

theorem serials_of_lesson (h : ((recordsOf ls).map (·.serial)).Nodup) {l : LessonRecord} (hl : l ∈ ls) :
    (l.pages.map (·.serial)).Nodup := by
  obtain ⟨as, bs, rfl⟩ := List.append_of_mem hl
  refine h.sublist ?_
  simp only [recordsOf, List.flatMap_append, List.flatMap_cons, List.map_append]
  exact ((List.sublist_append_left _ _).trans (List.sublist_append_right _ _))

theorem TableSound.movePage (h : TableSound ls retired) (l : Nat) (q : Half) (target : Nat) :
    TableSound (ls.modify l fun r => { r with pages := movePage r.pages q target }) retired := by
  refine h.modify l (fun r hr => ?_) fun _ e => e
  have perm := movePage_perm (serials_of_lesson h.serials hr) q target
  refine ⟨fun ⟨len, name, empty⟩ => ⟨perm.length_eq.trans_le len, name, fun e => ?_⟩, (perm.map _).subperm⟩
  obtain ⟨none, noName⟩ := empty e
  exact ⟨by rw [none] at perm ⊢; exact List.perm_nil.mp perm, noName⟩

/-- One lesson is OPEN after OPEN_LESSON at most. -/
theorem openedTable_opened (ls : List LessonRecord) (l : Nat) : (openedTable ls l).countP (·.state == .opened) ≤ 1 := by
  have other : ∀ (n : Nat) (r : LessonRecord), n ≠ l → ((openedTable ls l)[n]? = some r) → r.state ≠ .opened := by
    intro n r hn hr
    simp only [openedTable, List.getElem?_mapIdx, Option.map_eq_some_iff] at hr
    obtain ⟨x, -, rfl⟩ := hr
    rw [if_neg hn]
    cases hx : x.state <;> simp [hx]
  generalize openedTable ls l = t at other
  induction t generalizing l with
  | nil => simp
  | cons x t ih =>
    rw [List.countP_cons]
    cases l with
    | zero =>
      have none : t.countP (·.state == .opened) = 0 := by
        rw [List.countP_eq_zero]
        intro r hr
        obtain ⟨n, hn, rfl⟩ := List.getElem_of_mem hr
        simpa using other (n + 1) _ (by omega) (by simp)
      rw [none]; split <;> simp
    | succ l =>
      have := other 0 x (by omega) rfl
      have rest := ih l fun n r hn hr => other (n + 1) r (by omega) (by simpa using hr)
      simpa [this] using rest

theorem TableSound.openedTable (h : TableSound ls retired) (l : Nat) : TableSound (openedTable ls l) retired := by
  refine h.shrinks (forall₂_mapIdx _ _ fun n r => ?_) (openedTable_opened ls l)
  split
  · cases e : r.state
    · exact ⟨fun ⟨_, _, _⟩ => ⟨by simp, by simp [nameInRange], fun e => by simp at e⟩, by simp⟩
    · exact .refl r
    · exact ⟨fun ⟨len, name, _⟩ => ⟨len, name, fun e => by simp at e⟩, .refl _⟩
  · cases e : r.state
    · exact .refl r
    · exact ⟨fun ⟨len, name, _⟩ => ⟨len, name, fun e => by simp at e⟩, .refl _⟩
    · exact .refl r

/-- An edit's table. -/
theorem TableSound.edit (h : TableSound ls retired) {t : JobTask} (ht : ∀ l name, t = .nameLesson l name → nameInRange name = true)
    {serial : Option Half} (he : t.edit serial ls = .ok ls') : TableSound ls' retired := by
  unfold JobTask.edit at he
  split at he
  case h_1 =>
    split at he
    · exact nomatch he
    split at he
    · exact nomatch he
    · cases he; exact h.removeRecord _
  case h_2 =>
    split at he
    · exact nomatch he
    · cases he; exact h.movePage _ _ _
  case h_3 => cases he; exact h.openedTable _
  case h_4 =>
    cases he
    refine h.modify _ (fun r _ => ?_) fun r => ?_
    · unfold LessonRecord.closed
      split
      · exact ⟨fun ⟨len, name, _⟩ => ⟨len, name, fun e => by simp at e⟩, .refl _⟩
      · exact .refl r
      · exact .refl r
    · unfold LessonRecord.closed; split <;> simp_all
  case h_5 =>
    split at he
    · exact nomatch he
    · cases he
      refine h.modify _ (fun r _ => ?_) fun r => ?_
      · unfold LessonRecord.cleared
        split
        · exact .refl r
        · exact ⟨fun _ => ⟨by simp [Config.emptyLesson], by simp [Config.emptyLesson, nameInRange], fun _ => ⟨rfl, rfl⟩⟩,
            by simp [Config.emptyLesson]⟩
      · unfold LessonRecord.cleared; split <;> simp [Config.emptyLesson]
  case h_6 l name =>
    cases he
    have range := ht l name rfl
    refine h.modify _ (fun r _ => ?_) fun r => ?_
    · unfold LessonRecord.named
      split
      · exact .refl r
      · next e => exact ⟨fun ⟨len, _, _⟩ => ⟨len, range, fun e' => absurd e' e⟩, .refl _⟩
    · unfold LessonRecord.named; split <;> simp
  case h_7 =>
    cases he
    refine h.modify _ (fun r _ => ?_) fun r => ?_
    · unfold LessonRecord.flagged
      split
      · exact .refl r
      · exact ⟨id, .refl _⟩
    · unfold LessonRecord.flagged; split <;> simp
  all_goals cases he; exact h

/-! ### New records and new places -/

theorem freePlace_some {p : Nat} (h : freePlace ls retired = some p) : p < 510 ∧ p ∉ takenPlaces ls retired := by
  unfold freePlace at h
  refine ⟨List.mem_range.mp (List.mem_of_find?_eq_some h), ?_⟩
  simpa using List.find?_some h

/-- The table of 32 lessons holds at most 2048 records. -/
theorem TableSound.records_le (h : TableSound ls retired) : (recordsOf ls).length ≤ 2048 := by
  have : ∀ (k : List LessonRecord), (∀ l ∈ k, l.whole) → (recordsOf k).length ≤ 64 * k.length := by
    intro k
    induction k with
    | nil => simp [recordsOf]
    | cons l k ih =>
      intro hk
      have hl := (hk l (by simp)).1
      have := ih fun x hx => hk x (by simp [hx])
      simp only [recordsOf, List.flatMap_cons, List.length_append, List.length_cons] at this ⊢
      omega
  have := this ls h.whole
  rw [h.length] at this
  exact this

/-- With fewer records than serials, the serial tried first that no record holds is one that no record holds (08 R127). -/
theorem freeSerial_fresh (ls : List LessonRecord) (next : Half) (few : (recordsOf ls).length < 65536) :
    freeSerial ls next ∉ (recordsOf ls).map (·.serial) := by
  unfold freeSerial
  set tried := (List.range ((recordsOf ls).length + 1)).map fun n => next + BitVec.ofNat 16 n with ht
  cases hf : tried.find? fun q => !((recordsOf ls).map (·.serial)).contains q with
  | some q => simpa using List.find?_some hf
  | none =>
    have all : tried ⊆ (recordsOf ls).map (·.serial) := by
      intro q hq
      have := List.find?_eq_none.mp hf q hq
      simpa using this
    have nodup : tried.Nodup := by
      refine List.Nodup.map_on (fun a ha b hb e => ?_) List.nodup_range
      rw [List.mem_range] at ha hb
      have := BitVec.add_right_inj next |>.mp e
      have := congrArg BitVec.toNat this
      simp only [BitVec.toNat_ofNat] at this
      omega
    have := (nodup.subperm all).length_le
    simp [ht] at this

theorem keys_append (h : ∃ x, ls[n]? = some x) (r : PageRecord) : (recordsOf (appendRecord ls n r)).Perm (r :: recordsOf ls) := by
  obtain ⟨x, hx⟩ := h
  obtain ⟨hn, rfl⟩ := List.getElem?_eq_some_iff.mp hx
  unfold appendRecord recordsOf
  rw [List.modify_eq_take_cons_drop hn]
  conv_rhs => rw [← List.take_append_drop n ls, List.drop_eq_getElem_cons hn]
  simp only [List.flatMap_append, List.flatMap_cons, List.append_assoc, List.singleton_append]
  rw [← List.append_assoc, ← List.append_assoc]
  exact List.perm_middle

/-- A new page of an OPEN lesson that has room, with a serial and a place of its own. -/
theorem TableSound.appendRecord (h : TableSound ls retired) {n : Nat} (opened : (lessonAt ls n).state = .opened)
    (room : (lessonAt ls n).pages.length < 64) {r : PageRecord} (serial : r.serial ∉ (recordsOf ls).map (·.serial))
    (place : r.place ∉ takenPlaces ls retired) (below : r.place < 510) : TableSound (appendRecord ls n r) retired := by
  have hn : n < ls.length := by
    by_contra hn
    rw [lessonAt, List.getD_eq_default _ _ (Nat.le_of_not_lt hn)] at opened
    exact nomatch opened
  rw [lessonAt, List.getD_eq_getElem _ _ hn] at opened room
  have perm := keys_append (r := r) (ls := ls) (n := n) ⟨_, List.getElem?_eq_getElem hn⟩
  have taken : (takenPlaces (Machine.appendRecord ls n r) retired).Perm (r.place :: takenPlaces ls retired) :=
    (perm.map PageRecord.place).append_right retired
  refine ⟨by simp [Machine.appendRecord, h.length], ?_, ?_, ?_, ?_, ?_⟩
  · refine (opened_le (forall₂_modify_mem ls n (fun x => { x with pages := x.pages ++ [r] }) (fun _ => id) ?_)).trans h.opened
    exact fun _ _ e => e
  · intro l hl
    obtain ⟨m, hm, rfl⟩ := List.getElem_of_mem hl
    have hm' : m < ls.length := by simpa [Machine.appendRecord] using hm
    obtain ⟨len, name, empty⟩ := h.whole _ (List.getElem_mem hm')
    simp only [Machine.appendRecord, List.getElem_modify]
    split
    · next e =>
      subst e
      exact ⟨by simpa using room, name, fun e => by simp [opened] at e⟩
    · exact ⟨len, name, empty⟩
  · exact ((perm.map (·.serial)).nodup_iff).mpr (List.nodup_cons.mpr ⟨serial, h.serials⟩)
  · exact taken.nodup_iff.mpr (List.nodup_cons.mpr ⟨place, h.places⟩)
  · intro p hp
    rcases List.mem_cons.mp (taken.subset hp) with rfl | hp
    · exact below
    · exact h.below p hp

/-! ### A place that is retired (08 R124; 09 R143) -/

theorem recordsOf_changeRecord (ls : List LessonRecord) (q : Half) (f : PageRecord → PageRecord) :
    recordsOf (changeRecord ls q f) = (recordsOf ls).map fun r => if r.serial = q then f r else r := by
  simp [recordsOf, changeRecord, List.flatMap_map, List.map_flatMap]

theorem recordsOf_removeRecord (ls : List LessonRecord) (q : Half) :
    recordsOf (removeRecord ls q) = (recordsOf ls).filter fun r => r.serial != q := by
  simp [recordsOf, removeRecord, List.flatMap_map, List.filter_flatMap]

/-- The record that has lost its place goes: the place is RETIRED from now on. -/
theorem TableSound.retireRemoved (h : TableSound ls retired) {q : Half} {r : PageRecord} (hr : recordWith ls q = some r) :
    TableSound (Machine.removeRecord ls q) (retired ++ [r.place]) := by
  obtain ⟨length, opened, whole, serials, -, -⟩ := h.removeRecord q
  have taken : (takenPlaces (Machine.removeRecord ls q) (retired ++ [r.place])).Perm (takenPlaces ls retired) := by
    obtain ⟨hs, as, bs, e, before, after⟩ := find_serial_split h.serials hr
    unfold takenPlaces
    rw [recordsOf_removeRecord, e, filter_serial hs before after]
    simp only [List.map_append, List.map_cons, List.append_assoc]
    refine List.Perm.append_left _ ?_
    rw [← List.append_assoc]
    exact List.perm_append_comm
  exact ⟨length, opened, whole, serials, taken.nodup_iff.mpr h.places, fun p hp => h.below p (taken.subset hp)⟩

/-- The record that has lost its place takes another: the place is RETIRED from now on. -/
theorem TableSound.retireMoved (h : TableSound ls retired) {q : Half} {r : PageRecord} (hr : recordWith ls q = some r) {n : Nat}
    (free : freePlace ls (retired ++ [r.place]) = some n) {f : PageRecord → PageRecord} (serial : ∀ x, (f x).serial = x.serial)
    (place : ∀ x, (f x).place = n) : TableSound (Machine.changeRecord ls q f) (retired ++ [r.place]) := by
  obtain ⟨below, fresh⟩ := freePlace_some free
  obtain ⟨hs, as, bs, e, before, after⟩ := find_serial_split h.serials hr
  have changed : recordsOf (Machine.changeRecord ls q f) = as ++ f r :: bs := by
    rw [recordsOf_changeRecord, e, List.map_append, List.map_cons, if_pos hs]
    have kept : ∀ l : List PageRecord, (∀ x ∈ l, x.serial ≠ q) → l.map (fun x => if x.serial = q then f x else x) = l := fun l hl =>
      (List.map_congr_left fun x hx => if_neg (hl x hx)).trans (List.map_id' l)
    rw [kept as before, kept bs after]
  have taken : (takenPlaces (Machine.changeRecord ls q f) (retired ++ [r.place])).Perm (n :: takenPlaces ls retired) := by
    unfold takenPlaces
    rw [changed, e]
    simp only [List.map_append, List.map_cons, List.append_assoc, List.cons_append, place]
    refine List.perm_middle.trans (List.Perm.cons _ (List.Perm.append_left _ ?_))
    rw [← List.append_assoc]
    exact List.perm_append_comm
  have notTaken : n ∉ takenPlaces ls retired := by
    intro hn
    refine fresh ?_
    simp only [takenPlaces, ← List.append_assoc] at hn ⊢
    exact List.mem_append_left _ hn
  refine ⟨by simp [Machine.changeRecord, h.length], ?_, ?_, ?_, taken.nodup_iff.mpr (List.nodup_cons.mpr ⟨notTaken, h.places⟩), ?_⟩
  · have same : (Machine.changeRecord ls q f).countP (·.state == .opened) = ls.countP (·.state == .opened) := by
      rw [Machine.changeRecord, List.countP_map]; rfl
    exact same ▸ h.opened
  · intro l hl
    obtain ⟨x, hx, rfl⟩ := List.mem_map.mp hl
    obtain ⟨len, name, empty⟩ := h.whole x hx
    refine ⟨by simpa using len, name, fun e => ?_⟩
    obtain ⟨none, noName⟩ := empty e
    exact ⟨by simp [none], noName⟩
  · rw [changed]
    have := h.serials
    rw [e] at this
    simpa [serial] using this
  · intro p hp
    rcases List.mem_cons.mp (taken.subset hp) with rfl | hp
    · exact below
    · exact h.below p hp

end Table
end Sys2Proof.Machine

namespace Sys2Proof.Machine

/-! ### What the work of the jobs upholds (08, 09; 04 R47 to R60) -/

/-- A NAME_LESSON's name is within its range. -/
def Job.Named (j : Job) : Prop := ∀ l name, j.task = .nameLesson l name → nameInRange name = true

/-- The three things that the work of the jobs upholds, each of its own accord: the store, the job queue, the slot pool. -/
inductive UpheldPart where
  | store | queue | pool

/-- The lesson table and the places, or the job queue, are sound. -/
structure Lsc.Sound (g : UpheldPart) (l : Lsc) : Prop where
  table : g = .store → TableSound l.lessons l.retired
  found : g = .store → l.foundSound
  named : g = .store → ∀ j ∈ l.queue, j.Named
  few : g = .queue → l.queue.length ≤ 16
  tail : g = .queue → ∀ j ∈ l.queue.tail, j.state = .queued
  starting : g = .queue → l.mode = .starting → l.queue = []

/-- An LSC with another table, and the same queue, which begins no recovery. -/
theorem Lsc.Sound.withTable {g : UpheldPart} {l m : Lsc} (h : l.Sound g) (table : g = .store → TableSound m.lessons m.retired)
    (queue : m.queue = l.queue := by rfl) (mode : m.mode = .starting → l.mode = .starting := by exact id)
    (reading : ∀ r, m.activity = .recovering r → l.activity = .recovering r := by exact fun _ h => h) : m.Sound g where
  table := table
  found e r b i ha hb := h.found e r b i (reading r ha) hb
  few e := queue ▸ h.few e
  tail e := queue ▸ h.tail e
  named e := queue ▸ h.named e
  starting e m := queue.trans (h.starting e (mode m))

/-- An LSC with the same table and queue, which begins no recovery. -/
theorem Lsc.Sound.keep {g : UpheldPart} {l m : Lsc} (h : l.Sound g) (lessons : m.lessons = l.lessons := by rfl)
    (retired : m.retired = l.retired := by rfl) (queue : m.queue = l.queue := by rfl)
    (mode : m.mode = .starting → l.mode = .starting := by exact id)
    (reading : ∀ r, m.activity = .recovering r → l.activity = .recovering r := by exact fun _ h => h) : m.Sound g :=
  h.withTable (fun e => lessons ▸ retired ▸ h.table e) queue mode reading

/-- An LSC with another queue and the same table. -/
theorem Lsc.Sound.withQueue {g : UpheldPart} {l : Lsc} (h : l.Sound g) (live : g = .queue → l.mode ≠ .starting) {q : List Job}
    (named : g = .store → ∀ j ∈ q, j.Named) (few : g = .queue → q.length ≤ 16) (tail : g = .queue → ∀ j ∈ q.tail, j.state = .queued) :
    { l with queue := q }.Sound g :=
  ⟨h.table, h.found, named, few, tail, fun e m => absurd m (live e)⟩

/-- The holders whose slots the view record and the latches name, and LATEST. -/
def HolderKind.designates : HolderKind → Bool
  | .latest | .displayLeft | .displayRight | .freeze | .page => true
  | .intake | .feed | .exported | .load => false

/-- A sound store and a whole pool, with the slots that are designated as in `s`. -/
structure State.Upholds (g : UpheldPart) (s t : State) : Prop where
  lsc : t.lsc.Sound g
  pool : g = .pool → t.spm.whole
  loads : g = .pool → ∀ n c, t.lsc.activity = .loading n c → t.spm.has n .load = true
  kinds : g = .pool → ∀ n k, k.designates = true → t.spm.has n k = s.spm.has n k
  freeze : t.vwc.freeze = s.vwc.freeze
  page : t.vwc.page = s.vwc.page
  left : t.dou.left = s.dou.left
  right : t.dou.right = s.dou.right

/-- The same with a store that is not STARTING, so that it has jobs. -/
structure State.Runs (g : UpheldPart) (s t : State) : Prop extends State.Upholds g s t where
  live : g = .queue → t.lsc.mode ≠ .starting

section Upholds
variable {g : UpheldPart} {s t : State}

theorem State.Upholds.runs (h : State.Upholds g s t) (hq : t.lsc.queue ≠ []) : State.Runs g s t := ⟨h, fun e m => hq (h.lsc.starting e m)⟩

/-- What changes neither store nor pool, nor what names a slot. -/
theorem State.Upholds.same {u : State} (h : State.Upholds g s t) (lsc : u.lsc = t.lsc := by rfl) (spm : u.spm = t.spm := by rfl)
    (freeze : u.vwc.freeze = t.vwc.freeze := by rfl) (page : u.vwc.page = t.vwc.page := by rfl)
    (left : u.dou.left = t.dou.left := by rfl) (right : u.dou.right = t.dou.right := by rfl) : State.Upholds g s u where
  lsc := lsc ▸ h.lsc
  pool := spm ▸ h.pool
  loads := by rw [lsc, spm]; exact h.loads
  kinds := by rw [spm]; exact h.kinds
  freeze := freeze.trans h.freeze
  page := page.trans h.page
  left := left.trans h.left
  right := right.trans h.right

theorem State.Runs.same {u : State} (h : State.Runs g s t) (lsc : u.lsc = t.lsc := by rfl) (spm : u.spm = t.spm := by rfl)
    (freeze : u.vwc.freeze = t.vwc.freeze := by rfl) (page : u.vwc.page = t.vwc.page := by rfl)
    (left : u.dou.left = t.dou.left := by rfl) (right : u.dou.right = t.dou.right := by rfl) : State.Runs g s u :=
  ⟨h.toUpholds.same lsc spm freeze page left right, lsc ▸ h.live⟩

theorem State.Upholds.withLsc (h : State.Upholds g s t) {l : Lsc} (sound : l.Sound g)
    (loads : g = .pool → ∀ n c, l.activity = .loading n c → t.spm.has n .load = true) : State.Upholds g s (t.withLsc l) :=
  { h with lsc := sound, loads := loads }

theorem State.Runs.withLsc (h : State.Runs g s t) {l : Lsc} (sound : l.Sound g) (live : g = .queue → l.mode ≠ .starting)
    (loads : g = .pool → ∀ n c, l.activity = .loading n c → t.spm.has n .load = true) : State.Runs g s (t.withLsc l) :=
  ⟨h.toUpholds.withLsc sound loads, live⟩

/-- A changed pool that stays whole, keeps LOAD and designates the same slots. -/
theorem State.Upholds.withSpm (h : State.Upholds g s t) {p : Spm} (whole : t.spm.whole → p.whole)
    (has : ∀ n k, k.designates = true ∨ k = .load → p.has n k = t.spm.has n k) : State.Upholds g s (t.withSpm p) :=
  { h with pool := fun e => whole (h.pool e), loads := fun g n c e => (has n .load (.inr rfl)).trans (h.loads g n c e),
           kinds := fun g n k e => (has n k (.inl e)).trans (h.kinds g n k e) }

theorem State.Runs.withSpm (h : State.Runs g s t) {p : Spm} (whole : t.spm.whole → p.whole)
    (has : ∀ n k, k.designates = true ∨ k = .load → p.has n k = t.spm.has n k) : State.Runs g s (t.withSpm p) :=
  ⟨h.toUpholds.withSpm whole has, h.live⟩

theorem State.Runs.raise (h : State.Runs g s t) (e : Event) : State.Runs g s (t.raise e) := h.same

theorem State.Runs.count (h : State.Runs g s t) (k : Counter) : State.Runs g s (t.count k) := h.same

theorem State.Runs.give (h : State.Runs g s t) (p : Port) (r : Completion) : State.Runs g s (t.give p r) := h.same

/-! ### The queue and its head -/

theorem State.Runs.setHead (h : State.Runs g s t) {j : Job} (hj : g = .store → j.Named) : State.Runs g s (t.setHead j) := by
  refine h.withLsc (h.lsc.withQueue h.live (fun e x hx => ?_) (fun e => ?_) h.lsc.tail) h.live h.loads
  · rcases List.mem_cons.mp hx with rfl | hx
    · exact hj e
    · exact h.lsc.named e x (List.mem_of_mem_tail hx)
  · have := h.lsc.few e
    simp only [List.length_cons, List.length_tail]
    omega

/-- A queue without some of its jobs. -/
theorem State.Runs.withQueue (h : State.Runs g s t) {q : List Job} (shorter : q.Sublist t.lsc.queue)
    (tail : ∀ j ∈ q.tail, j ∈ t.lsc.queue.tail) : State.Runs g s (t.withQueue q) :=
  h.withLsc (h.lsc.withQueue h.live (fun e j hj => h.lsc.named e j (shorter.subset hj)) (fun e => shorter.length_le.trans (h.lsc.few e))
    fun e j hj => h.lsc.tail e j (tail j hj)) h.live h.loads

theorem State.Runs.finishHead (h : State.Runs g s t) (r : Reason) : State.Runs g s (t.finishHead r) := by
  unfold State.finishHead
  split
  · exact h
  · next j rest e =>
    refine State.Runs.give (h.withQueue ?_ fun x hx => ?_) _ _
    · rw [e]; exact List.sublist_cons_self _ _
    · rw [e]; exact List.mem_of_mem_tail hx

theorem State.Runs.dropPin (h : State.Runs g s t) (j : Job) : State.Runs g s (t.dropPin j) := by
  unfold State.dropPin
  split
  · exact h
  · exact h.withSpm (fun w => Spm.whole_unpin w _) fun n k _ => Spm.has_unpin _

/-! ### Flash operations and catalogue writes -/

theorem State.Upholds.quiet (h : State.Upholds g s t) : State.Upholds g s t.quiet :=
  h.withLsc (h.lsc.keep (reading := fun _ e => nomatch e)) fun _ _ _ e => nomatch e

theorem State.Runs.quiet (h : State.Runs g s t) : State.Runs g s t.quiet := ⟨h.toUpholds.quiet, h.live⟩

/-- An operation issued for a user that is no recovery; a load's is issued on a slot that carries LOAD. -/
theorem State.Runs.issue (h : State.Runs g s t) (op : FlashOp) {a : Activity} (reading : ∀ r, a ≠ .recovering r)
    (loads : g = .pool → ∀ n c, a = .loading n c → t.spm.has n .load = true) : State.Runs g s (t.issue op a) :=
  h.withLsc (h.lsc.keep (reading := fun r e => absurd e (reading r))) h.live loads

theorem State.Upholds.attempt (h : State.Upholds g s t) {owner : WriteOwner} {image : CatalogueImage} {n block : Nat} {u : State}
    (hu : t.attempt owner image n block = some u) : State.Upholds g s u := by
  unfold State.attempt at hu
  split at hu
  · exact nomatch hu
  · cases hu
    exact h.withLsc (h.lsc.keep (reading := fun _ e => nomatch e)) fun _ _ _ e => nomatch e

theorem State.Runs.attempt (h : State.Runs g s t) {owner : WriteOwner} {image : CatalogueImage} {n block : Nat} {u : State}
    (hu : t.attempt owner image n block = some u) : State.Runs g s u := by
  refine ⟨h.toUpholds.attempt hu, ?_⟩
  unfold State.attempt at hu
  split at hu
  · exact nomatch hu
  · cases hu; exact h.live

theorem State.Upholds.readOnly (h : State.Upholds g s t) : State.Runs g s t.readOnly :=
  ⟨(h.withLsc (l := { t.quiet.lsc with mode := .readOnly }) (h.lsc.keep (mode := fun e => nomatch e) (reading := fun _ e => nomatch e))
    fun _ _ _ e => nomatch e).same, fun _ e => nomatch e⟩

theorem State.Upholds.written (h : State.Upholds g s t) (block : Nat) : State.Upholds g s (t.written block) :=
  (h.withLsc (l := { t.quiet.lsc with lastBlock := block, due := false }) (h.lsc.keep (reading := fun _ e => nomatch e))
    fun _ _ _ e => nomatch e).same

theorem State.Runs.withLessons (h : State.Runs g s t) {ls : List LessonRecord} (table : g = .store → TableSound ls t.lsc.retired) :
    State.Runs g s (t.withLsc (t.lsc.withLessons ls)) :=
  h.withLsc (h.lsc.withTable table) h.live h.loads

theorem State.Runs.writeLost (h : State.Runs g s t) (j : Job) : State.Runs g s (t.writeLost j).1 := by
  unfold State.writeLost
  split
  · split
    · exact h.dropPin j
    · exact (h.withLessons fun e => (h.lsc.table e).removeRecord _).dropPin j
  · exact h

theorem State.Runs.jobWrite (h : State.Runs g s t) {j : Job} (hj : g = .store → j.Named) : State.Runs g s (t.jobWrite j).1 := by
  have headed := h.setHead hj
  unfold State.jobWrite
  split
  · next u hu => exact headed.attempt hu
  · exact headed.readOnly.writeLost j

/-! ### STORE runs -/

theorem State.Runs.beginStore (h : State.Runs g s t) {j : Job} (hj : g = .store → j.Named) (lesson : Nat) (c : Capture) : State.Runs g s (t.beginStore j lesson c).1 := by
  unfold State.beginStore
  split
  · exact h.dropPin j
  next opened =>
  split
  · exact h.dropPin j
  next room =>
  split
  · exact h.dropPin j
  · next p free =>
    obtain ⟨below, fresh⟩ := freePlace_some free
    have table (e : g = .store) := (h.lsc.table e).appendRecord (r := c.record (freeSerial t.lsc.lessons t.lsc.nextSerial) p)
      (not_not.mp opened) (Nat.lt_of_not_le room) (freeSerial_fresh _ _ (by have := (h.lsc.table e).records_le; omega)) fresh below
    exact State.Runs.jobWrite (j := { j with state := .running, serial := _, stage := .record })
      (h.withLsc (l := { t.lsc.withLessons _ with nextSerial := _ }) (h.lsc.withTable table) h.live h.loads) hj

theorem State.dropPin_withLsc (t : State) (j : Job) (l : Lsc) : (t.dropPin j).withLsc l = (t.withLsc l).dropPin j := by
  unfold State.dropPin
  split <;> rfl

theorem State.Runs.endStore {j : Job} (hj : g = .store → j.Named) {q : Half} {r : Reason}
    (removed : State.Runs g s (t.withLsc (t.lsc.withLessons (removeRecord t.lsc.lessons q)))) : State.Runs g s (t.endStore j q r).1 := by
  unfold State.endStore
  rw [State.dropPin_withLsc]
  exact State.Runs.jobWrite (j := { j with pin := none, stage := .ending r }) (removed.dropPin j) hj

/-- The retired place leaves the store sound once the table does not name it. -/
theorem State.Runs.retired (h : State.Runs g s t) {p : Nat} {ls : List LessonRecord}
    (table : g = .store → TableSound ls (t.lsc.retired ++ [p])) :
    State.Runs g s (t.withLsc ((t.quiet.lsc.retire p).withLessons ls)) :=
  h.withLsc (h.lsc.withTable (m := (t.quiet.lsc.retire p).withLessons ls) table (reading := fun _ e => nomatch e)) h.live
    fun _ _ _ e => nomatch e

/-- A failed attempt on the place of the record that the job follows. -/
theorem State.Runs.attemptFailed (h : State.Runs g s t) {j : Job} (hj : g = .store → j.Named) {q : Half} {r : PageRecord}
    (hr : recordWith t.lsc.lessons q = some r) : State.Runs g s (t.attemptFailed j q r.place).1 := by
  have removed := h.retired fun e => (h.lsc.table e).retireRemoved hr
  unfold State.attemptFailed
  dsimp only
  split
  · split
    · exact State.Runs.endStore (t := ((t.quiet.withLsc (t.quiet.lsc.retire r.place)).raise .placeRetired).count .storeRetries)
        (j := { j with retries := j.retries + 1 }) hj (removed.same)
    · next n free =>
      have moved := h.retired fun e =>
        (h.lsc.table e).retireMoved hr (f := fun x => { x with place := n, crc := none }) free (fun _ => rfl) fun _ => rfl
      exact State.Runs.jobWrite (t := (((t.quiet.withLsc (t.quiet.lsc.retire r.place)).raise .placeRetired).count .storeRetries).withLsc _)
        (j := { j with retries := j.retries + 1, stage := .record }) (moved.same) hj
  · exact State.Runs.endStore (t := (t.quiet.withLsc (t.quiet.lsc.retire r.place)).raise .placeRetired) hj (removed.same)

theorem State.Runs.programImage (h : State.Runs g s t) (j : Job) (c : Capture) (p k : Nat) (crc : Quad) : State.Runs g s (t.programImage j c p k crc) :=
  h.issue _ (fun _ e => nomatch e) fun _ _ _ e => nomatch e

theorem State.Runs.programHeader (h : State.Runs g s t) (lesson : Nat) (r : PageRecord) (crc : Quad) : State.Runs g s (t.programHeader lesson r crc) :=
  (h.withLessons fun e => (h.lsc.table e).changeRecord r.serial (f := fun x => { x with crc := some (~~~ crc) }) fun _ => rfl).issue _ (fun _ e => nomatch e) fun _ _ _ e => nomatch e

theorem State.Runs.keep (h : State.Runs g s t) {j : Job} (hj : g = .store → j.Named) (q : Half) : State.Runs g s (t.keep j q).1 := by
  unfold State.keep
  rw [State.dropPin_withLsc]
  exact State.Runs.jobWrite (j := { j with pin := none, stage := .keep })
    ((h.quiet.withLessons fun e => (h.lsc.table e).changeRecord q (f := fun r => { r with state := .kept }) fun _ => rfl).dropPin j) hj

theorem State.Runs.erased (h : State.Runs g s t) {j : Job} (hj : g = .store → j.Named) (c : Capture) {r : PageRecord}
    (hr : recordWith t.lsc.lessons r.serial = some r) (k : Nat) (result : FlashResult) : State.Runs g s (t.erased j c r k result).1 := by
  unfold State.erased
  split
  · exact h.attemptFailed hj hr
  · split
    · exact h.issue _ (fun _ e => nomatch e) fun _ _ _ e => nomatch e
    · exact (h.setHead (j := { j with stage := .program }) hj).programImage _ _ _ _ _

theorem State.Runs.programmed (h : State.Runs g s t) {j : Job} (hj : g = .store → j.Named) (lesson : Nat) (c : Capture) {r : PageRecord}
    (hr : recordWith t.lsc.lessons r.serial = some r) (k : Nat) (crc : Quad) (result : FlashResult) :
    State.Runs g s (t.programmed j lesson c r k crc result).1 := by
  unfold State.programmed
  split
  · exact h.attemptFailed hj hr
  · split
    · exact (h.setHead (j := { j with stage := .readBack }) hj).issue _ (fun _ e => nomatch e) fun _ _ _ e => nomatch e
    · split
      · exact h.programImage _ _ _ _ _
      · exact h.programHeader _ _ _

theorem State.Runs.checked (h : State.Runs g s t) {j : Job} (hj : g = .store → j.Named) {r : PageRecord} (hr : recordWith t.lsc.lessons r.serial = some r)
    (c : PageCheck) (result : FlashResult) : State.Runs g s (t.checked j r c result).1 := by
  unfold State.checked
  dsimp only
  split
  · exact h.issue _ (fun _ e => nomatch e) fun _ _ _ e => nomatch e
  · split
    · exact h.keep hj _
    · exact h.attemptFailed hj hr

/-! ### RECALL and EXPORT runs -/

theorem State.Runs.testReserve (h : State.Runs g s t) {j : Job} (hj : g = .store → j.Named) (r : PageRecord) : State.Runs g s (t.testReserve j r) := by
  unfold State.testReserve
  split
  · next n free =>
    split
    · obtain ⟨hn, empty⟩ := Spm.lowestFree_some free
      set p := t.spm.take n .load (.storedPage (t.lsc.lessonOf r.serial) r.serial) (.stored []) with hp
      have has (m : Nat) (k : HolderKind) : p.has m k = if m = n then decide (k = .load) else t.spm.has m k := Spm.has_take _ _ hn
      have load : p.has n .load = true := by simp [has]
      have none (k : HolderKind) : t.spm.has n k = false := by simp [Spm.has, empty]
      have taken : State.Runs g s (t.withSpm p) := by
        refine ⟨{ h.toUpholds with pool := fun g => Spm.whole_take (h.pool g) _ (by simp), loads := fun g m c e => ?_,
                                   kinds := fun g m k e => ?_ }, h.live⟩
        · have old : t.spm.has m .load = true := h.loads g m c e
          show p.has m .load = true
          rw [has]; split <;> simp [old]
        · show p.has m k = s.spm.has m k
          rw [has, ← h.kinds g m k e]
          split
          · next hm =>
            have : k ≠ .load := by rintro rfl; simp [HolderKind.designates] at e
            rw [hm, none]; simpa using this
          · rfl
      exact (taken.setHead (j := { j with state := .running }) hj).issue _ (fun _ e => nomatch e)
        fun _ m c e => by cases e; exact load
    · exact h.setHead (j := { j with state := .waitSlot }) hj
  · exact h.setHead (j := { j with state := .waitSlot }) hj

theorem State.Runs.beginRecall (h : State.Runs g s t) {j : Job} (hj : g = .store → j.Named) : State.Runs g s (t.beginRecall j).1 := by
  unfold State.beginRecall
  split
  · exact h
  · exact h.testReserve hj _

theorem State.Runs.beginExport (h : State.Runs g s t) {j : Job} (hj : g = .store → j.Named) : State.Runs g s (t.beginExport j).1 := by
  unfold State.beginExport
  split
  · exact h
  split
  · exact h
  split
  · exact h.testReserve hj _
  · exact h

theorem State.Runs.damaged (h : State.Runs g s t) {j : Job} (hj : g = .store → j.Named) (n : Nat) (q : Half) : State.Runs g s (t.damaged j n q).1 := by
  have freed : State.Runs g s ((t.quiet.withSpm (t.spm.remove n .load)).withLsc
      (t.quiet.lsc.withLessons (changeRecord t.lsc.lessons q fun r => { r with state := .damaged }))) := by
    have table (e : g = .store) := (h.lsc.table e).changeRecord q (f := fun r => { r with state := .damaged }) fun _ => rfl
    refine ⟨{ h.toUpholds with lsc := h.lsc.withTable table (reading := fun _ e => (nomatch e)),
                               pool := fun g => Spm.whole_remove (h.pool g), loads := fun _ _ _ e => (nomatch e),
                               kinds := fun g m k e => ?_ }, h.live⟩
    show (t.spm.remove n .load).has m k = s.spm.has m k
    rw [Spm.has_remove, h.kinds g m k e, if_neg]
    rintro ⟨-, rfl⟩
    exact nomatch e
  unfold State.damaged
  dsimp only
  split
  · exact freed
  · exact freed.jobWrite hj

/-! ### Edits -/

theorem State.Runs.edited (h : State.Runs g s t) {j : Job} (hj : g = .store → j.Named) : State.Runs g s (t.edited j).1 := by
  unfold State.edited
  split
  · exact h.jobWrite (j := { j with state := .running }) hj
  · exact h

theorem State.Runs.beginEdit (h : State.Runs g s t) {j : Job} (hj : g = .store → j.Named) : State.Runs g s (t.beginEdit j).1 := by
  unfold State.beginEdit
  split
  · exact h
  · next ls e =>
    refine State.Runs.edited ?_ hj
    unfold Lsc.editLessons
    split
    · exact h
    · exact h.withLessons fun g => (h.lsc.table g).edit (hj g) e

theorem State.Runs.beginSave (h : State.Runs g s t) {j : Job} (hj : g = .store → j.Named) : State.Runs g s (t.beginSave j).1 :=
  State.Runs.edited (h.withLsc (l := { t.lsc with saved := t.settingsInForce, due := true }) h.lsc.keep h.live h.loads) hj

/-! ### The head of the queue -/

theorem State.Runs.beginRun (h : State.Runs g s t) {j : Job} (hj : g = .store → j.Named) : State.Runs g s (t.beginRun j).1 := by
  unfold State.beginRun
  split
  · exact h.dropPin j
  split
  · exact h.beginStore hj _ _
  · exact h.beginRecall hj
  · exact h.beginExport hj
  · exact h.beginSave hj
  · exact h.beginEdit hj

theorem State.Runs.advance (fuel : Nat) (h : State.Runs g s t) : State.Runs g s (State.advance fuel t) := by
  induction fuel generalizing t with
  | zero => exact h
  | succ fuel ih =>
    unfold State.advance
    split
    · exact h
    · next j rest e =>
      have begun := h.beginRun (j := j) fun g => h.lsc.named g j (by simp [e])
      split
      · next u hu => rw [hu] at begun; exact begun
      · next u r hu => rw [hu] at begun; exact ih (begun.finishHead r)

theorem State.Runs.runNext (h : State.Runs g s t) : State.Runs g s t.runNext := h.advance _

theorem State.Runs.endHead (h : State.Runs g s t) (r : Reason) : State.Runs g s (t.endHead r) := (h.finishHead r).runNext

theorem State.Runs.settleHead {x : State × Option Reason} (h : State.Runs g s x.1) : State.Runs g s (State.settleHead x) := by
  unfold State.settleHead
  split
  · exact h
  · exact h.endHead _

/-- Without a job nothing ends and nothing begins. -/
theorem State.endHead_nil (h : t.lsc.queue = []) (r : Reason) : t.endHead r = t := by
  have : t.finishHead r = t := by unfold State.finishHead; rw [h]
  unfold State.endHead State.runNext
  rw [this, h]; rfl

theorem State.runNext_nil (h : t.lsc.queue = []) : t.runNext = t := by
  unfold State.runNext; rw [h]; rfl

theorem State.Upholds.endHead (h : State.Upholds g s t) (r : Reason) : State.Upholds g s (t.endHead r) := by
  by_cases hq : t.lsc.queue = []
  · rw [State.endHead_nil hq]; exact h
  · exact ((h.runs hq).endHead r).toUpholds

theorem State.Upholds.runNext (h : State.Upholds g s t) : State.Upholds g s t.runNext := by
  by_cases hq : t.lsc.queue = []
  · rw [State.runNext_nil hq]; exact h
  · exact (h.runs hq).runNext.toUpholds

theorem State.Runs.enqueue (h : State.Runs g s t) {j : Job} (hj : g = .store → j.Named) (queued : j.state = .queued)
    (room : t.lsc.queue.length < 16) : State.Runs g s (t.enqueue j) := by
  unfold State.enqueue
  split
  · refine State.Runs.runNext (h.withLsc (h.lsc.withQueue h.live (fun e x hx => ?_) (by simp) (by simp)) h.live h.loads)
    rw [List.mem_singleton.mp hx]; exact hj e
  · refine h.withLsc (h.lsc.withQueue h.live (fun e x hx => ?_) (fun _ => by simp; omega) fun e x hx => ?_) h.live h.loads
    · rcases List.mem_append.mp hx with hx | hx
      · exact h.lsc.named e x hx
      · rw [List.mem_singleton.mp hx]; exact hj e
    · cases hq : t.lsc.queue with
      | nil => simp [hq] at hx
      | cons y rest =>
        rw [hq, List.cons_append, List.tail_cons] at hx
        rcases List.mem_append.mp hx with hx | hx
        · exact h.lsc.tail e x (by rw [hq]; exact hx)
        · rw [List.mem_singleton.mp hx]; exact queued

theorem State.Runs.acceptStore (h : State.Runs g s t) (hd : CmdHeader) (k : CropAsked) (room : t.lsc.queue.length < 16) :
    State.Runs g s (t.acceptStore hd k) := by
  have pinned : State.Runs g s (t.pinLatest { port := hd.port, marker := hd.marker }) := by
    unfold State.pinLatest
    split
    · exact h
    · next n hn =>
      exact h.withSpm (fun w => Spm.whole_pin w _ (Holders.ne_of_has (Spm.find_some hn).2.1)) fun m k _ => Spm.has_pin _
  refine pinned.enqueue (fun _ _ _ e => nomatch e) rfl ?_
  have : (t.pinLatest { port := hd.port, marker := hd.marker }).lsc = t.lsc := by unfold State.pinLatest; split <;> rfl
  rw [this]; exact room

theorem State.Runs.removeJob (h : State.Runs g s t) (n : Nat) (j : Job) : State.Runs g s (t.removeJob n j) := by
  have gone : State.Runs g s (((t.withQueue (t.lsc.queue.eraseIdx n)).dropPin j).give j.port (j.record .withdrawn .noReason t.siu.frameNumber)) := by
    refine State.Runs.give (State.Runs.dropPin (h.withQueue (List.eraseIdx_sublist _ _) fun x hx => ?_) j) _ _
    cases hq : t.lsc.queue with
    | nil => simp [hq] at hx
    | cons y rest =>
      rw [hq] at hx
      cases n with
      | zero => exact List.mem_of_mem_tail hx
      | succ n => exact (List.eraseIdx_sublist _ _).subset hx
  unfold State.removeJob
  dsimp only
  split
  · exact gone.runNext
  · exact gone

theorem State.Runs.withdrawAt (h : State.Runs g s t) (n : Nat) : State.Runs g s (t.withdrawAt n).1 := by
  unfold State.withdrawAt
  split
  · exact h
  · next j hj =>
    split
    · refine h.withLsc (h.lsc.withQueue h.live (fun e x hx => ?_) (fun e => by simpa using h.lsc.few e) fun e x hx => ?_) h.live h.loads
      · rcases List.mem_or_eq_of_mem_set hx with hx | rfl
        · exact h.lsc.named e x hx
        · exact h.lsc.named e j (List.mem_of_getElem? hj)
      · cases hq : t.lsc.queue with
        | nil => simp [hq] at hj
        | cons y rest =>
          have queued : ∀ z ∈ rest, z.state = .queued := fun z hz => h.lsc.tail e z (by rw [hq]; exact hz)
          cases n with
          | zero => simp only [hq, List.set_cons_zero, List.tail_cons] at hx; exact queued x hx
          | succ n =>
            simp only [hq, List.set_cons_succ, List.tail_cons] at hx
            rw [hq, List.getElem?_cons_succ] at hj
            rcases List.mem_or_eq_of_mem_set hx with hx | rfl
            · exact queued x hx
            · exact queued j (List.mem_of_getElem? hj)
    · exact h.removeJob n j

end Upholds
end Sys2Proof.Machine

namespace Sys2Proof.Machine

/-! ### The feed link's work upholds the same (07) -/

section Upholds
variable {g : UpheldPart} {s t : State}

/-- What the feed link's work does without touching store or pool. -/
theorem State.Upholds.fed {u : State} (h : State.Upholds g s t) (f : t.Fed u) (lsc : u.lsc = t.lsc := by simp) (spm : u.spm = t.spm := by simp) :
    State.Upholds g s u :=
  h.same lsc spm (by rw [f.vwc]) (by rw [f.vwc]) (by rw [f.dou]) (by rw [f.dou])

/-- A removal of a kind that designates no slot and is no LOAD. -/
theorem State.Upholds.removeKind (h : State.Upholds g s t) {k : HolderKind} (hk : k.designates = false) (load : k ≠ .load) :
    State.Upholds g s (t.withSpm (t.spm.removeKind k)) := by
  refine h.withSpm Spm.whole_removeKind fun n j hj => Spm.has_removeKind_other ?_
  rintro rfl
  rcases hj with e | e
  · rw [hk] at e; exact nomatch e
  · exact load e

theorem State.Upholds.endExport (h : State.Upholds g s t) (r : Reason) : State.Upholds g s (t.endExport r) := by
  unfold State.endExport
  split
  · exact h
  · exact State.Upholds.endHead (State.Upholds.removeKind (t := t.withFlc _) h.same (k := .exported) rfl (by decide)) r

theorem State.Upholds.leaveUp (h : State.Upholds g s t) (a : Agreement) : State.Upholds g s (t.leaveUp a) := by
  have counted : State.Upholds g s (t.countDropped) := h.fed t.fed_countDropped
    (by unfold State.countDropped; split <;> (try split) <;> simp) (by unfold State.countDropped; split <;> (try split) <;> simp)
  exact State.Upholds.endExport (State.Upholds.removeKind (t := t.countDropped.withFlc _) counted.same (k := .feed) rfl (by decide)) _

theorem State.Upholds.takeOffer (h : State.Upholds g s t) (o : BaseOffer) : State.Upholds g s (t.takeOffer o) := h.fed (t.fed_takeOffer o)

theorem State.Upholds.feedFault (h : State.Upholds g s t) : State.Upholds g s t.feedFault := by
  unfold State.feedFault
  dsimp only
  split
  · exact (h.leaveUp .feedDown).same
  · exact h.same

theorem State.Upholds.baseOffer (h : State.Upholds g s t) (o : BaseOffer) : State.Upholds g s (t.baseOffer o) := by
  have answered : State.Upholds g s (if o.fault = .noFault then t.takeOffer o else t.feedFault) := by
    split
    · exact h.takeOffer o
    · exact h.feedFault
  unfold State.baseOffer
  split
  · exact h
  · exact h
  · exact answered
  · exact answered
  · split
    · unfold State.offerAgain
      split
      · exact State.Upholds.fed (t := t.withFlc _) h.same (State.fed_baseComplete _)
      · exact h.takeOffer o
    · exact h.feedFault
  · split
    · split
      · exact State.Upholds.takeOffer (t := State.withFlc (State.raise _ _) _) (h.leaveUp .ackSeen).same o
      · exact h
    · exact h.feedFault

theorem State.Upholds.notePage (h : State.Upholds g s t) (p : NotePage) : State.Upholds g s (t.notePage p) := by
  unfold State.notePage
  split
  · split
    · exact h.fed t.fed_repeatNote
    · exact h.fed (t.fed_newNote p)
  all_goals exact h

theorem State.Upholds.pageExpired (h : State.Upholds g s t) : State.Upholds g s t.pageExpired := by
  refine h.fed t.fed_pageExpired ?_ ?_
  all_goals unfold State.pageExpired; dsimp only; split <;> simp

theorem State.Upholds.startFeedFrame (h : State.Upholds g s t) : State.Upholds g s t.startFeedFrame := by
  unfold State.startFeedFrame
  split
  · split
    · exact h.same
    · next n f _ e =>
      have latest : t.spm.find .latest = some n := by
        unfold State.newerFrame at e
        split at e
        · next hn _ =>
          split at e
          · cases e; exact hn
          · exact nomatch e
        · exact nomatch e
      obtain ⟨hn, hk, -⟩ := Spm.find_some latest
      refine State.Upholds.withSpm (t := t.withFlc _) h.same (fun w => Spm.whole_place w (Holders.ne_of_has hk)) fun m k hk => ?_
      refine (Spm.has_place (p := t.spm) hn).trans (if_neg ?_)
      rintro ⟨-, rfl⟩
      simp [HolderKind.designates] at hk
    · exact h
  · exact h

theorem State.Upholds.produceLine (h : State.Upholds g s t) : State.Upholds g s t.produceLine := by
  unfold State.produceLine
  split
  · exact h
  · split
    · dsimp only
      split
      · exact State.Upholds.removeKind (t := t.withFlc _) h.same (k := .feed) rfl (by decide)
      · exact h.same
    · exact h

theorem State.Upholds.endKind (h : State.Upholds g s t) (k : FeedKind) (r : Reason) : State.Upholds g s (t.endKind k r) := by
  unfold State.endKind
  split
  · exact h
  · exact h.endExport r

theorem State.Upholds.sendLine (h : State.Upholds g s t) (f : FeedFrame) (l : FeedLine) (rest : List FeedLine) :
    State.Upholds g s (t.sendLine f l rest) := by
  have started : State.Upholds g s (t.sendStart f) := h.fed (t.fed_sendStart f)
  have sent : State.Upholds g s (((t.sendStart f).withFlc { t.flc with buffer := rest, frame := some (f.afterSent rest.length) }).sendPacket (.feedLine l)) :=
    started.same
  unfold State.sendLine
  dsimp only
  split
  · exact State.Upholds.endKind (t := State.count (State.frameOver _) _) sent.same _ _
  · exact sent

theorem State.Upholds.lineGoes (h : State.Upholds g s t) : State.Upholds g s t.lineGoes := by
  unfold State.lineGoes
  split
  · split
    · exact h.sendLine _ _ _
    · exact h
  · exact h

theorem State.Upholds.sendCutEnd (h : State.Upholds g s t) : State.Upholds g s t.sendCutEnd := by
  unfold State.sendCutEnd
  split
  · exact h
  · next f _ =>
    have started : State.Upholds g s (t.sendStart f) := h.fed (t.fed_sendStart f)
    split
    · exact State.Upholds.endKind (t := State.frameOver _) started.same _ _
    · exact h

theorem State.Upholds.cutFrame (h : State.Upholds g s t) : State.Upholds g s t.cutFrame := by
  unfold State.cutFrame
  split
  · exact h
  · next f _ =>
    have cut : State.Upholds g s ((t.withFlc { t.flc with buffer := [], frame := some { f with cut := true }, allowanceTimer := none }).withSpm
        (t.spm.removeKind .feed)) :=
      State.Upholds.removeKind (t := t.withFlc _) h.same (k := .feed) rfl (by decide)
    exact State.Upholds.sendCutEnd (t := State.count _ _) cut.same

theorem State.Upholds.servePages (h : State.Upholds g s t) : State.Upholds g s t.servePages := h.fed t.fed_servePages

theorem State.Upholds.serveFeed (h : State.Upholds g s t) : State.Upholds g s t.serveFeed := h.servePages.sendCutEnd

theorem State.Upholds.releaseHold (h : State.Upholds g s t) : State.Upholds g s t.releaseHold := State.Upholds.sendCutEnd (t := t.withFlc _) h.same

theorem State.Upholds.takeHold (h : State.Upholds g s t) (d : Half) : State.Upholds g s (t.takeHold d) := by
  unfold State.takeHold
  split
  · exact h.releaseHold
  · exact h.same

theorem State.Upholds.intervalExpired (h : State.Upholds g s t) : State.Upholds g s t.intervalExpired := by
  unfold State.intervalExpired
  split
  · exact h.same
  · exact h.same

theorem State.Upholds.restartFeed (h : State.Upholds g s t) : State.Upholds g s t.restartFeed := by
  unfold State.restartFeed
  dsimp only
  split
  · exact State.Upholds.fed (t := State.withFlc _ _) (h.leaveUp .offering).same (State.fed_beginAgreement _)
  · exact State.Upholds.fed (t := State.withFlc _ _) h.same (State.fed_beginAgreement _)

end Upholds

/-! ### Store, queue and pool (08 R124 to R127; 09 R137; 04 R47 to R60) -/

/-- What the pool is held to besides its slots: one LATEST slot, and the designated slots are the ones named. -/
structure State.Designated (s : State) : Prop where
  latest : ∀ m n, s.spm.has m .latest = true → s.spm.has n .latest = true → m = n
  freeze : ∀ n, s.spm.has n .freeze = true ↔ s.vwc.freeze = some n
  page : ∀ n, s.spm.has n .page = true ↔ s.vwc.page.map (·.slot) = some n
  left : ∀ n, s.spm.has n .displayLeft = true ↔ latchSlot s.dou.left = some n
  right : ∀ n, s.spm.has n .displayRight = true ↔ latchSlot s.dou.right = some n

/-- The store, the queue or the pool is sound. -/
structure State.Kept (g : UpheldPart) (s : State) : Prop where
  upholds : State.Upholds g s s
  designated : g = .pool → s.Designated

theorem State.Upholds.kept {g : UpheldPart} {s t : State} (h : State.Upholds g s t) (hs : s.Kept g) : t.Kept g := by
  refine ⟨⟨h.lsc, h.pool, h.loads, fun _ _ _ _ => rfl, rfl, rfl, rfl, rfl⟩, fun e => ?_⟩
  have d := hs.designated e
  have kinds := h.kinds e
  refine ⟨?_, ?_, ?_, ?_, ?_⟩
  · intro m n; rw [kinds m _ rfl, kinds n _ rfl]; exact d.latest m n
  · intro n; rw [kinds n _ rfl, h.freeze]; exact d.freeze n
  · intro n; rw [kinds n _ rfl, h.page]; exact d.page n
  · intro n; rw [kinds n _ rfl, h.left]; exact d.left n
  · intro n; rw [kinds n _ rfl, h.right]; exact d.right n

theorem State.storeSound_iff_kept (s : State) : s.storeSound ↔ s.Kept .store := by
  constructor
  · rintro ⟨lessons, places, found, named⟩
    exact ⟨⟨⟨fun _ => (tableSound_iff _ _).mpr ⟨lessons, places⟩, fun _ => found, fun _ => named, nofun, nofun, nofun⟩, nofun, nofun,
      nofun, rfl, rfl, rfl, rfl⟩, nofun⟩
  · intro h
    obtain ⟨lessons, places⟩ := (tableSound_iff _ _).mp (h.upholds.lsc.table rfl)
    exact ⟨lessons, places, h.upholds.lsc.found rfl, h.upholds.lsc.named rfl⟩

theorem State.queueSound_iff_kept (s : State) : s.queueSound ↔ s.Kept .queue := by
  constructor
  · rintro ⟨few, tail, starting⟩
    exact ⟨⟨⟨nofun, nofun, nofun, fun _ => few, fun _ => tail, fun _ => starting⟩, nofun, nofun, nofun, rfl, rfl, rfl, rfl⟩, nofun⟩
  · intro h
    exact ⟨h.upholds.lsc.few rfl, h.upholds.lsc.tail rfl, h.upholds.lsc.starting rfl⟩

theorem State.poolSound_iff_kept (s : State) : s.poolSound ↔ s.Kept .pool := by
  constructor
  · rintro ⟨length, content, latest, loads, freeze, page, left, right⟩
    exact ⟨⟨⟨nofun, nofun, nofun, nofun, nofun, nofun⟩, fun _ => ⟨length, content⟩, fun _ => loads, fun _ _ _ _ => rfl, rfl, rfl, rfl, rfl⟩,
      fun _ => ⟨latest, freeze, page, left, right⟩⟩
  · intro h
    obtain ⟨latest, freeze, page, left, right⟩ := h.designated rfl
    obtain ⟨length, content⟩ := h.upholds.pool rfl
    exact ⟨length, content, latest, h.upholds.loads rfl, freeze, page, left, right⟩

section Kept
variable {g : UpheldPart} {s : State}

theorem State.Designated.one (d : s.Designated) {k : HolderKind} (hk : k.designates = true) :
    ∀ m n, s.spm.has m k = true → s.spm.has n k = true → m = n := by
  intro m n hm hn
  cases k
  case latest => exact d.latest m n hm hn
  case freeze => exact Option.some.inj (((d.freeze m).mp hm).symm.trans ((d.freeze n).mp hn))
  case page => exact Option.some.inj (((d.page m).mp hm).symm.trans ((d.page n).mp hn))
  case displayLeft => exact Option.some.inj (((d.left m).mp hm).symm.trans ((d.left n).mp hn))
  case displayRight => exact Option.some.inj (((d.right m).mp hm).symm.trans ((d.right n).mp hn))
  all_goals exact nomatch hk

/-- A state whose designated slots differ from a kept state's only as its new view record and latches say. -/
theorem State.Kept.change {t : State} (h : s.Kept g) (lsc : t.lsc = s.lsc)
    (pool : s.spm.whole → s.Designated → t.spm.whole ∧ (∀ n, t.spm.has n .load = s.spm.has n .load) ∧ t.Designated) : t.Kept g := by
  have changed (e : g = .pool) := pool (h.upholds.pool e) (h.designated e)
  refine ⟨⟨lsc ▸ h.upholds.lsc, fun e => (changed e).1, fun e n c a => ?_, fun _ _ _ _ => rfl, rfl, rfl, rfl, rfl⟩, fun e => (changed e).2.2⟩
  obtain ⟨-, load, -⟩ := changed e
  rw [load]
  exact h.upholds.loads e n c (lsc ▸ a)

end Kept
end Sys2Proof.Machine

namespace Sys2Proof.Machine

/-! ### The view's, the output's and the intake's work on the pool (04 R51 to R55) -/

section Kept
variable {g : UpheldPart} {s : State}

/-- What changes neither store nor pool, nor what names a slot. -/
theorem State.Kept.same {t : State} (h : s.Kept g) (lsc : t.lsc = s.lsc := by rfl) (spm : t.spm = s.spm := by rfl)
    (freeze : t.vwc.freeze = s.vwc.freeze := by rfl) (page : t.vwc.page = s.vwc.page := by rfl)
    (left : t.dou.left = s.dou.left := by rfl) (right : t.dou.right = s.dou.right := by rfl) : t.Kept g :=
  (h.upholds.same lsc spm freeze page left right).kept h

theorem State.Kept.viewChanged (h : s.Kept g) : s.viewChanged.Kept g := h.same

theorem State.Kept.endWatch (h : s.Kept g) (e : Ending) : (s.endWatch e).Kept g := by
  unfold State.endWatch
  split
  · exact h
  · exact h.same

theorem State.Kept.freeze (h : s.Kept g) {n : Nat} (latest : s.spm.find .latest = some n) : (s.freeze n).Kept g := by
  obtain ⟨hn, hk, -⟩ := Spm.find_some latest
  refine h.change rfl fun whole d => ?_
  have has (m : Nat) (k : HolderKind) : (s.spm.move .freeze (some n)).has m k = if k = .freeze then decide (some n = some m) else s.spm.has m k :=
    Spm.has_move (d.one rfl) fun m e => by cases e; exact hn
  refine ⟨Spm.whole_move whole fun m e => ?_, fun m => has m .load, ?_, ?_, ?_, ?_, ?_⟩
  · cases e; exact Holders.ne_of_has hk
  · intro m k; show (s.spm.move .freeze (some n)).has m _ = true → _; simpa [State.freeze, has] using d.latest m k
  · intro m; simp [State.freeze, has]
  · intro m; simpa [State.freeze, has] using d.page m
  · intro m; simpa [State.freeze, has] using d.left m
  · intro m; simpa [State.freeze, has] using d.right m

theorem State.Kept.unfreeze (h : s.Kept g) : s.unfreeze.Kept g := by
  unfold State.unfreeze
  split
  · exact h
  · next n frozen =>
    refine h.change rfl fun whole d => ?_
    have has (m : Nat) (k : HolderKind) : (s.spm.remove n .freeze).has m k = if m = n ∧ k = .freeze then false else s.spm.has m k :=
      Spm.has_remove
    refine ⟨Spm.whole_remove whole, fun m => by simp [has], ?_, ?_, ?_, ?_, ?_⟩
    · intro m k; simpa [has] using d.latest m k
    · intro m
      have := d.freeze m
      rw [frozen] at this
      simp only [State.withVwc_spm, State.withSpm_spm, State.withVwc_vwc, has]
      split
      · simp
      · next e => simp only [and_true] at e; simp [this, Ne.symm e]
    · intro m; simpa [has] using d.page m
    · intro m; simpa [has] using d.left m
    · intro m; simpa [has] using d.right m

theorem State.Kept.showLive (h : s.Kept g) : s.showLive.Kept g := by
  unfold State.showLive
  split
  · exact h
  · next p shown =>
    refine h.change rfl fun whole d => ?_
    have has (m : Nat) (k : HolderKind) : (s.spm.remove p.slot .page).has m k = if m = p.slot ∧ k = .page then false else s.spm.has m k :=
      Spm.has_remove
    refine ⟨Spm.whole_remove whole, fun m => by simp [has], ?_, ?_, ?_, ?_, ?_⟩
    · intro m k; simpa [has] using d.latest m k
    · intro m; simpa [has] using d.freeze m
    · intro m
      have := d.page m
      rw [shown] at this
      simp only [State.withVwc_spm, State.withSpm_spm, State.withVwc_vwc, has]
      split
      · simp
      · next e => simp only [and_true] at e; simp [this, Ne.symm e]
    · intro m; simpa [has] using d.left m
    · intro m; simpa [has] using d.right m

theorem State.Kept.restartOutput (h : s.Kept g) : s.restartOutput.Kept g := by
  refine h.change rfl fun whole d => ?_
  have spm : s.restartOutput.spm = (s.spm.removeKind .displayLeft).removeKind .displayRight := rfl
  have other {m : Nat} (k : HolderKind) (hl : k ≠ .displayLeft) (hr : k ≠ .displayRight) : s.restartOutput.spm.has m k = s.spm.has m k := by
    rw [spm, Spm.has_removeKind_other hr, Spm.has_removeKind_other hl]
  have left (m : Nat) : s.restartOutput.spm.has m .displayLeft = false := by
    rw [spm, Spm.has_removeKind_other (by decide)]
    exact Spm.has_removeKind (d.one rfl)
  have right (m : Nat) : s.restartOutput.spm.has m .displayRight = false := by
    rw [spm]
    refine Spm.has_removeKind fun m n hm hn => ?_
    rw [Spm.has_removeKind_other (by decide)] at hm hn
    exact d.one rfl m n hm hn
  refine ⟨Spm.whole_removeKind (Spm.whole_removeKind whole), fun m => other .load (by decide) (by decide), ?_, ?_, ?_, ?_, ?_⟩
  · intro m k
    rw [other .latest (by decide) (by decide), other .latest (by decide) (by decide)]
    exact d.latest m k
  · intro m
    rw [other .freeze (by decide) (by decide)]
    exact d.freeze m
  · intro m
    rw [other .page (by decide) (by decide)]
    exact d.page m
  · intro m
    rw [left]; exact ⟨nofun, nofun⟩
  · intro m
    rw [right]; exact ⟨nofun, nofun⟩

/-- The slot that a pane is latched from carries a holder: LATEST, FREEZE or PAGE. -/
theorem State.Designated.liveLatch_held (d : s.Designated) {n : Nat} (e : s.liveLatch.slot = some n) : (s.spm.slot n).holders ≠ noHolders := by
  unfold State.liveLatch at e
  split at e
  · next frozen => cases e; exact Holders.ne_of_has ((d.freeze _).mpr frozen)
  · next latest => cases e; exact Holders.ne_of_has (Spm.find_some latest).2.1
  · exact nomatch e

theorem State.Designated.page_held (d : s.Designated) {p : PageShown} (shown : s.vwc.page = some p) : (s.spm.slot p.slot).holders ≠ noHolders :=
  Holders.ne_of_has ((d.page p.slot).mpr (by rw [shown]; rfl))

theorem State.Designated.leftLatch_held (d : s.Designated) {n : Nat} (e : s.leftLatch.slot = some n) : (s.spm.slot n).holders ≠ noHolders := by
  unfold State.leftLatch at e
  split at e
  · exact nomatch e
  split at e
  · next shown => cases e; exact d.page_held shown
  · exact d.liveLatch_held e
  · exact d.liveLatch_held e

theorem State.Designated.rightLatch_held (d : s.Designated) {n : Nat} (e : latchSlot s.rightLatch = some n) : (s.spm.slot n).holders ≠ noHolders := by
  unfold State.rightLatch at e
  split at e
  · exact nomatch e
  split at e
  · exact nomatch e
  split at e
  · next shown => cases e; exact d.page_held shown
  · exact nomatch e

theorem State.Kept.latchPanes (h : s.Kept g) : s.latchPanes.Kept g := by
  refine h.change rfl fun whole d => ?_
  have hl (n : Nat) (e : s.leftLatch.slot = some n) := Spm.lt_of_ne (d.leftLatch_held e)
  have hr (n : Nat) (e : latchSlot s.rightLatch = some n) := Spm.lt_of_ne (d.rightLatch_held e)
  set p := s.spm.move .displayLeft s.leftLatch.slot with hp
  have hasP (m : Nat) (k : HolderKind) : p.has m k = if k = .displayLeft then decide (s.leftLatch.slot = some m) else s.spm.has m k :=
    Spm.has_move (d.one rfl) hl
  have one : ∀ m n, p.has m .displayRight = true → p.has n .displayRight = true → m = n := by
    intro m n; simpa [hasP] using d.one (k := .displayRight) rfl m n
  have len : p.slots.length = s.spm.slots.length := Spm.length_move _ _ _
  have has (m : Nat) (k : HolderKind) : (p.move .displayRight (latchSlot s.rightLatch)).has m k =
      if k = .displayRight then decide (latchSlot s.rightLatch = some m) else p.has m k :=
    Spm.has_move one fun n e => len ▸ hr n e
  have wholeP : p.whole := Spm.whole_move whole fun n e => d.leftLatch_held e
  have held : ∀ n, latchSlot s.rightLatch = some n → (p.slot n).holders ≠ noHolders := by
    intro n e
    obtain ⟨q, shown⟩ : ∃ q, s.vwc.page = some q ∧ q.slot = n := by
      unfold State.rightLatch at e
      split at e
      · exact nomatch e
      split at e
      · exact nomatch e
      split at e
      · next q shown => cases e; exact ⟨q, shown, rfl⟩
      · exact nomatch e
    have : p.has n .page = true := by
      rw [hasP, if_neg (by decide)]
      exact (d.page n).mpr (by rw [shown.1]; exact congrArg some shown.2)
    exact Holders.ne_of_has this
  have spm : s.latchPanes.spm = p.move .displayRight (latchSlot s.rightLatch) := rfl
  refine ⟨Spm.whole_move wholeP held, fun m => ?_, ?_, ?_, ?_, ?_, ?_⟩
  · rw [spm, has, hasP]; rfl
  · intro m k
    rw [spm, has, has, hasP, hasP]; exact d.latest m k
  · intro m
    rw [spm, has, hasP]; exact d.freeze m
  · intro m
    rw [spm, has, hasP]; exact d.page m
  · intro m
    rw [spm, has, hasP]
    simp [State.latchPanes, latchSlot]
  · intro m
    rw [spm, has]
    simp [State.latchPanes]

theorem State.Kept.frameStarts (h : s.Kept g) : s.frameStarts.Kept g := by
  have glided : s.glide.Kept g := by
    unfold State.glide
    split
    · exact h
    · exact h.same
  have tested : s.glide.testWatch.Kept g := by
    unfold State.testWatch
    split
    · exact glided.endWatch _
    · exact glided
  unfold State.frameStarts
  split
  · exact h.same
  split
  · exact h
  · exact tested.latchPanes

/-- A removal or a placing that concerns no designated slot and no LOAD. -/
theorem State.Kept.withSpm (h : s.Kept g) {p : Spm} (whole : s.spm.whole → p.whole)
    (has : ∀ n k, k.designates = true ∨ k = .load → p.has n k = s.spm.has n k) : (s.withSpm p).Kept g :=
  (h.upholds.withSpm whole has).kept h

theorem State.Kept.breakFrame (h : s.Kept g) : s.breakFrame.Kept g := by
  have removed : (s.withSpm (s.spm.removeKind .intake)).Kept g := (h.upholds.removeKind rfl (by decide)).kept h
  exact removed.same

theorem State.Kept.frameStart (h : s.Kept g) : s.endFrameInProgress.openFrame.askSlot.Kept g := by
  have ended : s.endFrameInProgress.Kept g := by
    unfold State.endFrameInProgress
    split
    case h_2 => exact h.breakFrame
    case h_5 => exact h.same
    all_goals exact h
  have opened : s.endFrameInProgress.openFrame.Kept g := ended.same
  generalize s.endFrameInProgress.openFrame = t at opened
  unfold State.askSlot
  split
  · next n free =>
    obtain ⟨hn, empty⟩ := Spm.lowestFree_some free
    refine State.Kept.same (s := t.withSpm _) (opened.withSpm (fun w => Spm.whole_take (k := .intake) (c := .liveFrame t.siu.frameNumber) w (.live []) nofun) fun m k hk => ?_)
    · rw [Spm.has_take _ _ hn]
      split
      · next e =>
        have : k ≠ .intake := by rintro rfl; simp [HolderKind.designates] at hk
        rw [e]; simp [this, Spm.has, empty]
      · rfl
  · exact opened.same

theorem State.Kept.finish (h : s.Kept g) (y : Nat) (above mid below : List PixelClock) : (s.finish y above mid below).Kept g := by
  unfold State.finish
  split
  · exact h
  · exact h.withSpm (fun w => Spm.whole_draw w _) fun n k _ => Spm.has_draw _

theorem State.Kept.enhanceAccepted (h : s.Kept g) (y : Nat) (line : List PixelClock) : (s.enhanceAccepted y line).Kept g := by
  have held : (s.withPeu { s.peu with lineStore := storeLine s.peu.lineStore line }).Kept g := h.same
  unfold State.enhanceAccepted
  dsimp only
  split
  · exact held.finish _ _ _ _
  · exact held.finish _ _ _ _
  · exact held

theorem State.Kept.lineEnd (h : s.Kept g) (line : List PixelClock) : (s.lineEnd line).Kept g := by
  have gathered : (s.withTsu (s.tsu.gather s.siu.lines line)).Kept g := h.same
  unfold State.lineEnd
  split
  · split
    · exact (gathered.enhanceAccepted _ _).same
    · exact h.breakFrame.same
  all_goals exact h

theorem State.Kept.moveLatest (h : s.Kept g) : s.moveLatest.Kept g := by
  unfold State.moveLatest
  split
  · exact h
  · next n found =>
    obtain ⟨hn, hk, -⟩ := Spm.find_some found
    refine h.change rfl fun whole d => ?_
    have has (m : Nat) (k : HolderKind) : (s.spm.succeed n .intake .latest).has m k =
        if k = .latest then decide (m = n) else if m = n ∧ k = .intake then false else s.spm.has m k :=
      Spm.has_succeed (by decide) (d.one rfl) hn
    refine ⟨Spm.whole_succeed whole (Holders.ne_of_has hk), fun m => by simp [has], ?_, ?_, ?_, ?_, ?_⟩
    · intro m k hm hk
      simp only [State.withSpm_spm, has, if_pos, decide_eq_true_eq] at hm hk
      rw [hm, hk]
    · intro m; simpa [has] using d.freeze m
    · intro m; simpa [has] using d.page m
    · intro m; simpa [has] using d.left m
    · intro m; simpa [has] using d.right m

theorem State.Kept.goodFrame (h : s.Kept g) : s.goodFrame.Kept g := by
  have last : s.enhanceLast.Kept g := by
    unfold State.enhanceLast
    split
    · exact h.finish _ _ _ _
    · exact h
  have settled : ((s.enhanceLast.moveLatest).count .framesIn).settle.Kept g := by
    unfold State.settle
    split
    · exact last.moveLatest.same
    · exact last.moveLatest.same
  unfold State.goodFrame State.boxNotice
  split
  · exact settled.same
  · exact settled.same

theorem State.Kept.frameEnd (h : s.Kept g) : s.frameEnd.Kept g := by
  unfold State.frameEnd
  split
  · split
    · exact h.goodFrame
    · exact h.breakFrame.same
  case h_2 | h_3 => exact h.same
  all_goals exact h

theorem State.Kept.signalLost (h : s.Kept g) : s.signalLost.Kept g := by
  have broken : (if s.siu.intake = .receiving then s.breakFrame else s).Kept g := by
    split
    · exact h.breakFrame
    · exact h
  exact broken.same

/-! ### Commands -/

theorem State.Kept.runs (h : s.Kept g) (mode : g = .queue → s.lsc.mode ≠ .starting) : State.Runs g s s := ⟨h.upholds, mode⟩

theorem State.Worked.keeps_kept {u : State} {p : Port} (hw : s.Worked p u) (h : s.Kept g) : u.Kept g := by
  cases hw
  case nothing => exact h
  case aimed => exact State.Kept.viewChanged h.same
  case zoomed => exact State.Kept.viewChanged (h.endWatch .superseded).same
  case fitted => exact State.Kept.viewChanged (h.endWatch .superseded).same
  case frozen n latest => exact (h.freeze latest).viewChanged
  case unfrozen => exact h.unfreeze.viewChanged
  case laidOut => exact State.Kept.viewChanged h.same
  case shownLive => exact h.showLive.viewChanged
  case glideSet => exact State.Kept.viewChanged h.same
  case outputRestarted => exact h.restartOutput
  case stored hd k mode room => exact ((h.runs fun _ => mode).acceptStore hd k room).toUpholds.kept h
  case queued hd task serial mode room names _ => exact ((h.runs fun _ => mode).enqueue (j := newJob hd task serial none) (fun _ => names) rfl room).toUpholds.kept h
  case withdrawn n mode => exact ((h.runs fun _ => mode).withdrawAt n).toUpholds.kept h
  case retryLimitSet n _ =>
    exact (h.upholds.withLsc (l := { s.lsc with retryLimit := n }) h.upholds.lsc.keep h.upholds.loads).kept h
  case reachSet room _ _ _ => cases room <;> exact h.same
  all_goals exact h.same

/-! ### Recovery, catalogue writes and loads -/

theorem State.Upholds.dropUnfinished {t : State} (h : State.Upholds g s t) : State.Upholds g s t.dropUnfinished := by
  have dropped : State.Upholds g s ((t.withLsc (t.lsc.withLessons (dropWriting t.lsc.lessons))).raise .pageDroppedAtStart) :=
    (h.withLsc (l := t.lsc.withLessons (dropWriting t.lsc.lessons)) (h.lsc.withTable fun e => (h.lsc.table e).dropWriting) h.loads).same
  unfold State.dropUnfinished
  split
  · dsimp only
    split
    · next u hu => exact dropped.attempt hu
    · exact dropped.readOnly.toUpholds
  · exact (h.withLsc (l := { t.quiet.lsc with mode := .ready }) (h.lsc.keep (mode := fun e => nomatch e) (reading := fun _ e => nomatch e))
      fun _ _ _ e => nomatch e).same

theorem tableSound_blank : TableSound Config.blankLessons [] := by
  have none : recordsOf Config.blankLessons = [] := by
    simp [recordsOf, Config.blankLessons, Config.emptyLesson]
  refine ⟨List.length_replicate, ?_, ?_, by simp [none], by simp [takenPlaces, none], by simp [takenPlaces, none]⟩
  · simp [Config.blankLessons, Config.emptyLesson]
  · intro l hl
    rw [Config.blankLessons] at hl
    rw [List.eq_of_mem_replicate hl]
    exact ⟨by simp [Config.emptyLesson], by simp [Config.emptyLesson, nameInRange], fun _ => ⟨rfl, rfl⟩⟩

/-- An adopted table is sound, as the images found are within their ranges (log 31). -/
theorem Lsc.Sound.adopt {l : Lsc} (h : l.Sound g) {best : Option (Nat × CatalogueImage)}
    (hb : g = .store → ∀ b i, best = some (b, i) → i.inRange = true) : (l.adopt best).Sound g := by
  unfold Lsc.adopt
  split
  · next b i =>
    refine h.withTable fun e => ?_
    have range := hb e b i rfl
    simp only [CatalogueImage.inRange, Bool.and_eq_true] at range
    exact (tableSound_iff _ _).mpr ⟨range.1.1.1, range.1.1.2⟩
  · exact h.withTable fun _ => tableSound_blank

theorem State.Kept.recovered (h : s.Kept g) {best : Option (Nat × CatalogueImage)}
    (hb : g = .store → ∀ b i, best = some (b, i) → i.inRange = true) :
    (s.recovered best).Kept g := by
  have idle : (s.quiet.lsc.adopt best).activity = .idle := by unfold Lsc.adopt; split <;> rfl
  have adopted : State.Upholds g s (s.quiet.withLsc (s.quiet.lsc.adopt best)) :=
    h.upholds.quiet.withLsc (h.upholds.quiet.lsc.adopt hb) fun _ n c e => by rw [idle] at e; exact nomatch e
  have handed : State.Upholds g s (s.quiet.withLsc (s.quiet.lsc.adopt best)).handOver := adopted.same
  refine State.Upholds.kept ?_ h
  unfold State.recovered
  refine (State.Upholds.dropUnfinished ?_).servePages
  split
  · exact handed.same
  · exact handed

theorem State.Kept.recovering (h : s.Kept g) {r : RecoveryRead} (reads : s.lsc.activity = .recovering r) (result : FlashResult) :
    (s.recovering r result).Kept g := by
  have best (e : g = .store) := RecoveryRead.step_inRange (h.upholds.lsc.found e r · · reads) result
  unfold State.recovering
  split
  · next next e =>
    simp only [e] at best
    refine (h.upholds.withLsc (l := { s.lsc with flash := _, activity := .recovering next }) ?_ fun _ _ _ e => nomatch e).kept h
    obtain ⟨table, -, named, few, tail, starting⟩ := h.upholds.lsc
    exact ⟨table, fun g r' b i e hb => by cases e; exact best g b i hb, named, few, tail, starting⟩
  · next e =>
    simp only [e] at best
    exact h.recovered best

theorem State.Runs.jobWritten {t : State} (h : State.Runs g s t) {j : Job} (hj : g = .store → j.Named) : State.Runs g s (t.jobWritten j).1 := by
  unfold State.jobWritten
  split
  · split
    · exact (h.setHead (j := { j with stage := .erase }) hj).issue _ (fun _ e => nomatch e) fun _ _ _ e => nomatch e
    · exact h
  all_goals exact h

theorem State.Upholds.writePassed {t : State} (h : State.Upholds g s t) (owner : WriteOwner) : State.Upholds g s (t.writePassed owner) := by
  unfold State.writePassed
  split
  · exact (h.withLsc (l := { t.quiet.lsc with mode := .ready }) (h.lsc.keep (mode := fun e => nomatch e) (reading := fun _ e => nomatch e))
      fun _ _ _ e => nomatch e).same
  · exact h.runNext
  · split
    · exact h
    · next j rest e =>
      have live := h.runs (by rw [e]; exact List.cons_ne_nil _ _)
      exact (live.jobWritten (j := j) fun g => h.lsc.named g j (by simp [e])).settleHead.toUpholds

theorem State.Runs.writeFailed {t : State} (h : State.Runs g s t) (owner : WriteOwner) : State.Runs g s (t.writeFailed owner) := by
  unfold State.writeFailed
  split
  · exact h
  · exact h.runNext
  · split
    · exact h
    · exact (h.writeLost _).endHead _

theorem State.Upholds.writing {t : State} (h : State.Upholds g s t) (w : CatalogueWrite) (result : FlashResult) : State.Upholds g s (t.writing w result) := by
  unfold State.writing
  split
  · exact h.withLsc (l := { t.lsc with flash := _, activity := _ }) (h.lsc.keep (reading := fun _ e => nomatch e)) fun _ _ _ e => nomatch e
  · exact (h.written _).writePassed _
  · split
    · split
      · next u hu => exact h.attempt hu
      · exact (h.readOnly.writeFailed _).toUpholds
    · exact (h.readOnly.writeFailed _).toUpholds

theorem State.Kept.handExport (h : s.Kept g) (j : Job) {n : Nat} (load : g = .pool → s.spm.has n .load = true) (q : Half) :
    (s.handExport j n q).1.Kept g := by
  have handed : State.Upholds g s (s.quiet.withSpm (s.spm.replace n .load .exported)) := by
    refine { h.upholds.quiet with pool := fun e => Spm.whole_replace (h.upholds.pool e) (Holders.ne_of_has (load e)),
                                  loads := fun _ _ _ e => (nomatch e), kinds := fun e m k hk => ?_ }
    show (s.spm.replace n .load .exported).has m k = s.spm.has m k
    rw [Spm.has_replace (Spm.lt_of_has (load e)), if_neg, if_neg]
    · rintro ⟨-, rfl⟩; exact nomatch hk
    · rintro ⟨-, rfl⟩; exact nomatch hk
  refine State.Upholds.kept ?_ h
  unfold State.handExport
  dsimp only
  split
  · exact handed.same
  · exact handed.removeKind (k := .exported) rfl (by decide)

/-- A sound RECALL: its slot carries PAGE instead of LOAD, and is the page shown (04 R55). -/
theorem State.Kept.recalled (h : s.Kept g) {n : Nat} (load : g = .pool → s.spm.has n .load = true) (q : Half) : (s.recalled n q).Kept g := by
  have spm : (s.recalled n q).spm = s.spm.succeed n .load .page := rfl
  have freeze : (s.recalled n q).vwc.freeze = s.vwc.freeze := rfl
  refine ⟨⟨h.upholds.quiet.lsc, fun e => Spm.whole_succeed (h.upholds.pool e) (Holders.ne_of_has (load e)), fun _ _ _ e => (nomatch e),
    fun _ _ _ _ => rfl, rfl, rfl, rfl, rfl⟩, fun e => ?_⟩
  have d := h.designated e
  have has (m : Nat) (k : HolderKind) : (s.spm.succeed n .load .page).has m k =
      if k = .page then decide (m = n) else if m = n ∧ k = .load then false else s.spm.has m k :=
    Spm.has_succeed (by decide) (d.one rfl) (Spm.lt_of_has (load e))
  refine ⟨?_, ?_, ?_, ?_, ?_⟩
  · intro m k; rw [spm]; simpa [has] using d.latest m k
  · intro m; rw [spm, freeze]; simpa [has] using d.freeze m
  · intro m; rw [spm]; simp [has, State.recalled, State.showPage, State.viewChanged, eq_comm]
  · intro m; rw [spm]; simpa [has, State.recalled, State.showPage] using d.left m
  · intro m; rw [spm]; simpa [has, State.recalled, State.showPage] using d.right m

theorem State.Runs.loadPage {t : State} (h : State.Runs g s t) {n : Nat} (load : g = .pool → t.spm.has n .load = true) (p : Nat)
    (c : PageCheck) : State.Runs g s (t.loadPage n p c) :=
  h.issue _ (fun _ e => nomatch e) fun e m k a => by cases a; exact load e

theorem State.Kept.loaded (h : s.Kept g) {j : Job} (hj : g = .store → j.Named) (live : g = .queue → s.lsc.mode ≠ .starting) (r : PageRecord)
    {n : Nat} {c : PageCheck} (load : g = .pool → s.spm.has n .load = true) (result : FlashResult) : (s.loaded j r n c result).1.Kept g := by
  have drawn : (s.withSpm (s.spm.draw n fun p => p.addBytes c.page result)).Kept g :=
    h.withSpm (fun w => Spm.whole_draw w _) fun m k _ => Spm.has_draw _
  have load' (e : g = .pool) : (s.spm.draw n fun p => p.addBytes c.page result).has n .load = true := by
    rw [Spm.has_draw]; exact load e
  unfold State.loaded
  dsimp only
  split
  · exact ((drawn.runs live).loadPage load' _ _).toUpholds.kept drawn
  split
  · unfold State.loadSound
    split
    · exact drawn.handExport j load' _
    · exact drawn.recalled load' _
  · exact ((drawn.runs live).damaged hj n _).toUpholds.kept drawn

theorem recordWith_serial {ls : List LessonRecord} {q : Half} {r : PageRecord} (h : recordWith ls q = some r) : r.serial = q := by
  simpa using List.find?_some h

theorem State.Kept.onPlace (h : s.Kept g) (result : FlashResult) {j : Job} (hj : g = .store → j.Named) (live : g = .queue → s.lsc.mode ≠ .starting) {r : PageRecord}
    (hr : s.followed j = some r) : (s.onPlace result j r).1.Kept g := by
  have found : recordWith s.lsc.lessons r.serial = some r := by
    obtain ⟨q, -, e⟩ := Option.bind_eq_some_iff.mp hr
    rw [recordWith_serial e]; exact e
  have runs := h.runs live
  unfold State.onPlace
  split
  · exact (runs.erased hj _ found _ _).toUpholds.kept h
  · exact (runs.programmed hj _ _ found _ _ _).toUpholds.kept h
  · exact (runs.checked hj found _ _).toUpholds.kept h
  · next n c e => exact h.loaded hj live r (fun g => h.upholds.loads g n c e) result
  · exact h

theorem State.Kept.flashDone (h : s.Kept g) (result : FlashResult) : (s.flashDone result).Kept g := by
  unfold State.flashDone
  split
  · exact h
  · next reads => exact h.recovering reads result
  · exact (h.upholds.writing _ result).kept h
  · split
    · exact h
    · next j rest queue =>
      split
      · exact h
      · next r hr =>
        have live := (h.upholds.runs (by rw [queue]; exact List.cons_ne_nil _ _)).live
        have placed := h.onPlace result (j := j) (fun g => h.upholds.lsc.named g j (by simp [queue])) live hr
        unfold State.settleHead
        split
        · exact placed
        · exact (placed.upholds.endHead _).kept placed

theorem State.Kept.takeNotice (h : s.Kept g) : s.takeNotice.Kept g := by
  have noted : (s.withSpm { s.spm with notices := s.spm.notices - 1 }).Kept g := h.withSpm (fun w => ⟨w.1, w.2⟩) fun _ _ _ => rfl
  unfold State.takeNotice
  dsimp only
  split
  · exact noted
  · next j rest queue =>
    split
    · have live := noted.upholds.runs (by rw [queue]; exact List.cons_ne_nil _ _)
      exact (live.testReserve (j := j) (fun g => noted.upholds.lsc.named g j (by rw [queue]; exact List.mem_cons_self)) _).toUpholds.kept noted
    · exact noted

/-! ### Start-up and RESTART -/

/-- A restarted pool with a view record and latches that name no slot. -/
theorem State.kept_of_restarted {t : State} (lsc : t.lsc.Sound g) (idle : ∀ n c, t.lsc.activity ≠ .loading n c) {p : Spm}
    (length : g = .pool → p.slots.length = 8) (spm : t.spm = p.restarted) (freeze : t.vwc.freeze = none) (page : t.vwc.page = none)
    (left : t.dou.left = none) (right : t.dou.right = none) : t.Kept g := by
  have has (m : Nat) (k : HolderKind) : t.spm.has m k = false := by rw [spm]; exact Spm.has_restarted
  refine ⟨⟨lsc, fun e => spm ▸ Spm.whole_restarted (length e), fun _ n c e => absurd e (idle n c), fun _ _ _ _ => rfl, rfl, rfl, rfl, rfl⟩,
    fun _ => ⟨?_, ?_, ?_, ?_, ?_⟩⟩
  all_goals intro m
  · intro k e; rw [has] at e; exact nomatch e
  · rw [has, freeze]; exact ⟨nofun, nofun⟩
  · rw [has, page]; exact ⟨nofun, nofun⟩
  · rw [has, left]; exact ⟨nofun, nofun⟩
  · rw [has, right]; exact ⟨nofun, nofun⟩

theorem Lsc.sound_reset : resetLsc.Sound g where
  table _ := tableSound_blank
  found _ r b i ha hb := by cases ha; exact absurd hb nofun
  named _ _ h := absurd h List.not_mem_nil
  few _ := Nat.zero_le _
  tail _ _ h := absurd h List.not_mem_nil
  starting _ _ := rfl

theorem State.kept_startedUp (h : s.Kept g) : s.startedUp.Kept g :=
  State.kept_of_restarted Lsc.sound_reset (fun _ _ e => nomatch e) (fun e => (h.upholds.pool e).1) rfl rfl rfl rfl rfl

theorem State.kept_powerLoss (h : s.Kept g) : (s.startedUp.withPower false).quiet.Kept g :=
  State.kept_of_restarted (Lsc.sound_reset.keep (reading := fun _ e => nomatch e)) (fun _ _ e => nomatch e) (fun e => (h.upholds.pool e).1)
    rfl rfl rfl rfl rfl

/-- RESTART abandons the jobs, and the WRITING record of a STORE goes with them (08 R135). -/
theorem Lsc.Sound.restarted {l : Lsc} (h : l.Sound g) : l.restarted.Sound g := by
  have table (e : g = .store) : TableSound l.abandon.lessons l.abandon.retired := by
    have sound := h.table e
    unfold Lsc.abandon
    split
    · exact sound
    split
    · split
      · exact sound.removeRecord _
      · exact sound
    · exact sound
  exact ⟨table, fun _ _ _ _ e => (nomatch e), fun _ _ h => absurd h List.not_mem_nil, fun _ => Nat.zero_le _,
    fun _ _ h => absurd h List.not_mem_nil, fun _ _ => rfl⟩

theorem State.kept_restart (h : s.Kept g) : s.restart.Kept g := by
  have blocks : s.restartBlocks.Kept g :=
    State.kept_of_restarted h.upholds.lsc.restarted (fun _ _ e => nomatch e) (fun e => (h.upholds.pool e).1) rfl rfl rfl rfl rfl
  have begun : s.restartBlocks.rework.beginAgreement.Kept g :=
    (State.Upholds.fed (t := s.restartBlocks.rework) blocks.upholds.same (State.fed_beginAgreement _)).kept blocks
  unfold State.restart State.writeAfterRestart
  split
  · split
    · next u hu => exact (begun.upholds.attempt hu).kept begun
    · exact begun.upholds.readOnly.toUpholds.kept begun
  · exact begun

theorem State.Effect.keeps_kept {t : State} (e : s.Effect t) (h : s.Kept g) : t.Kept g := by
  have up := h.upholds
  cases e
  case nothing => exact h
  case command p r hw _ => exact (hw.keeps_kept h).same (by simp) (by simp) (by simp) (by simp) (by simp) (by simp)
  case feedRestarted p r _ _ =>
    refine (State.Upholds.serveFeed ?_).kept h
    exact up.restartFeed.same (by simp) (by simp) (by simp) (by simp) (by simp) (by simp)
  case restarted p r _ _ =>
    have owed : (s.restart.owe p r).Kept g := (State.kept_restart h).same (by simp) (by simp) (by simp) (by simp) (by simp) (by simp)
    exact owed.upholds.serveFeed.kept owed
  case refusedBusy p r _ => exact h.same (by simp) (by simp) (by simp) (by simp) (by simp) (by simp)
  case frameStart => exact h.frameStart
  case lineEnd line => exact h.lineEnd line
  case frameEnd => exact h.frameEnd
  case signalLost => exact h.signalLost
  case notice => exact h.takeNotice
  case outputFrame => exact h.frameStarts
  case offer o _ => exact (up.baseOffer o).servePages.kept h
  case note p _ => exact (up.notePage p).servePages.kept h
  case hold d => exact (up.takeHold d).kept h
  case pageExpired => exact up.pageExpired.servePages.kept h
  case intervalExpired => exact up.intervalExpired.kept h
  case allowanceExpired => exact up.cutFrame.kept h
  case holdExpired => exact up.releaseHold.kept h
  case feedFrameStart => exact up.startFeedFrame.kept h
  case lineProduced => exact up.produceLine.kept h
  case lineSent => exact up.lineGoes.kept h
  case flash result _ => exact h.flashDone result
  case panelRead n =>
    unfold State.panelRead
    dsimp only
    split
    · exact h.same (by simp) (by simp) (by simp) (by simp) (by simp) (by simp)
    · exact h.same
  case roomSent =>
    unfold State.roomSent
    split
    · exact h
    · exact h.same
  case tetherSent =>
    unfold State.tetherSent
    split
    · exact h
    · exact (State.Upholds.serveFeed (t := State.withCpi _ _) up.same).kept h
  all_goals exact h.same

end Kept

theorem State.alike.keeps_kept {g : UpheldPart} {s t : State} (h : s.alike t) (hs : s.Kept g) : t.Kept g :=
  hs.same h.lsc h.spm (by rw [h.vwc]) (by rw [h.vwc]) (by rw [h.dou]) (by rw [h.dou])

theorem keptByStep_kept (g : UpheldPart) : keptByStep (State.Kept g) :=
  keptByStep_of_effects (fun _ _ h hs => h.keeps_kept hs) (fun _ hs => State.kept_startedUp hs) (fun _ hs => State.kept_powerLoss hs)
    fun _ _ h hs => h.keeps_kept hs

/-- Settles O9: the jobs and the feed touch holders that designate no slot, and what moves FREEZE, PAGE, a display holder or LATEST moves
the view record or the latch with it. -/
theorem poolStaysSound : Obligations.PoolStaysSound := by
  intro s t hs ht
  rw [State.poolSound_iff_kept] at hs ⊢
  exact keptByStep_kept .pool s t hs ht

/-- Settles O10: every change of the table gives no lesson a page it had not, but for the new record of a STORE with a serial and a place
of its own; jobs join a queue that has room, and leave it at its head or by withdrawal. -/
theorem storeAndQueueStaySound : Obligations.StoreAndQueueStaySound := by
  constructor
  · intro s t hs ht
    rw [State.storeSound_iff_kept] at hs ⊢
    exact keptByStep_kept .store s t hs ht
  · intro s t hs ht
    rw [State.queueSound_iff_kept] at hs ⊢
    exact keptByStep_kept .queue s t hs ht

end Sys2Proof.Machine

namespace Sys2Proof.Machine

/-! ### The feed stays sound (07 R101 to R120) -/

/-- The page timer runs only during an agreement (07 R108). -/
def Flc.timed (f : Flc) : Prop := f.pageTimer ≠ none → f.agreement ∈ [Agreement.offering, .ackSeen, .noteExchange]

/-- The feed link controller's own part of the feed's soundness. -/
structure Flc.Sound (f : Flc) : Prop where
  flight : ∀ fr, f.frame = some fr → f.agreement = .feedUp ∧ feedFrameSound fr f.buffer.length
  ground : f.frame = none → f.buffer = []
  timed : f.timed
  waiting : f.started = false → f.agreement = .offering ∧ f.frame = none ∧ f.pageTimer = none

/-- After the hand-over, with no frame in flight: where every agreement begins. -/
structure Flc.Grounded (f : Flc) : Prop where
  frame : f.frame = none
  buffer : f.buffer = []
  started : f.started = true

/-- Recovery is over once the hand-over has been made. -/
def State.handsOver (s : State) : Prop := ∀ r, s.lsc.activity = .recovering r → s.flc.started = false

theorem State.feedSound_iff (s : State) : s.feedSound ↔ s.settingsSound ∧ s.flc.Sound ∧ s.handsOver := by
  constructor
  · rintro ⟨settings, flight, ground, timed, waiting, hand⟩
    exact ⟨settings, ⟨flight, ground, timed, waiting⟩, hand⟩
  · rintro ⟨settings, ⟨flight, ground, timed, waiting⟩, hand⟩
    exact ⟨settings, flight, ground, timed, waiting, hand⟩

section Flc
variable {f f' : Flc}

/-- What the soundness looks at is the same. -/
theorem Flc.Sound.keep (h : f.Sound) (frame : f'.frame = f.frame := by rfl) (buffer : f'.buffer = f.buffer := by rfl)
    (agreement : f'.agreement = f.agreement := by rfl) (timer : f'.pageTimer = f.pageTimer := by rfl)
    (started : f'.started = f.started := by rfl) : f'.Sound where
  flight fr e := by rw [agreement, buffer]; exact h.flight fr (frame ▸ e)
  ground e := by rw [buffer]; exact h.ground (frame ▸ e)
  timed e := by rw [agreement]; exact h.timed (timer ▸ e)
  waiting e := by rw [agreement, frame, timer]; exact h.waiting (started ▸ e)

theorem Flc.Grounded.keep (h : f.Grounded) (frame : f'.frame = f.frame := by rfl) (buffer : f'.buffer = f.buffer := by rfl)
    (started : f'.started = f.started := by rfl) : f'.Grounded :=
  ⟨frame.trans h.frame, buffer.trans h.buffer, started.trans h.started⟩

theorem Flc.Grounded.sound (h : f.Grounded) (timed : f.timed) : f.Sound where
  flight fr e := by rw [h.frame] at e; exact nomatch e
  ground _ := h.buffer
  timed := timed
  waiting e := by rw [h.started] at e; exact nomatch e

/-- Outside FEED_UP nothing is in flight. -/
theorem Flc.Sound.grounded (h : f.Sound) (started : f.started = true) (down : f.agreement ≠ .feedUp) : f.Grounded := by
  have frame : f.frame = none := by
    cases e : f.frame with
    | none => rfl
    | some fr => exact absurd (h.flight fr e).1 down
  exact ⟨frame, h.ground frame, started⟩

/-- In FEED_UP the page timer is stopped (07 R108). -/
theorem Flc.Sound.stopped (h : f.Sound) (up : f.agreement = .feedUp) : f.pageTimer = none := by
  by_contra e
  have := h.timed e
  rw [up] at this
  exact absurd this (by decide)

theorem Flc.Sound.started_of_running (h : f.Sound) (runs : f.pageTimer ≠ none) : f.started = true := by
  cases e : f.started with
  | true => rfl
  | false => exact absurd (h.waiting e).2.2 runs

end Flc

theorem Flc.timed_of_exchange {f : Flc} (h : f.agreement = .noteExchange) : f.timed := fun _ => by simp [h]

/-- Flash work that is no recovery. -/
theorem State.handsOver_of {s : State} {a : Activity} (h : s.lsc.activity = a) (other : ∀ r, a ≠ .recovering r) : s.handsOver :=
  fun r e => absurd (h.symm.trans e) (other r)

section Feed
variable {s t : State}

/-! ### The agreement -/

theorem State.sound_beginAgreement (h : s.flc.Grounded) : s.beginAgreement.flc.Sound :=
  Flc.Grounded.sound h.keep fun _ => List.mem_cons_self

/-- Resolution ends in FEED_UP or in FEED_DOWN, with the page timer stopped (07 R107). -/
theorem State.sound_resolve (h : s.flc.Grounded) : s.resolve.flc.Sound := by
  unfold State.resolve
  split
  · exact Flc.Grounded.sound h.keep fun e => absurd rfl e
  · exact Flc.Grounded.sound h.keep fun e => absurd rfl e

theorem State.sound_baseComplete (h : s.flc.Grounded) : s.baseComplete.flc.Sound := by
  unfold State.baseComplete
  split
  · exact Flc.Grounded.sound h.keep (Flc.timed_of_exchange rfl)
  · exact State.sound_resolve h

theorem State.sound_takeOffer (h : s.flc.Grounded) (o : BaseOffer) : (s.takeOffer o).flc.Sound := by
  unfold State.takeOffer
  dsimp only
  split
  · exact State.sound_baseComplete h.keep
  · exact Flc.Grounded.sound h.keep fun _ => by simp

theorem Flc.takeNote_flight (f : Flc) (p : NotePage) :
    (f.takeNote p).1.frame = f.frame ∧ (f.takeNote p).1.buffer = f.buffer ∧ (f.takeNote p).1.agreement = f.agreement ∧
      (f.takeNote p).1.pageTimer = f.pageTimer := by
  unfold Flc.takeNote
  split
  · split_ifs <;> exact ⟨rfl, rfl, rfl, rfl⟩
  · split_ifs <;> exact ⟨rfl, rfl, rfl, rfl⟩

theorem Flc.hear_flight (f : Flc) (ack2 : Bool) :
    (f.hear ack2).frame = f.frame ∧ (f.hear ack2).buffer = f.buffer ∧ (f.hear ack2).agreement = f.agreement ∧
      (f.hear ack2).pageTimer = f.pageTimer := by
  unfold Flc.hear
  split
  · exact ⟨rfl, rfl, rfl, rfl⟩
  split
  · unfold Flc.agree
    split
    · exact ⟨rfl, rfl, rfl, rfl⟩
    · split_ifs <;> exact ⟨rfl, rfl, rfl, rfl⟩
  · exact ⟨rfl, rfl, rfl, rfl⟩

theorem State.sound_newNote (h : s.flc.Grounded) (exchange : s.flc.agreement = .noteExchange) (p : NotePage) : (s.newNote p).flc.Sound := by
  obtain ⟨frame, buffer, agreement, -⟩ := (s.flc.hear p.ack2).takeNote_flight p
  obtain ⟨frame', buffer', agreement', -⟩ := s.flc.hear_flight p.ack2
  have kept : ((s.flc.hear p.ack2).takeNote p).1.Grounded := by
    refine ⟨frame.trans (frame'.trans h.frame), buffer.trans (buffer'.trans h.buffer), ?_⟩
    exact ((Flc.takeNote_keeps _ _).2.trans (Flc.hear_keeps _ _).2).trans h.started
  have still : ((s.flc.hear p.ack2).takeNote p).1.agreement = .noteExchange := agreement.trans (agreement'.trans exchange)
  unfold State.newNote
  dsimp only
  split
  · exact State.sound_resolve kept.keep
  · exact Flc.Grounded.sound kept.keep (Flc.timed_of_exchange still)

theorem State.sound_notePage (h : s.flc.Sound) (started : s.flc.started = true) (p : NotePage) : (s.notePage p).flc.Sound := by
  unfold State.notePage
  split
  · next exchange =>
    have ground := h.grounded started (by rw [exchange]; decide)
    split
    · unfold State.repeatNote
      split
      · exact h
      · exact Flc.Grounded.sound ground.keep (Flc.timed_of_exchange exchange)
    · exact State.sound_newNote ground exchange p
  all_goals exact h

/-! ### Leaving FEED_UP -/

/-- What jobs run at the end of an EXPORT leaves of the controller. -/
theorem State.endExport_flc (s : State) (r : Reason) : (s.endExport r).flc = { s.flc with exportFrame := none } := by
  unfold State.endExport
  split
  · next e => simp [← e]
  · rw [(State.ran_endHead _ r).flc]; rfl

theorem State.leaveUp_flc (s : State) (a : Agreement) : (s.leaveUp a).flc = { s.flc.left a with exportFrame := none } := by
  have counted : s.countDropped.flc = s.flc := by
    unfold State.countDropped
    split
    · rfl
    split
    · rfl
    · rfl
  unfold State.leaveUp
  dsimp only
  rw [State.endExport_flc, State.withSpm_flc, State.withFlc_flc, counted]

theorem State.grounded_leaveUp (started : s.flc.started = true) (a : Agreement) : (s.leaveUp a).flc.Grounded := by
  rw [State.leaveUp_flc]
  exact ⟨rfl, rfl, started⟩

theorem State.sound_feedFault (h : s.flc.Sound) (started : s.flc.started = true) : s.feedFault.flc.Sound := by
  have ground : (if s.flc.agreement = .feedUp then s.leaveUp .feedDown else s).flc.Grounded := by
    split
    · exact State.grounded_leaveUp started _
    · next down => exact h.grounded started down
  exact Flc.Grounded.sound ground.keep fun e => absurd rfl e

theorem State.sound_baseOffer (h : s.flc.Sound) (started : s.flc.started = true) (o : BaseOffer) : (s.baseOffer o).flc.Sound := by
  have answered (down : s.flc.agreement ≠ .feedUp) : (if o.fault = .noFault then s.takeOffer o else s.feedFault).flc.Sound := by
    split
    · exact State.sound_takeOffer (h.grounded started down) o
    · exact State.sound_feedFault h started
  unfold State.baseOffer
  split
  · exact h
  · exact h
  · next e => exact answered (by rw [e]; decide)
  · next e => exact answered (by rw [e]; decide)
  · next e =>
    have ground := h.grounded started (by rw [e]; decide)
    split
    · unfold State.offerAgain
      split
      · exact State.sound_baseComplete ground.keep
      · exact State.sound_takeOffer ground o
    · exact State.sound_feedFault h started
  · split
    · split
      · exact State.sound_takeOffer (State.grounded_leaveUp (s := s) started .ackSeen).keep o
      · exact h
    · exact State.sound_feedFault h started

theorem State.sound_pageExpired (h : s.flc.Sound) (runs : s.flc.pageTimer ≠ none) : s.pageExpired.flc.Sound := by
  have down : s.flc.agreement ≠ .feedUp := fun up => runs (h.stopped up)
  have ground := h.grounded (h.started_of_running runs) down
  unfold State.pageExpired
  dsimp only
  split
  · exact State.sound_beginAgreement ground.keep
  · exact Flc.Grounded.sound ground.keep fun e => absurd rfl e

theorem State.sound_restartFeed (h : s.flc.Sound) (started : s.flc.started = true) : s.restartFeed.flc.Sound := by
  have ground : (if s.flc.agreement = .feedUp then s.leaveUp .offering else s).flc.Grounded := by
    split
    · exact State.grounded_leaveUp started _
    · next down => exact h.grounded started down
  exact State.sound_beginAgreement ⟨ground.frame, rfl, ground.started⟩

/-! ### Feed frames -/

theorem FeedMarks.inRange_iff {m : FeedMarks} :
    m.inRange = true ↔ 2 ≤ m.high ∧ m.high ≤ 64 ∧ m.low < m.high ∧ 1 ≤ m.start ∧ m.start ≤ m.high := by
  simp [FeedMarks.inRange, and_assoc]

/-- A frame that has just been put in flight, with nothing produced. -/
theorem feedFrameSound_fresh {fr : FeedFrame} (marks : fr.marks.inRange = true) (produced : fr.produced = 0) (sent : fr.sent = 0) :
    feedFrameSound fr 0 := by
  have := FeedMarks.inRange_iff.mp marks
  refine ⟨marks, Nat.zero_le _, fun _ => by omega, by omega, fun _ => rfl, fun _ => by omega⟩

theorem State.sound_startFeedFrame (h : s.flc.Sound) (marks : s.flc.marks.inRange = true) : s.startFeedFrame.flc.Sound := by
  unfold State.startFeedFrame
  split
  · next r up _ _ _ =>
    have launched {fr : FeedFrame} (fresh : feedFrameSound fr 0) : (s.launch r fr).Sound := by
      refine ⟨fun fr' e => ?_, nofun, h.timed, fun e => ?_⟩
      · cases e; exact ⟨up, fresh⟩
      · have := (h.waiting e).1
        rw [up] at this; exact nomatch this
    split
    · exact launched (feedFrameSound_fresh marks rfl rfl)
    · next n f _ _ => exact (launched (fr := liveFrame _ s.flc.marks s.vwc.window n f) (feedFrameSound_fresh marks rfl rfl)).keep
    · exact h
  · exact h

theorem feedFrameSound_produced {fr : FeedFrame} {lines : Nat} (h : feedFrameSound fr lines) (produces : fr.produces = true) :
    feedFrameSound (fr.afterProduced (lines + 1)) (lines + 1) := by
  obtain ⟨marks, most, running, made, cut, whole⟩ := h
  simp only [FeedFrame.produces, Bool.and_eq_true, Bool.not_eq_true', decide_eq_true_eq] at produces
  obtain ⟨⟨uncut, unstopped⟩, left⟩ := produces
  have room := running unstopped
  have count := whole uncut
  refine ⟨marks, room, fun e => ?_, left, fun e => ?_, fun _ => ?_⟩
  · simpa [FeedFrame.afterProduced] using e
  · rw [FeedFrame.afterProduced, uncut] at e; exact nomatch e
  · simp only [FeedFrame.afterProduced]; omega

theorem State.sound_produceLine (h : s.flc.Sound) : s.produceLine.flc.Sound := by
  unfold State.produceLine
  split
  · exact h
  · next fr flying =>
    split
    · next produces =>
      obtain ⟨up, frame⟩ := h.flight fr flying
      have made : Flc.Sound { s.flc with
          buffer := s.flc.buffer ++ [fr.line (s.spm.slot fr.slot).picture fr.produced],
          frame := some (fr.afterProduced (s.flc.buffer.length + 1)) } := by
        refine ⟨fun fr' e => ?_, nofun, h.timed, fun e => ?_⟩
        · cases e
          refine ⟨up, ?_⟩
          rw [List.length_append, List.length_singleton]
          exact feedFrameSound_produced frame produces
        · have := (h.waiting e).1
          rw [up] at this; exact nomatch this
      dsimp only
      split
      · exact made
      · exact made
    · exact h

theorem feedFrameSound_sent {fr : FeedFrame} {lines : Nat} (h : feedFrameSound fr (lines + 1)) : feedFrameSound (fr.afterSent lines) lines := by
  obtain ⟨marks, most, running, made, cut, whole⟩ := h
  have order := FeedMarks.inRange_iff.mp marks
  have uncut : fr.cut = false := by
    cases e : fr.cut with
    | false => rfl
    | true => exact absurd (cut e) (by omega)
  have count := whole uncut
  refine ⟨marks, by simp only [FeedFrame.afterSent]; omega, fun e => ?_, made, fun e => ?_, fun _ => ?_⟩
  · simp only [FeedFrame.afterSent, Bool.and_eq_false_iff, decide_eq_false_iff_not] at e ⊢
    rcases e with e | e
    · have := running e; omega
    · omega
  · rw [FeedFrame.afterSent, uncut] at e; exact nomatch e
  · simp only [FeedFrame.afterSent]; omega

theorem State.sound_endKind (h : s.flc.Sound) (k : FeedKind) (r : Reason) : (s.endKind k r).flc.Sound := by
  unfold State.endKind
  split
  · exact h
  · rw [State.endExport_flc]; exact h.keep

/-- The frame in flight is over (07 R114, R116). -/
theorem Flc.Sound.landed {f : Flc} (h : f.Sound) : Flc.Sound { f with frame := none, buffer := [], allowanceTimer := none } :=
  ⟨nofun, fun _ => rfl, h.timed, fun e => ⟨(h.waiting e).1, rfl, (h.waiting e).2.2⟩⟩

theorem State.sound_lineGoes (h : s.flc.Sound) : s.lineGoes.flc.Sound := by
  unfold State.lineGoes
  split
  · next fr l rest flying held =>
    split
    · obtain ⟨up, frame⟩ := h.flight fr flying
      rw [held, List.length_cons] at frame
      have sent : Flc.Sound { s.flc with buffer := rest, frame := some (fr.afterSent rest.length) } := by
        refine ⟨fun fr' e => ?_, nofun, h.timed, fun e => ?_⟩
        · cases e; exact ⟨up, feedFrameSound_sent frame⟩
        · have := (h.waiting e).1
          rw [up] at this; exact nomatch this
      unfold State.sendLine
      dsimp only
      split
      · refine State.sound_endKind ?_ _ _
        exact sent.landed
      · exact sent
    · exact h
  · exact h

theorem State.sound_sendCutEnd (h : s.flc.Sound) : s.sendCutEnd.flc.Sound := by
  unfold State.sendCutEnd
  split
  · exact h
  · next fr _ =>
    split
    · refine State.sound_endKind (s := State.frameOver _) ?_ _ _
      show Flc.Sound { (s.sendStart fr).flc with frame := none, buffer := [], allowanceTimer := none }
      rw [State.sendStart_flc]
      exact h.landed
    · exact h

theorem State.sound_cutFrame (h : s.flc.Sound) : s.cutFrame.flc.Sound := by
  unfold State.cutFrame
  split
  · exact h
  · next fr flying =>
    obtain ⟨up, marks, most, running, made, cut, whole⟩ := h.flight fr flying
    refine State.sound_sendCutEnd (s := State.count _ _) ⟨fun fr' e => ?_, nofun, h.timed, fun e => ?_⟩
    · cases e
      have order := FeedMarks.inRange_iff.mp marks
      exact ⟨up, marks, Nat.zero_le _, fun _ => by show 0 < fr.marks.high; omega, made, fun _ => rfl, nofun⟩
    · have := (h.waiting e).1
      rw [up] at this; exact nomatch this

theorem State.sound_takeHold (h : s.flc.Sound) (d : Half) : (s.takeHold d).flc.Sound := by
  unfold State.takeHold
  split
  · exact State.sound_sendCutEnd h.keep
  · exact h.keep

theorem State.sound_sendPages (l : List AgreementPage) (h : s.flc.Sound) : (s.sendPages l).flc.Sound := by
  induction l generalizing s with
  | nil => exact h.keep
  | cons p rest ih =>
    unfold State.sendPages
    split
    · exact ih (s := s.sendPacket (.page p)) h
    · exact h.keep

theorem State.sound_servePages (h : s.flc.Sound) : s.servePages.flc.Sound := State.sound_sendPages _ h

theorem State.sound_serveFeed (h : s.flc.Sound) : s.serveFeed.flc.Sound := State.sound_sendCutEnd (State.sound_servePages h)

theorem State.sound_intervalExpired (h : s.flc.Sound) : s.intervalExpired.flc.Sound := by
  unfold State.intervalExpired
  split
  · exact h.keep
  · exact h.keep

/-! ### The other blocks' work -/

theorem State.Fed.handsOver (h : s.Fed t) (hs : s.handsOver) : t.handsOver := fun r e => h.started.trans (hs r (h.reading r e))

theorem State.Ran.feed (ran : s.Ran t) (h : s.flc.Sound) (hand : s.handsOver) : t.flc.Sound ∧ t.handsOver :=
  ⟨ran.flc ▸ h, ran.fed.handsOver hand⟩

theorem State.Worked.feed {u : State} {p : Port} (hw : s.Worked p u) (h : s.flc.Sound) (hand : s.handsOver) : u.flc.Sound ∧ u.handsOver := by
  cases hw
  case zoomed => exact ⟨by simpa using h, by simpa [State.handsOver] using hand⟩
  case fitted => exact ⟨by simpa [State.fitPage, State.aim] using h, by simpa [State.handsOver, State.fitPage, State.aim] using hand⟩
  case unfrozen =>
    unfold State.unfreeze
    split
    · exact ⟨h, hand⟩
    · exact ⟨h, hand⟩
  case shownLive =>
    unfold State.showLive
    split
    · exact ⟨h, hand⟩
    · exact ⟨h, hand⟩
  case notesSet => exact ⟨h.keep, hand⟩
  case marksSet => exact ⟨h.keep, hand⟩
  case stored hd k _ _ => exact (s.ran_acceptStore hd k).feed h hand
  case queued hd task serial _ _ _ _ => exact (s.ran_enqueue _).feed h hand
  case withdrawn n _ => exact (s.ran_withdrawAt n).feed h hand
  case reachSet room _ _ _ => cases room <;> exact ⟨h, hand⟩
  all_goals exact ⟨h, hand⟩

/-- The hand-over begins the first agreement (07 R120). -/
theorem State.feed_recovered (h : s.flc.Sound) (hand : s.handsOver) {r : RecoveryRead} (reads : s.lsc.activity = .recovering r)
    (best : Option (Nat × CatalogueImage)) : (s.recovered best).flc.Sound ∧ (s.recovered best).handsOver := by
  obtain ⟨agreement, frame, timer⟩ := h.waiting (hand r reads)
  have idle : (s.quiet.lsc.adopt best).activity = .idle := by unfold Lsc.adopt; split <;> rfl
  have begun : (s.quiet.withLsc (s.quiet.lsc.adopt best)).handOver.flc.Sound :=
    State.sound_beginAgreement (s := State.rework (State.withCpi (State.withFlc _ _) _)) ⟨frame, h.ground frame, rfl⟩
  have past : (s.quiet.withLsc (s.quiet.lsc.adopt best)).handOver.handsOver := fun r e => by
    rw [State.handOver_lsc, State.withLsc_lsc, idle] at e; exact nomatch e
  have dropped (u : State) (hu : u.flc.Sound) (hh : u.handsOver) : u.dropUnfinished.flc.Sound ∧ u.dropUnfinished.handsOver := by
    unfold State.dropUnfinished
    split
    · dsimp only
      split
      · next v hv => exact (State.ran_attempt _ hv).feed hu hh
      · exact (State.ran_readOnly _).feed hu hh
    · exact ⟨hu, State.handsOver_of (a := .idle) rfl nofun⟩
  have finished : ∀ u : State, u.flc.Sound → u.handsOver → u.dropUnfinished.servePages.flc.Sound ∧ u.dropUnfinished.servePages.handsOver :=
    fun u hu hh => ⟨State.sound_servePages (dropped u hu hh).1, (State.fed_servePages _).handsOver (dropped u hu hh).2⟩
  unfold State.recovered
  dsimp only
  split
  · exact finished _ begun past
  · exact finished _ begun past

theorem State.feed_writing (h : s.flc.Sound) (hand : s.handsOver) (w : CatalogueWrite) (result : FlashResult) :
    (s.writing w result).flc.Sound ∧ (s.writing w result).handsOver := by
  have failed := (State.ran_writeFailed s.readOnly w.owner).after s.ran_readOnly
  unfold State.writing
  split
  · next op next _ =>
    have issued : (s.issue op (.writing next)).lsc.activity = .writing next := rfl
    exact ⟨h, State.handsOver_of issued fun _ e => nomatch e⟩
  · have passed := s.ran_written w.block
    obtain ⟨wrote, past⟩ := passed.feed h hand
    by_cases owner : w.owner = .recovery
    · rw [owner, State.writePassed]
      generalize s.written w.block = u at wrote
      exact ⟨wrote, State.handsOver_of (a := .idle) rfl nofun⟩
    · exact (State.ran_writePassed _ owner).feed wrote past
  · split
    · split
      · next h' => exact (State.ran_attempt _ h').feed h hand
      · exact failed.feed h hand
    · exact failed.feed h hand

theorem State.feed_loaded (h : s.flc.Sound) (hand : s.handsOver) (j : Job) (r : PageRecord) (n : Nat) (c : PageCheck) (result : FlashResult) :
    (s.loaded j r n c result).1.flc.Sound ∧ (s.loaded j r n c result).1.handsOver := by
  unfold State.loaded
  dsimp only
  split
  · exact ⟨h, State.handsOver_of (a := .loading _ _) rfl nofun⟩
  split
  · unfold State.loadSound
    split
    · unfold State.handExport
      dsimp only
      split
      · exact ⟨h.keep, State.handsOver_of (a := .idle) rfl nofun⟩
      · exact ⟨h, State.handsOver_of (a := .idle) rfl nofun⟩
    · exact ⟨h, State.handsOver_of (a := .idle) rfl nofun⟩
  · have ran := State.ran_damaged (s.withSpm (s.spm.draw n fun p => p.addBytes c.page result)) j n r.serial
    exact ran.feed h hand

theorem State.feed_flashDone (h : s.flc.Sound) (hand : s.handsOver) (result : FlashResult) :
    (s.flashDone result).flc.Sound ∧ (s.flashDone result).handsOver := by
  unfold State.flashDone
  split
  · exact ⟨h, hand⟩
  · next r reads =>
    unfold State.recovering
    split
    · exact ⟨h, fun _ _ => hand r reads⟩
    · exact State.feed_recovered h hand reads _
  · exact State.feed_writing h hand _ result
  · split
    · exact ⟨h, hand⟩
    split
    · exact ⟨h, hand⟩
    · next j _ _ _ r _ =>
      have of_ran {u : State} (ran : s.Ran u) : u.flc.Sound ∧ u.handsOver := ⟨ran.flc ▸ h, ran.fed.handsOver hand⟩
      have placed : (s.onPlace result j r).1.flc.Sound ∧ (s.onPlace result j r).1.handsOver := by
        unfold State.onPlace
        split
        · exact of_ran (s.ran_erased _ _ _ _ _)
        · exact of_ran (s.ran_programmed _ _ _ _ _ _ _)
        · exact of_ran (s.ran_checked _ _ _ _)
        · exact State.feed_loaded h hand _ _ _ _ _
        · exact ⟨h, hand⟩
      unfold State.settleHead
      split
      · exact placed
      · exact (State.ran_endHead _ _).feed placed.1 placed.2

theorem State.feed_restart (s : State) : s.restart.flc.Sound ∧ s.restart.handsOver := by
  have begun : s.restartBlocks.rework.beginAgreement.flc.Sound := State.sound_beginAgreement ⟨rfl, rfl, rfl⟩
  have past : s.restartBlocks.rework.beginAgreement.handsOver := (State.fed_beginAgreement _).handsOver (State.handsOver_of (a := .idle) rfl nofun)
  unfold State.restart State.writeAfterRestart
  split
  · split
    · next h => exact (State.ran_attempt _ h).feed begun past
    · exact (State.ran_readOnly _).feed begun past
  · exact ⟨begun, past⟩

/-! ### The intake and the output leave the feed and the lesson store -/

/-- Neither the feed link controller nor the lesson store is touched. -/
structure State.Elsewhere (s t : State) : Prop where
  flc : t.flc = s.flc
  lsc : t.lsc = s.lsc

theorem State.Elsewhere.feed (e : s.Elsewhere t) (h : s.flc.Sound) (hand : s.handsOver) : t.flc.Sound ∧ t.handsOver := by
  refine ⟨e.flc ▸ h, fun r reads => ?_⟩
  rw [e.flc]; exact hand r (e.lsc ▸ reads)

theorem State.elsewhere_frameStart (s : State) : s.Elsewhere s.endFrameInProgress.openFrame.askSlot := ⟨by simp, by simp⟩

theorem State.elsewhere_enhanceAccepted (s : State) (y : Nat) (line : List PixelClock) : s.Elsewhere (s.enhanceAccepted y line) := by
  unfold State.enhanceAccepted
  dsimp only
  split
  all_goals exact ⟨by simp, by simp⟩

theorem State.elsewhere_enhanceLast (s : State) : s.Elsewhere s.enhanceLast := by
  unfold State.enhanceLast
  split
  all_goals exact ⟨by simp, by simp⟩

theorem State.elsewhere_lineEnd (s : State) (line : List PixelClock) : s.Elsewhere (s.lineEnd line) := by
  unfold State.lineEnd
  split
  · split
    · have enhanced := (s.withTsu (s.tsu.gather s.siu.lines line)).elsewhere_enhanceAccepted s.siu.lines line
      exact ⟨enhanced.flc, enhanced.lsc⟩
    · exact ⟨by simp, by simp⟩
  all_goals exact ⟨rfl, rfl⟩

theorem State.elsewhere_frameEnd (s : State) : s.Elsewhere s.frameEnd := by
  unfold State.frameEnd
  split
  · split
    · have enhanced := s.elsewhere_enhanceLast
      exact ⟨by simp [State.goodFrame, enhanced.flc], by simp [State.goodFrame, enhanced.lsc]⟩
    · exact ⟨by simp, by simp⟩
  all_goals exact ⟨rfl, rfl⟩

theorem State.elsewhere_signalLost (s : State) : s.Elsewhere s.signalLost := by
  unfold State.signalLost
  dsimp only
  split
  · exact ⟨by simp, by simp⟩
  · exact ⟨rfl, rfl⟩

theorem State.elsewhere_frameStarts (s : State) : s.Elsewhere s.frameStarts := by
  unfold State.frameStarts
  split
  · exact ⟨rfl, rfl⟩
  split
  · exact ⟨rfl, rfl⟩
  · exact ⟨by simp [State.outputFrame, State.latchPanes], by simp [State.outputFrame, State.latchPanes]⟩

/-! ### Every effect -/

theorem State.Effect.keeps_feed (e : s.Effect t) (marks : s.flc.marks.inRange = true) (h : s.flc.Sound) (hand : s.handsOver) :
    t.flc.Sound ∧ t.handsOver := by
  cases e
  case nothing => exact ⟨h, hand⟩
  case command p r hw _ =>
    exact State.Elsewhere.feed ⟨by simp, by simp⟩ (hw.feed h hand).1 (hw.feed h hand).2
  case feedRestarted p r started _ =>
    have begun := State.sound_restartFeed h started
    have owed : (s.restartFeed.owe p r).flc.Sound ∧ (s.restartFeed.owe p r).handsOver :=
      State.Elsewhere.feed ⟨by simp, by simp⟩ begun (s.fed_restartFeed.handsOver hand)
    exact ⟨State.sound_serveFeed owed.1, (State.fed_serveFeed _).handsOver owed.2⟩
  case restarted p r _ _ =>
    have owed : (s.restart.owe p r).flc.Sound ∧ (s.restart.owe p r).handsOver :=
      State.Elsewhere.feed ⟨by simp, by simp⟩ s.feed_restart.1 s.feed_restart.2
    exact ⟨State.sound_serveFeed owed.1, (State.fed_serveFeed _).handsOver owed.2⟩
  case refusedBusy p r _ => exact State.Elsewhere.feed ⟨by simp, by simp⟩ h hand
  case frameStart => exact s.elsewhere_frameStart.feed h hand
  case lineEnd line => exact (s.elsewhere_lineEnd line).feed h hand
  case frameEnd => exact s.elsewhere_frameEnd.feed h hand
  case signalLost => exact s.elsewhere_signalLost.feed h hand
  case notice => exact s.ran_takeNotice.feed h hand
  case outputFrame => exact s.elsewhere_frameStarts.feed h hand
  case offer o started =>
    exact ⟨State.sound_servePages (State.sound_baseOffer h started o), ((s.fed_baseOffer o).trans (State.fed_servePages _)).handsOver hand⟩
  case note p started =>
    exact ⟨State.sound_servePages (State.sound_notePage h started p), ((s.fed_notePage p).trans (State.fed_servePages _)).handsOver hand⟩
  case hold d => exact ⟨State.sound_takeHold h d, (s.fed_takeHold d).handsOver hand⟩
  case pageLate d n late =>
    have runs : s.flc.pageTimer ≠ none := fun e => nomatch e.symm.trans late
    have started := h.started_of_running runs
    exact ⟨⟨h.flight, h.ground, fun _ => h.timed runs, fun e => nomatch started.symm.trans e⟩, hand⟩
  case pageExpired d due =>
    have runs : s.flc.pageTimer ≠ none := fun e => nomatch e.symm.trans due
    exact ⟨State.sound_servePages (State.sound_pageExpired h runs), (s.fed_pageExpired.trans (State.fed_servePages _)).handsOver hand⟩
  case intervalExpired => exact ⟨State.sound_intervalExpired h, s.fed_intervalExpired.handsOver hand⟩
  case allowanceExpired => exact ⟨State.sound_cutFrame h, s.fed_cutFrame.handsOver hand⟩
  case holdExpired => exact ⟨State.sound_sendCutEnd h.keep, s.fed_releaseHold.handsOver hand⟩
  case feedFrameStart => exact ⟨State.sound_startFeedFrame h marks, s.fed_startFeedFrame.handsOver hand⟩
  case lineProduced => exact ⟨State.sound_produceLine h, s.fed_produceLine.handsOver hand⟩
  case lineSent => exact ⟨State.sound_lineGoes h, s.fed_lineGoes.handsOver hand⟩
  case flash result _ => exact State.feed_flashDone h hand result
  case panelRead n =>
    refine State.Elsewhere.feed ?_ h hand
    unfold State.panelRead
    dsimp only
    split
    · exact ⟨by simp, by simp⟩
    · exact ⟨rfl, rfl⟩
  case roomSent =>
    refine State.Elsewhere.feed ?_ h hand
    unfold State.roomSent
    split
    · exact ⟨rfl, rfl⟩
    · exact ⟨rfl, rfl⟩
  case tetherSent =>
    unfold State.tetherSent
    split
    · exact ⟨h, hand⟩
    · exact ⟨State.sound_serveFeed (s := State.withCpi _ _) h, (State.fed_serveFeed (State.withCpi _ _)).handsOver hand⟩
  all_goals exact ⟨h.keep, hand⟩

theorem State.alike.keeps_feed (e : s.alike t) (h : s.flc.Sound) (hand : s.handsOver) : t.flc.Sound ∧ t.handsOver :=
  State.Elsewhere.feed ⟨e.flc, e.lsc⟩ h hand

end Feed

/-- After start-up and after a power loss nothing of the feed stands. -/
theorem Flc.sound_reset : State.reset.flc.Sound := ⟨nofun, fun _ => rfl, fun e => absurd rfl e, fun _ => ⟨rfl, rfl, rfl⟩⟩

/-- Settles O6: with the settings' ranges, by what each operation of the feed does to the frame in flight, the buffer and the page timer. -/
theorem feedStaysSound : Obligations.FeedStaysSound := by
  refine keptByStep_of_effects (fun s t e hs => ?_) (fun s _ => ?_) (fun s _ => ?_) fun s t e hs => ?_
  · obtain ⟨settings, h, hand⟩ := s.feedSound_iff.mp hs
    exact t.feedSound_iff.mpr ⟨e.sameSettings.keeps settings, e.keeps_feed h hand⟩
  · exact (State.feedSound_iff _).mpr ⟨s.settingsSound_startedUp, Flc.sound_reset, fun _ _ => rfl⟩
  · exact (State.feedSound_iff _).mpr ⟨State.SameSettings.keeps { reading := fun _ h => nomatch h } s.settingsSound_startedUp,
      Flc.sound_reset, fun _ _ => rfl⟩
  · obtain ⟨settings, h, hand⟩ := s.feedSound_iff.mp hs
    obtain ⟨_, _, _, _, _, _, _, _, _, marks, _⟩ := settings
    exact t.feedSound_iff.mpr ⟨e.keeps_settingsSound hs.1, e.keeps_feed marks h hand⟩

end Sys2Proof.Machine

namespace Sys2Proof.Machine

/-! ### The ports stay sound (10 R155 to R160) -/

section PortState
variable {x y z : PortState}

/-- Every bit of a port's flags is one of an enabled event. -/
theorem flags_within_iff (f e : Quad) : f &&& e = f ↔ ∀ i, f.getLsbD i = true → e.getLsbD i = true := by
  constructor
  · intro h i hi
    rw [← h, BitVec.getLsbD_and, Bool.and_eq_true] at hi
    exact hi.2
  · intro h
    refine BitVec.eq_of_getLsbD_eq fun i _ => ?_
    rw [BitVec.getLsbD_and]
    cases hi : f.getLsbD i with
    | false => rfl
    | true => rw [h i hi]; rfl

theorem PortState.sound_raised (h : x.sound) (e : Event) : (x.raised e).sound := by
  obtain ⟨few, waits, flags⟩ := h
  unfold PortState.raised
  split
  · next enabled =>
    refine ⟨few, waits, (flags_within_iff _ _).mpr fun i hi => ?_⟩
    simp only [BitVec.getLsbD_or, Bool.or_eq_true] at hi
    rcases hi with hi | hi
    · exact (flags_within_iff _ _).mp flags i hi
    · have : i = e.number := by
        simp only [Event.bit, BitVec.getLsbD_shiftLeft, BitVec.getLsbD_one, Bool.and_eq_true, Bool.not_eq_true', decide_eq_false_iff_not,
          decide_eq_true_eq] at hi
        omega
      exact this ▸ enabled
  · exact ⟨few, waits, flags⟩

theorem PortState.sound_give (h : x.sound) (r : Completion) : (x.give r).sound := by
  obtain ⟨few, waits, flags⟩ := h
  unfold PortState.give
  split
  · next short => exact ⟨by rw [List.length_append]; exact short, waits, flags⟩
  · exact ⟨few, waits, flags⟩

theorem PortState.sound_enable (h : x.sound) (e : Quad) : (x.enable e).sound := by
  obtain ⟨few, waits, -⟩ := h
  exact ⟨few, waits, by simp [PortState.enable, BitVec.and_assoc]⟩

theorem PortState.sound_begun (h : x.sound) (k : Sending) : (x.begun k).sound := by
  obtain ⟨few, waits, flags⟩ := h
  cases k
  · exact ⟨few, waits, flags⟩
  · exact ⟨few, waits, flags⟩
  · exact ⟨few, waits, by simp [PortState.begun]⟩

theorem PortState.sound_ended (h : x.sound) (k : Sending) : (x.ended k).sound := by
  obtain ⟨few, waits, flags⟩ := h
  cases k
  · exact ⟨few, (fun e => nomatch e), flags⟩
  · refine ⟨?_, waits, flags⟩
    simp only [PortState.ended, List.length_tail]; omega
  · exact ⟨few, waits, flags⟩

theorem PortState.sound_restarted (x : PortState) : x.restarted.sound := ⟨Nat.zero_le _, (fun e => nomatch e), by simp [PortState.restarted]⟩

theorem PortState.choice_eq_none (x : PortState) : x.choice = none ↔ x.owed = none ∧ x.completions = [] ∧ x.flags = 0 := by
  unfold PortState.choice
  cases x.owed <;> cases x.completions <;> by_cases hf : x.flags = 0 <;> simp [hf]

theorem PortState.holds_choice {k : Sending} (h : x.choice = some k) : x.holds k := by
  unfold PortState.choice at h
  split at h
  · next owed => cases h; exact owed
  split at h
  · next some => cases h; simpa [PortState.holds] using some
  split at h
  · cases h; trivial
  · exact nomatch h

/-- A port that gained events and records at most. -/
structure PortState.gains (x y : PortState) : Prop where
  owed : y.owed = x.owed
  completions : y.completions = [] → x.completions = []
  flags : y.flags = 0 → x.flags = 0

theorem PortState.gains.refl (x : PortState) : x.gains x := ⟨rfl, id, id⟩

theorem PortState.gains.trans (h : x.gains y) (g : y.gains z) : x.gains z :=
  ⟨g.owed.trans h.owed, h.completions ∘ g.completions, h.flags ∘ g.flags⟩

theorem PortState.gains_raised (x : PortState) (e : Event) : x.gains (x.raised e) := by
  refine ⟨by simp, by simp, fun h => ?_⟩
  unfold PortState.raised at h
  split at h
  · exact (BitVec.or_eq_zero_iff.mp h).1
  · exact h

theorem PortState.gains_give (x : PortState) (r : Completion) : x.gains (x.give r) := by
  refine ⟨by simp, fun h => ?_, by simp⟩
  unfold PortState.give at h
  split at h
  · exact absurd h (by simp)
  · exact h

theorem PortState.gains.holds (h : x.gains y) {k : Sending} (hk : x.holds k) : y.holds k := by
  cases k with
  | reply => exact (congrArg Option.isSome h.owed).trans hk
  | completion => exact fun e => hk (h.completions e)
  | notice => trivial

end PortState

/-- The CPI's own part of the ports' soundness, which holds during an arrival as well. -/
structure Cpi.Sound (c : Cpi) : Prop where
  ports : ∀ p, (c.port p).sound
  counters : c.counters.length = 8
  room : ∀ k, c.roomTx = some k → c.room.holds k
  tether : ∀ k, c.tetherTx = some k → c.tether.holds k
  side : c.tetherTx ≠ none → c.lastSide = some .cpi

section Cpi
variable {c d : Cpi}

theorem Cpi.Noted.gains (h : c.Noted d) (p : Port) : (c.port p).gains (d.port p) := by
  induction h with
  | same => exact .refl _
  | raise e _ ih => rw [Cpi.port_raise]; exact ih.trans (PortState.gains_raised _ e)
  | give q r _ ih =>
    rw [Cpi.port_given]
    split
    · next e => subst e; exact ih.trans (PortState.gains_give _ r)
    · exact ih
  | @count d k _ ih =>
    rcases d.count_port k p with e | e
    · rw [e]; exact ih
    · rw [e]; exact ih.trans (PortState.gains_raised _ _)

theorem Cpi.Noted.sound_ports (h : c.Noted d) (hs : ∀ p, (c.port p).sound) (p : Port) : (d.port p).sound := by
  induction h generalizing p with
  | same => exact hs p
  | raise e _ ih => rw [Cpi.port_raise]; exact PortState.sound_raised (ih p) e
  | give q r _ ih =>
    rw [Cpi.port_given]
    split
    · next e => subst e; exact PortState.sound_give (ih _) r
    · exact ih p
  | @count d k _ ih =>
    rcases d.count_port k p with e | e
    · rw [e]; exact ih p
    · rw [e]; exact PortState.sound_raised (ih p) _

/-- Notes keep the ports sound. -/
theorem Cpi.Sound.noted (hs : c.Sound) (h : c.Noted d) : d.Sound where
  ports := h.sound_ports hs.ports
  counters := h.keeps.counters.trans hs.counters
  room k e := (h.gains .room).holds (hs.room k (h.keeps.roomTx ▸ e))
  tether k e := (h.gains .tether).holds (hs.tether k (h.keeps.tetherTx ▸ e))
  side e := h.keeps.lastSide.trans (hs.side (h.keeps.tetherTx ▸ e))

/-- The soundness looks at the ports, the number of counters and the transmitters. -/
theorem Cpi.Sound.same (h : c.Sound) (panel : d.panel = c.panel := by rfl) (room : d.room = c.room := by rfl)
    (tether : d.tether = c.tether := by rfl) (counters : d.counters.length = 8) (roomTx : d.roomTx = c.roomTx := by rfl)
    (tetherTx : d.tetherTx = c.tetherTx := by rfl) (side : d.lastSide = c.lastSide := by rfl) : d.Sound where
  ports p := by
    have same : d.port p = c.port p := by cases p <;> assumption
    rw [same]; exact h.ports p
  counters := counters
  room k e := room ▸ h.room k (roomTx ▸ e)
  tether k e := tether ▸ h.tether k (tetherTx ▸ e)
  side e := side.trans (h.side (tetherTx ▸ e))

/-- A port may take another state that is sound and still holds what its transmitter sends. -/
theorem Cpi.Sound.setPort (hs : c.Sound) (p : Port) {y : PortState} (sound : y.sound)
    (held : p ≠ .panel → ∀ k, (c.port p).holds k → y.holds k) : (c.setPort p y).Sound := by
  have ports : ∀ q, ((c.setPort p y).port q).sound := fun q => by
    by_cases h : q = p
    · subst h; rw [c.port_setPort]; exact sound
    · rw [c.port_setPort_ne _ h]; exact hs.ports q
  obtain ⟨-, counters, room, tether, side⟩ := hs
  cases p
  · exact ⟨ports, counters, room, tether, side⟩
  · exact ⟨ports, counters, fun k e => held Port.noConfusion k (room k e), tether, side⟩
  · exact ⟨ports, counters, room, fun k e => held Port.noConfusion k (tether k e), side⟩

/-- The link is not freed: it was already free when the other one is. -/
def Cpi.keepsLink (c d : Cpi) : Prop := d.linkFree → c.linkFree

theorem Cpi.keepsLink.trans {e : Cpi} (h : c.keepsLink d) (g : d.keepsLink e) : c.keepsLink e := h ∘ g

theorem Cpi.keepsLink_of (gains : c.tether.gains d.tether) (tx : d.tetherTx = c.tetherTx) (side : d.lastSide = c.lastSide) : c.keepsLink d := by
  rintro ⟨free, last⟩
  refine ⟨tx ▸ free, last.imp (fun e => side ▸ e) ?_⟩
  rintro ⟨owed, completions, flags⟩
  exact ⟨gains.owed ▸ owed, gains.completions completions, gains.flags flags⟩

theorem Cpi.Noted.keepsLink (h : c.Noted d) : c.keepsLink d := Cpi.keepsLink_of (h.gains .tether) h.keeps.tetherTx h.keeps.lastSide

end Cpi

/-- What holds of the ports during an arrival: on a link that is free for the feed link controller neither page nor cut waits. -/
structure State.PortsHeld (s : State) : Prop where
  cpi : s.cpi.Sound
  pages : s.cpi.linkFree → s.flc.pages = []
  cut : s.cpi.linkFree → s.flc.cutReady = false

/-- What holds of the ports between arrivals, but for what waits at the ports themselves. -/
structure State.PortsSettled (s : State) : Prop where
  cpi : s.cpi.Sound
  settled : s.linkSettled

section Ports
variable {s t u : State}

theorem State.PortsSettled.held (h : s.PortsSettled) : s.PortsHeld :=
  ⟨h.cpi, fun free => (h.settled free.1).1, fun free => (h.settled free.1).2⟩

theorem State.portsSettled_of (h : s.portsSound) : s.PortsSettled := by
  obtain ⟨panel, room, tether, counters, roomHeld, tetherHeld, -, -, side, settled⟩ := h
  exact ⟨⟨fun p => by cases p <;> assumption, counters, roomHeld, tetherHeld, side⟩, settled⟩

/-! ### The sendings at the end of an arrival -/

theorem Cpi.sound_startRoom (h : s.cpi.Sound) : s.startRoom.cpi.Sound := by
  unfold State.startRoom
  split
  · next k _ chosen =>
    obtain ⟨ports, counters, -, tether, side⟩ := h
    refine ⟨fun p => ?_, counters, fun k' e => ?_, tether, side⟩
    · cases p
      · exact ports .panel
      · exact PortState.sound_begun (ports .room) k
      · exact ports .tether
    · cases e
      have holds := PortState.holds_choice chosen
      cases k <;> exact holds
  · exact h

/-- After the sendings a free Room transmitter has nothing to send. -/
theorem State.startRoom_idle (s : State) (idle : s.startRoom.cpi.roomTx = none) : s.startRoom.cpi.room.choice = none := by
  unfold State.startRoom at idle ⊢
  split at idle
  · exact nomatch idle
  · next other => exact Option.eq_none_iff_forall_ne_some.mpr fun k chosen => other k idle chosen

theorem Cpi.sound_startTether (h : s.cpi.Sound) : s.startTether.cpi.Sound := by
  unfold State.startTether
  split
  · next k _ chosen =>
    split
    · exact h
    · obtain ⟨ports, counters, room, -, -⟩ := h
      refine ⟨fun p => ?_, counters, room, fun k' e => ?_, fun _ => rfl⟩
      · cases p
        · exact ports .panel
        · exact ports .room
        · exact PortState.sound_begun (ports .tether) k
      · cases e
        have holds := PortState.holds_choice chosen
        cases k <;> exact holds
  · exact h

/-- A tether transmitter that stays free has nothing to send, or the link is the feed link controller's turn. -/
theorem State.startTether_idle (s : State) (idle : s.startTether.cpi.tetherTx = none) :
    s.startTether = s ∧ (s.cpi.tether.choice = none ∨ (s.flc.ready = true ∧ s.cpi.lastSide = some .cpi)) := by
  unfold State.startTether at idle ⊢
  split at idle
  · next k free chosen =>
    split at idle
    · next turn =>
      simp only [Bool.and_eq_true, beq_iff_eq] at turn
      exact ⟨if_pos (by simpa using turn), .inr turn⟩
    · exact nomatch idle
  · next other =>
    exact ⟨rfl, .inl (Option.eq_none_iff_forall_ne_some.mpr fun k chosen => other k idle chosen)⟩

theorem Flc.lineReady_of_ready {f : Flc} (h : f.ready = true) (pages : f.pages = []) (cut : f.cutReady = false) : f.lineReady = true := by
  simpa [Flc.ready, pages, cut] using h

/-- The sendings at the end of an arrival make the ports sound. -/
theorem State.PortsHeld.transmit (h : s.PortsHeld) : s.transmit.portsSound := by
  have started : s.startRoom.cpi.Sound := Cpi.sound_startRoom h.cpi
  have sound : s.transmit.cpi.Sound := Cpi.sound_startTether started
  have room : s.transmit.cpi.roomTx = none → s.transmit.cpi.room.choice = none := by
    have same : s.transmit.cpi.roomTx = s.startRoom.cpi.roomTx ∧ s.transmit.cpi.room = s.startRoom.cpi.room := by
      unfold State.transmit State.startTether
      split
      · split <;> exact ⟨rfl, rfl⟩
      · exact ⟨rfl, rfl⟩
    rw [same.1, same.2]
    exact s.startRoom_idle
  have link : s.startRoom.cpi.tetherTx = s.cpi.tetherTx ∧ s.startRoom.cpi.tether = s.cpi.tether ∧
      s.startRoom.cpi.lastSide = s.cpi.lastSide := by
    unfold State.startRoom
    split <;> exact ⟨rfl, rfl, rfl⟩
  have idle (free : s.transmit.cpi.tetherTx = none) : s.transmit.flc.pages = [] ∧ s.transmit.flc.cutReady = false ∧
      (s.transmit.cpi.tether.choice = none ∨ (s.transmit.flc.ready = true ∧ s.transmit.cpi.lastSide = some .cpi)) := by
    obtain ⟨same, turn⟩ := s.startRoom.startTether_idle free
    have same : s.transmit = s.startRoom := same
    rw [same] at free ⊢
    have linkFree : s.cpi.linkFree := by
      rw [link.2.1, link.2.2] at turn
      refine ⟨link.1 ▸ free, ?_⟩
      rcases turn with none | ⟨-, last⟩
      · exact .inr ((PortState.choice_eq_none _).mp none)
      · exact .inl last
    exact ⟨by simpa using h.pages linkFree, by simpa using h.cut linkFree, turn⟩
  refine ⟨sound.ports .panel, sound.ports .room, sound.ports .tether, sound.counters, sound.room, sound.tether, room, fun free => ?_,
    sound.side, fun free => ⟨(idle free).1, (idle free).2.1⟩⟩
  obtain ⟨pages, cut, turn⟩ := idle free
  exact turn.imp id fun ⟨ready, last⟩ => ⟨Flc.lineReady_of_ready ready pages cut, last⟩

/-! ### Commands -/

/-- What a command's work leaves of the ports before its reply: it changes its own port, and of the others it raises events and gives
records at most. -/
structure State.WorksAt (s : State) (p : Port) (u : State) : Prop where
  cpi : u.cpi.Sound
  others : ∀ q, q ≠ p → (s.cpi.port q).gains (u.cpi.port q)
  tx : u.cpi.tetherTx = s.cpi.tetherTx
  side : u.cpi.lastSide = s.cpi.lastSide
  pages : u.flc.pages = s.flc.pages
  cut : u.flc.cutReady = s.flc.cutReady

theorem State.worksAt_noted {p : Port} (h : s.cpi.Sound) (noted : s.cpi.Noted u.cpi) (pages : u.flc.pages = s.flc.pages := by rfl)
    (cut : u.flc.cutReady = s.flc.cutReady := by rfl) : s.WorksAt p u :=
  ⟨h.noted noted, fun q _ => noted.gains q, noted.keeps.tetherTx, noted.keeps.lastSide, pages, cut⟩

theorem State.worksAt_of_ports {p : Port} (h : s.cpi.Sound) (panel : u.cpi.panel = s.cpi.panel := by rfl)
    (room : u.cpi.room = s.cpi.room := by rfl) (tether : u.cpi.tether = s.cpi.tether := by rfl)
    (counters : u.cpi.counters.length = 8 := by exact h.counters) (roomTx : u.cpi.roomTx = s.cpi.roomTx := by rfl)
    (tetherTx : u.cpi.tetherTx = s.cpi.tetherTx := by rfl) (side : u.cpi.lastSide = s.cpi.lastSide := by rfl)
    (flc : u.flc = s.flc := by rfl) : s.WorksAt p u := by
  refine ⟨h.same panel room tether counters roomTx tetherTx side, fun q _ => ?_, tetherTx, side, congrArg _ flc, congrArg _ flc⟩
  have same : u.cpi.port q = s.cpi.port q := by cases q <;> assumption
  rw [same]; exact .refl _

theorem State.Ran.worksAt {p : Port} (ran : s.Ran u) (h : s.cpi.Sound) : s.WorksAt p u :=
  State.worksAt_noted h ran.cpi (congrArg _ ran.flc) (congrArg _ ran.flc)

theorem State.worksAt_changePort {p : Port} (h : s.cpi.Sound) (f : PortState → PortState) (sound : (f (s.cpi.port p)).sound)
    (held : p ≠ .panel → ∀ k, (s.cpi.port p).holds k → (f (s.cpi.port p)).holds k) : s.WorksAt p (s.changePort p f) := by
  refine ⟨h.setPort p sound held, fun q hq => ?_, ?_, ?_, rfl, rfl⟩
  · show (s.cpi.port q).gains ((s.cpi.setPort p _).port q)
    rw [s.cpi.port_setPort_ne _ hq]; exact .refl _
  · cases p <;> rfl
  · cases p <;> rfl

/-- The reply that a command owes keeps the link from becoming free by its work. -/
theorem State.WorksAt.owe {p : Port} (w : s.WorksAt p u) (h : s.PortsHeld) (r : Reply) : (u.owe p r).PortsHeld := by
  have link : s.cpi.keepsLink (u.owe p r).cpi := by
    rintro ⟨free, turn⟩
    have tx : s.cpi.tetherTx = none := by rw [← w.tx]; cases p <;> exact free
    refine ⟨tx, ?_⟩
    by_cases e : p = .tether
    · subst e
      exact turn.imp (fun last => w.side ▸ last) fun none => nomatch none.1
    · have gains := w.others .tether (Ne.symm e)
      have same : (u.owe p r).cpi.tether = u.cpi.tether ∧ (u.owe p r).cpi.lastSide = u.cpi.lastSide := by
        cases p
        · exact ⟨rfl, rfl⟩
        · exact ⟨rfl, rfl⟩
        · exact absurd rfl e
      rw [same.1, same.2, w.side] at turn
      exact turn.imp id fun ⟨owed, completions, flags⟩ => ⟨gains.owed ▸ owed, gains.completions completions, gains.flags flags⟩
  obtain ⟨few, -, flags⟩ := w.cpi.ports p
  refine ⟨w.cpi.setPort p ⟨few, fun _ => rfl, flags⟩ fun _ k holds => ?_, fun free => ?_, fun free => ?_⟩
  · cases k with
    | reply => rfl
    | completion => exact holds
    | notice => trivial
  · rw [State.owe_flc, w.pages]; exact h.pages (link free)
  · rw [State.owe_flc, w.cut]; exact h.cut (link free)

theorem State.noted_endWatch (s : State) (e : Ending) : s.cpi.Noted (s.endWatch e).cpi := by
  unfold State.endWatch
  split
  · exact .same
  · exact .give _ _ .same

theorem State.Worked.worksAt {p : Port} (hw : s.Worked p u) (h : s.cpi.Sound) : s.WorksAt p u := by
  cases hw
  case aimed => exact State.worksAt_noted h (.raise _ .same)
  case zoomed => exact State.worksAt_noted h (.raise _ (s.noted_endWatch _)) (by simp) (by simp)
  case fitted =>
    exact State.worksAt_noted h (.raise _ (s.noted_endWatch _)) (by simp [State.fitPage, State.aim]) (by simp [State.fitPage, State.aim])
  case frozen => exact State.worksAt_noted h (.raise _ .same)
  case unfrozen =>
    unfold State.unfreeze
    split
    · exact State.worksAt_noted h (.raise _ .same)
    · exact State.worksAt_noted h (.raise _ .same)
  case laidOut => exact State.worksAt_noted h (.raise _ .same)
  case shownLive =>
    unfold State.showLive
    split
    · exact State.worksAt_noted h (.raise _ .same)
    · exact State.worksAt_noted h (.raise _ .same)
  case glideSet => exact State.worksAt_noted h (.raise _ .same)
  case outputRestarted => exact State.worksAt_noted h (.raise _ .same)
  case stored hd k _ _ => exact (s.ran_acceptStore hd k).worksAt h
  case queued => exact (s.ran_enqueue _).worksAt h
  case withdrawn n _ => exact (s.ran_withdrawAt n).worksAt h
  case completionsRead =>
    obtain ⟨few, waits, flags⟩ := h.ports p
    refine State.worksAt_changePort h _ ⟨?_, waits, flags⟩ fun other k holds => ?_
    · simp only [List.length_drop]; omega
    · have kept : s.cpi.readable p = [] := by cases p <;> first | rfl | exact absurd rfl other
      cases k with
      | reply => exact holds
      | completion => simpa [PortState.holds, kept] using holds
      | notice => trivial
  case noticesRead =>
    obtain ⟨few, waits, -⟩ := h.ports p
    exact State.worksAt_changePort h _ ⟨few, waits, by simp⟩ fun _ k holds => by cases k <;> exact holds
  case enablesSet e _ =>
    exact State.worksAt_changePort h _ (PortState.sound_enable (h.ports p) e) fun _ k holds => by cases k <;> exact holds
  case reachSet room _ _ _ => cases room <;> exact State.worksAt_of_ports h
  case countersCleared => exact State.worksAt_of_ports h (counters := rfl)
  case halfMasksSet => exact State.worksAt_of_ports h
  all_goals exact State.worksAt_noted h .same

/-! ### The work that gives nothing to the link -/

/-- Work that gives no packet to the link, and makes no frame's cut ready to be told. -/
structure State.Queues (s t : State) : Prop where
  cpi : s.cpi.Noted t.cpi
  cut : t.flc.cutReady = true → s.flc.cutReady = true

theorem State.Queues.trans (h : s.Queues t) (g : t.Queues u) : s.Queues u := ⟨h.cpi.trans g.cpi, h.cut ∘ g.cut⟩

theorem State.Queues.after (g : t.Queues u) (h : s.Queues t) : s.Queues u := h.trans g

/-- Such work that has no new page for the link either. -/
structure State.Notes (s t : State) : Prop extends s.Queues t where
  pages : t.flc.pages = s.flc.pages

theorem State.Notes.after (g : t.Notes u) (h : s.Notes t) : s.Notes u := ⟨h.toQueues.trans g.toQueues, g.pages.trans h.pages⟩

theorem State.Notes.refl (s : State) : s.Notes s := ⟨⟨.same, id⟩, rfl⟩

theorem State.Ran.notes (ran : s.Ran t) : s.Notes t :=
  ⟨⟨ran.cpi, fun e => (congrArg Flc.cutReady ran.flc).symm.trans e⟩, congrArg _ ran.flc⟩

theorem State.Elsewhere.notes (e : s.Elsewhere t) (noted : s.cpi.Noted t.cpi) : s.Notes t :=
  ⟨⟨noted, fun h => (congrArg Flc.cutReady e.flc).symm.trans h⟩, congrArg _ e.flc⟩

/-- A frame stays cut only where it was, while the hold stays. -/
theorem Flc.cutReady_of_same {f g : Flc} (frame : g.frame = f.frame) (hold : g.hold = f.hold) (h : g.cutReady = true) :
    f.cutReady = true := by
  unfold Flc.cutReady at h ⊢
  rw [frame, hold] at h; exact h

theorem Flc.cutReady_of_none {f g : Flc} (h : g.frame = none) : g.cutReady = true → f.cutReady = true := by
  intro e
  rw [Flc.cutReady, h] at e; exact nomatch e

theorem State.Notes.held (n : s.Notes t) (h : s.PortsHeld) : t.PortsHeld where
  cpi := h.cpi.noted n.cpi
  pages free := n.pages.trans (h.pages (n.cpi.keepsLink free))
  cut free := by
    have was := h.cut (n.cpi.keepsLink free)
    cases e : t.flc.cutReady with
    | false => rfl
    | true => rw [n.cut e] at was; exact was

section Queues
variable (s)

theorem State.notes_withFlc {f : Flc} (frame : f.frame = s.flc.frame := by rfl) (hold : f.hold = s.flc.hold := by rfl)
    (pages : f.pages = s.flc.pages := by rfl) : s.Notes (s.withFlc f) := ⟨⟨.same, Flc.cutReady_of_same frame hold⟩, pages⟩

theorem State.queues_withFlc {f : Flc} (frame : f.frame = s.flc.frame := by rfl) (hold : f.hold = s.flc.hold := by rfl) :
    s.Queues (s.withFlc f) := ⟨.same, Flc.cutReady_of_same frame hold⟩

theorem State.notes_withSpm (p : Spm) : s.Notes (s.withSpm p) := (s.ran_withSpm p).notes

theorem State.queues_queuePage (p : AgreementPage) : s.Queues (s.queuePage p) := s.queues_withFlc

theorem State.queues_startPageTimer : s.Queues s.startPageTimer := s.queues_withFlc

theorem State.queues_sendOffer (ack : Bool) : s.Queues (s.sendOffer ack) := (State.queues_startPageTimer _).after (s.queues_queuePage _)

theorem State.queues_beginAgreement : s.Queues s.beginAgreement := (State.queues_sendOffer _ _).after s.queues_withFlc

theorem State.queues_sendNote (ack2 : Bool) : s.Queues (s.sendNote ack2) := (State.queues_queuePage _ _).after s.queues_withFlc

theorem State.queues_resolve : s.Queues s.resolve := by
  unfold State.resolve
  split
  · exact (State.ran_raise _ _).notes.toQueues.after s.queues_withFlc
  · exact (State.ran_raise _ _).notes.toQueues.after ((State.queues_queuePage _ _).after s.queues_withFlc)

theorem State.queues_baseComplete : s.Queues s.baseComplete := by
  unfold State.baseComplete
  split
  · exact (State.queues_startPageTimer _).after ((State.queues_sendNote _ _).after s.queues_withFlc)
  · exact s.queues_resolve

theorem State.queues_takeOffer (o : BaseOffer) : s.Queues (s.takeOffer o) := by
  have answered : s.Queues ((s.withFlc { s.flc with partner := some o }).sendOffer true) :=
    (State.queues_sendOffer _ _).after s.queues_withFlc
  unfold State.takeOffer
  dsimp only
  split
  · exact (State.queues_baseComplete _).after answered
  · exact (State.queues_withFlc _).after answered

theorem Flc.hear_flies (f : Flc) (ack2 : Bool) : (f.hear ack2).frame = f.frame ∧ (f.hear ack2).hold = f.hold := by
  unfold Flc.hear Flc.agree
  split
  · exact ⟨rfl, rfl⟩
  split
  · split
    · exact ⟨rfl, rfl⟩
    · split_ifs <;> exact ⟨rfl, rfl⟩
  · exact ⟨rfl, rfl⟩

theorem Flc.takeNote_flies (f : Flc) (p : NotePage) : (f.takeNote p).1.frame = f.frame ∧ (f.takeNote p).1.hold = f.hold := by
  unfold Flc.takeNote
  split <;> split_ifs <;> exact ⟨rfl, rfl⟩

theorem State.queues_newNote (p : NotePage) : s.Queues (s.newNote p) := by
  have hear := s.flc.hear_flies p.ack2
  have take := (s.flc.hear p.ack2).takeNote_flies p
  have kept : s.Queues (s.withFlc { ((s.flc.hear p.ack2).takeNote p).1 with bridgeToggle := p.toggle }) :=
    s.queues_withFlc (take.1.trans hear.1) (take.2.trans hear.2)
  unfold State.newNote
  dsimp only
  split
  · exact (State.queues_resolve _).after ((State.queues_sendNote _ _).after kept)
  · exact (State.queues_startPageTimer _).after ((State.queues_sendNote _ _).after kept)

theorem State.queues_notePage (p : NotePage) : s.Queues (s.notePage p) := by
  unfold State.notePage State.repeatNote
  split
  · split
    · split
      · exact (State.Notes.refl s).toQueues
      · exact (State.queues_startPageTimer _).after (s.queues_queuePage _)
    · exact s.queues_newNote p
  all_goals exact (State.Notes.refl s).toQueues

theorem State.notes_endExport (r : Reason) : s.Notes (s.endExport r) := by
  unfold State.endExport
  split
  · exact .refl s
  · exact (State.ran_endHead _ r).notes.after ((State.notes_withSpm _ _).after s.notes_withFlc)

theorem State.notes_endKind (k : FeedKind) (r : Reason) : s.Notes (s.endKind k r) := by
  unfold State.endKind
  split
  · exact .refl s
  · exact s.notes_endExport r

theorem State.notes_countDropped : s.Notes s.countDropped := by
  unfold State.countDropped
  split
  · exact .refl s
  split
  · exact .refl s
  · exact (s.ran_count _).notes

theorem State.queues_leaveUp (a : Agreement) : s.Queues (s.leaveUp a) := by
  refine (State.notes_endExport _ _).toQueues.after ((State.notes_withSpm _ _).toQueues.after ?_)
  have left : s.countDropped.Queues (s.countDropped.withFlc (s.countDropped.flc.left a)) := ⟨.same, Flc.cutReady_of_none rfl⟩
  exact left.after s.notes_countDropped.toQueues

theorem State.queues_feedFault : s.Queues s.feedFault := by
  unfold State.feedFault
  refine (State.ran_raise _ _).notes.toQueues.after ((State.queues_withFlc _).after ?_)
  split
  · exact s.queues_leaveUp _
  · exact (State.Notes.refl s).toQueues

theorem State.queues_baseOffer (o : BaseOffer) : s.Queues (s.baseOffer o) := by
  have fault := s.queues_feedFault
  have nothing := (State.Notes.refl s).toQueues
  unfold State.baseOffer
  split
  case h_1 | h_2 => exact nothing
  case h_3 | h_4 =>
    split
    · exact s.queues_takeOffer o
    · exact fault
  case h_5 =>
    split
    · unfold State.offerAgain
      split
      · exact (State.queues_baseComplete _).after s.queues_withFlc
      · exact s.queues_takeOffer o
    · exact fault
  case h_6 =>
    split
    · split
      · exact (State.queues_takeOffer _ o).after ((State.queues_withFlc _).after
          ((State.ran_raise _ _).notes.toQueues.after (s.queues_leaveUp _)))
      · exact nothing
    · exact fault

theorem State.queues_pageExpired : s.Queues s.pageExpired := by
  have counted : s.Queues (s.withFlc { s.flc with restartCount := s.flc.restartCount + 1 }) := s.queues_withFlc
  unfold State.pageExpired
  dsimp only
  split
  · exact (State.queues_beginAgreement _).after counted
  · exact (State.ran_raise _ _).notes.toQueues.after ((State.queues_withFlc _).after counted)

theorem State.noted_restartFeed : s.cpi.Noted s.restartFeed.cpi := by
  unfold State.restartFeed
  refine Cpi.Noted.trans ?_ (State.queues_beginAgreement _).cpi
  rw [State.withFlc_cpi]
  split
  · exact (s.queues_leaveUp _).cpi
  · exact .same

/-- A frame that starts is not cut. -/
theorem State.notes_startFeedFrame : s.Notes s.startFeedFrame := by
  have uncut {f : Flc} {g : FeedFrame} (frame : f.frame = some g) (whole : g.cut = false) (h : f.cutReady = true) : s.flc.cutReady = true := by
    simp [Flc.cutReady, frame, whole] at h
  unfold State.startFeedFrame
  split
  · split
    · exact ⟨⟨.same, uncut rfl rfl⟩, rfl⟩
    · exact ⟨⟨.same, uncut rfl rfl⟩, rfl⟩
    · exact .refl s
  · exact .refl s

theorem State.notes_produceLine : s.Notes s.produceLine := by
  unfold State.produceLine
  split
  · exact .refl s
  · next f flying =>
    have cut (buffer : List FeedLine) (n : Nat)
        (h : Flc.cutReady { s.flc with buffer := buffer, frame := some (f.afterProduced n) } = true) : s.flc.cutReady = true := by
      unfold Flc.cutReady
      rw [flying]; exact h
    split
    · dsimp only
      split
      · exact ⟨⟨.same, cut _ _⟩, rfl⟩
      · exact ⟨⟨.same, cut _ _⟩, rfl⟩
    · exact .refl s

theorem State.notes_intervalExpired : s.Notes s.intervalExpired := by
  unfold State.intervalExpired
  split
  · exact s.notes_withFlc
  · exact (State.ran_count _ _).notes.after s.notes_withFlc

end Queues

/-! ### The work that gives packets to the link -/

theorem Cpi.sound_withSide {c : Cpi} (h : c.Sound) (free : c.tetherTx = none) (x : Option LinkSide) : (c.withSide x).Sound :=
  ⟨(fun | .panel => h.ports .panel | .room => h.ports .room | .tether => h.ports .tether), h.counters, h.room, h.tether, fun e => absurd free e⟩

theorem State.sendPages_held (h : s.cpi.Sound) (l : List AgreementPage) :
    (s.sendPages l).cpi.Sound ∧ s.cpi.keepsLink (s.sendPages l).cpi ∧ ((s.sendPages l).cpi.linkFree → (s.sendPages l).flc.pages = []) ∧
      ((s.sendPages l).flc.cutReady = s.flc.cutReady) := by
  induction l generalizing s with
  | nil => exact ⟨h, id, fun _ => rfl, rfl⟩
  | cons p rest ih =>
    unfold State.sendPages
    split
    · next free =>
      obtain ⟨sound, -, pages, cut⟩ := ih (s := s.sendPacket (.page p)) (Cpi.sound_withSide h ((Cpi.linkTakesFeed_iff _).mp free).1 _)
      exact ⟨sound, fun _ => (Cpi.linkTakesFeed_iff _).mp free, pages, cut⟩
    · next busy => exact ⟨h, id, fun free => absurd ((Cpi.linkTakesFeed_iff _).mpr free) busy, rfl⟩

/-- New pages take their turn on the link. -/
theorem State.Queues.serve (q : s.Queues t) (h : s.PortsHeld) : t.servePages.PortsHeld := by
  obtain ⟨sound, link, pages, cut⟩ := State.sendPages_held (h.cpi.noted q.cpi) t.flc.pages
  refine ⟨sound, pages, fun free => ?_⟩
  have was := h.cut (q.cpi.keepsLink (link free))
  show (t.sendPages t.flc.pages).flc.cutReady = false
  rw [cut]
  cases e : t.flc.cutReady with
  | false => rfl
  | true => rw [q.cut e] at was; exact was

/-- FRAME_END with CUT goes where the link is free for it. -/
theorem State.sendCutEnd_held (h : s.cpi.Sound) (pages : s.cpi.linkFree → s.flc.pages = []) : s.sendCutEnd.PortsHeld := by
  unfold State.sendCutEnd
  split
  · next none => exact ⟨h, pages, fun _ => by rw [Flc.cutReady, none]⟩
  · next f flying =>
    split
    · next goes =>
      rw [Bool.and_eq_true] at goes
      have free := (Cpi.linkTakesFeed_iff _).mp goes.2
      have sent : ((s.sendStart f).sendPacket (.frameEnd true)).frameOver.cpi = s.cpi.withSide (some .flc) ∧
          ((s.sendStart f).sendPacket (.frameEnd true)).frameOver.flc.pages = s.flc.pages := by
        unfold State.sendStart
        split <;> exact ⟨rfl, rfl⟩
      refine (State.notes_endKind _ f.kind .feedCut).held ⟨?_, fun _ => ?_, fun _ => rfl⟩
      · rw [sent.1]; exact Cpi.sound_withSide h free.1 _
      · rw [sent.2]; exact pages free
    · next waits =>
      refine ⟨h, pages, fun free => ?_⟩
      rw [(Cpi.linkTakesFeed_iff _).mpr free, Bool.and_true] at waits
      exact Bool.eq_false_iff.mpr waits

theorem State.serveFeed_held (h : s.cpi.Sound) : s.serveFeed.PortsHeld := by
  obtain ⟨sound, -, pages, -⟩ := State.sendPages_held h s.flc.pages
  exact State.sendCutEnd_held sound pages

theorem State.cutFrame_held (h : s.PortsHeld) : s.cutFrame.PortsHeld := by
  unfold State.cutFrame
  split
  · next none => exact h
  · have counted := (s.withSpm (s.spm.removeKind .feed)).ran_count .feedFramesCut
    have noted : s.cpi.Noted (s.cpi.count .feedFramesCut) := counted.cpi
    exact State.sendCutEnd_held (h.cpi.noted noted) fun free => h.pages (noted.keepsLink free)

theorem State.takeHold_held (h : s.PortsHeld) (d : Half) : (s.takeHold d).PortsHeld := by
  unfold State.takeHold
  split
  · exact State.sendCutEnd_held h.cpi h.pages
  · refine ⟨h.cpi, h.pages, fun _ => ?_⟩
    unfold Flc.cutReady
    split
    · rfl
    · exact Bool.and_false _

theorem State.lineGoes_held (h : s.PortsSettled) (free : s.cpi.tetherTx = none) : s.lineGoes.PortsHeld := by
  obtain ⟨none, uncut⟩ := h.settled free
  unfold State.lineGoes
  split
  · next f l rest flying _ =>
    split
    · have started : (s.sendStart f).cpi.withSide (some .flc) = s.cpi.withSide (some .flc) := by
        unfold State.sendStart
        split <;> rfl
      have side : ((s.sendStart f).cpi.withSide (some .flc)).Sound := started ▸ Cpi.sound_withSide h.cpi free _
      unfold State.sendLine
      dsimp only
      split
      · exact (State.notes_endKind _ _ _).held ((State.ran_count _ _).notes.held ⟨side, fun _ => none, fun _ => rfl⟩)
      · refine ⟨side, fun _ => none, fun _ => ?_⟩
        show Flc.cutReady { s.flc with buffer := rest, frame := some (f.afterSent rest.length) } = false
        rw [Flc.cutReady, flying] at uncut
        exact uncut
    · exact h.held
  · exact h.held

/-! ### The intake, the output and the flash work -/

section Others
variable (s)

theorem State.noted_breakFrame : s.cpi.Noted s.breakFrame.cpi := .raise _ (.count _ .same)

theorem State.noted_frameStart : s.cpi.Noted s.endFrameInProgress.openFrame.askSlot.cpi := by
  have ended : s.cpi.Noted s.endFrameInProgress.cpi := by
    unfold State.endFrameInProgress
    split
    · exact .same
    · exact s.noted_breakFrame
    · exact .same
    · exact .same
    · exact .raise _ .same
  refine ended.trans ?_
  unfold State.askSlot
  split
  · exact .same
  · exact .count _ .same

theorem State.noted_lineEnd (line : List PixelClock) : s.cpi.Noted (s.lineEnd line).cpi := by
  unfold State.lineEnd
  split
  · split
    · unfold State.acceptLine State.enhanceAccepted
      dsimp only
      split
      all_goals simpa using Cpi.Noted.same
    · exact s.noted_breakFrame
  all_goals exact .same

theorem State.noted_frameEnd : s.cpi.Noted s.frameEnd.cpi := by
  have last : s.enhanceLast.moveLatest.cpi = s.cpi := by
    have enhanced : s.enhanceLast.cpi = s.cpi := by unfold State.enhanceLast; split <;> simp
    unfold State.moveLatest
    split <;> exact enhanced
  have settled : ((s.enhanceLast.moveLatest).count .framesIn).settle.cpi = s.cpi.count .framesIn := by
    unfold State.settle
    split <;> exact congrArg (Cpi.count · _) last
  unfold State.frameEnd
  split
  · split
    · unfold State.goodFrame State.boxNotice
      rw [State.setIntake_cpi]
      split
      · rw [settled]; exact .count _ .same
      · rw [State.raise, State.withCpi_cpi, settled]; exact .raise _ (.count _ .same)
    · exact s.noted_breakFrame
  all_goals exact .same

theorem State.noted_signalLost : s.cpi.Noted s.signalLost.cpi := by
  unfold State.signalLost
  dsimp only
  split
  · exact .raise _ s.noted_breakFrame
  · exact .raise _ .same

theorem State.noted_frameStarts : s.cpi.Noted s.frameStarts.cpi := by
  unfold State.frameStarts
  split
  · exact .same
  split
  · exact .same
  · have glided : s.glide.cpi = s.cpi := by unfold State.glide; split <;> rfl
    unfold State.outputFrame State.latchPanes State.testWatch
    rw [State.withSpm_cpi, State.withDou_cpi, ← glided]
    split
    · exact State.noted_endWatch _ _
    · exact .same

theorem State.notes_writing (w : CatalogueWrite) (result : FlashResult) : s.Notes (s.writing w result) := by
  have failed := (State.ran_writeFailed s.readOnly w.owner).after s.ran_readOnly
  unfold State.writing
  split
  · next op next _ =>
    generalize Activity.writing next = activity
    exact ⟨⟨.same, id⟩, rfl⟩
  · have passed := s.ran_written w.block
    by_cases owner : w.owner = .recovery
    · rw [owner, State.writePassed]
      exact ⟨⟨.raise _ passed.cpi, passed.notes.cut⟩, passed.notes.pages⟩
    · exact ((State.ran_writePassed _ owner).after passed).notes
  · split
    · split
      · next h' => exact (State.ran_attempt _ h').notes
      · exact failed.notes
    · exact failed.notes

end Others

theorem State.notes_loaded (s : State) (j : Job) (r : PageRecord) (n : Nat) (c : PageCheck) (result : FlashResult) :
    s.Notes (s.loaded j r n c result).1 := by
  unfold State.loaded
  dsimp only
  split
  · exact ⟨⟨.same, id⟩, rfl⟩
  split
  · unfold State.loadSound
    split
    · unfold State.handExport
      dsimp only
      split
      · exact ⟨⟨.same, Flc.cutReady_of_same rfl rfl⟩, rfl⟩
      · exact ⟨⟨.same, id⟩, rfl⟩
    · exact ⟨⟨.raise _ .same, id⟩, rfl⟩
  · exact (State.ran_damaged (s.withSpm (s.spm.draw n fun p => p.addBytes c.page result)) j n r.serial).notes.after (s.notes_withSpm _)

theorem State.notes_dropUnfinished (s : State) : s.Notes s.dropUnfinished := by
  have dropped : s.Notes ((s.withLsc (s.lsc.withLessons (dropWriting s.lsc.lessons))).raise .pageDroppedAtStart) :=
    ⟨⟨.raise _ .same, id⟩, rfl⟩
  unfold State.dropUnfinished
  split
  · dsimp only
    split
    · next u hu => exact (State.ran_attempt _ hu).notes.after dropped
    · exact (State.ran_readOnly _).notes.after dropped
  · exact ⟨⟨.raise _ .same, id⟩, rfl⟩

theorem State.PortsSettled.handOver (h : s.PortsSettled) : s.handOver.cpi.Sound ∧
    (s.handOver.cpi.linkFree → s.handOver.flc.cutReady = false) := by
  refine ⟨⟨fun p => ?_, h.cpi.counters, fun k e => ?_, fun k e => ?_, h.cpi.side⟩, fun free => ?_⟩
  · cases p
    · exact PortState.sound_enable (h.cpi.ports .panel) _
    · exact PortState.sound_enable (h.cpi.ports .room) _
    · exact PortState.sound_enable (h.cpi.ports .tether) _
  · have := h.cpi.room k e; cases k <;> exact this
  · have := h.cpi.tether k e; cases k <;> exact this
  · exact (h.settled free.1).2

theorem State.recovered_held (h : s.PortsSettled) (best : Option (Nat × CatalogueImage)) : (s.recovered best).PortsHeld := by
  obtain ⟨sound, cut⟩ := State.PortsSettled.handOver (s := s.quiet.withLsc (s.quiet.lsc.adopt best)) ⟨h.cpi, h.settled⟩
  have finished {u : State} (sound : u.cpi.Sound) (cut : u.cpi.linkFree → u.flc.cutReady = false) :
      u.dropUnfinished.servePages.PortsHeld := by
    have notes := u.notes_dropUnfinished
    obtain ⟨served, link, pages, same⟩ := State.sendPages_held (sound.noted notes.cpi) u.dropUnfinished.flc.pages
    refine ⟨served, pages, fun free => ?_⟩
    have was := cut (notes.cpi.keepsLink (link free))
    show (u.dropUnfinished.sendPages u.dropUnfinished.flc.pages).flc.cutReady = false
    rw [same]
    cases e : u.dropUnfinished.flc.cutReady with
    | false => rfl
    | true => rw [notes.cut e] at was; exact was
  unfold State.recovered
  dsimp only
  split
  · exact finished (sound.noted (.raise _ .same)) fun free => cut ((Cpi.Noted.raise _ .same).keepsLink free)
  · exact finished sound cut

theorem State.flashDone_held (h : s.PortsSettled) (result : FlashResult) : (s.flashDone result).PortsHeld := by
  unfold State.flashDone
  split
  · exact h.held
  · unfold State.recovering
    split
    · exact State.Notes.held (s := s) ⟨⟨.same, id⟩, rfl⟩ h.held
    · exact State.recovered_held h _
  · exact (s.notes_writing _ _).held h.held
  · split
    · exact h.held
    split
    · exact h.held
    · next j _ _ _ r _ =>
      have placed : s.Notes (s.onPlace result j r).1 := by
        unfold State.onPlace
        split
        · exact (s.ran_erased _ _ _ _ _).notes
        · exact (s.ran_programmed _ _ _ _ _ _ _).notes
        · exact (s.ran_checked _ _ _ _).notes
        · exact s.notes_loaded _ _ _ _ _
        · exact .refl s
      unfold State.settleHead
      split
      · exact placed.held h.held
      · exact ((State.ran_endHead _ _).notes.after placed).held h.held

theorem State.restart_sound (h : s.cpi.Sound) : s.restart.cpi.Sound := by
  have blocks : s.restartBlocks.cpi.Sound :=
    ⟨(fun | .panel => PortState.sound_restarted _ | .room => PortState.sound_restarted _ | .tether => PortState.sound_restarted _),
      h.counters, (fun _ e => nomatch e), (fun _ e => nomatch e), fun e => absurd rfl e⟩
  have begun : s.restartBlocks.rework.beginAgreement.cpi.Sound := blocks.noted (s.restartBlocks.rework.queues_beginAgreement).cpi
  unfold State.restart State.writeAfterRestart
  split
  · split
    · next h' => exact begun.noted (State.ran_attempt _ h').cpi
    · exact begun.noted (State.ran_readOnly _).cpi
  · exact begun

theorem State.owe_sound (h : s.cpi.Sound) (p : Port) (r : Reply) : (s.owe p r).cpi.Sound := by
  obtain ⟨few, -, flags⟩ := h.ports p
  exact h.setPort p ⟨few, fun _ => rfl, flags⟩ fun _ k holds => by
    cases k with
    | reply => rfl
    | completion => exact holds
    | notice => trivial

/-! ### Every arrival -/

theorem State.refuseBusy_held (h : s.PortsHeld) (p : Port) (r : Reply) (owed : (s.cpi.port p).owed.isSome = true) :
    (s.refuseBusy p r).PortsHeld := by
  obtain ⟨few, -, flags⟩ := h.cpi.ports p
  have link : s.cpi.keepsLink (s.refuseBusy p r).cpi := by
    refine Cpi.keepsLink_of ?_ (by cases p <;> rfl) (by cases p <;> rfl)
    cases p <;> exact ⟨rfl, id, id⟩
  refine ⟨h.cpi.setPort p ⟨few, fun _ => owed, flags⟩ fun _ k holds => by cases k <;> exact holds, fun free => ?_, fun free => ?_⟩
  · rw [State.refuseBusy_flc]; exact h.pages (link free)
  · rw [State.refuseBusy_flc]; exact h.cut (link free)

theorem State.Commanded.keeps_held (c : s.Commanded t) (h : s.PortsHeld) : t.PortsHeld := by
  cases c with
  | nothing => exact h
  | worked p r hw _ => exact (hw.worksAt h.cpi).owe h r
  | feedRestarted p r _ _ => exact State.serveFeed_held (State.owe_sound (h.cpi.noted s.noted_restartFeed) p r)
  | restarted p r _ _ => exact State.serveFeed_held (State.owe_sound (State.restart_sound h.cpi) p r)
  | refusedBusy p r owed => exact State.refuseBusy_held h p r owed

theorem State.ended_sound (h : s.cpi.Sound) (k : Sending) :
    ({ s.cpi with tether := s.cpi.tether.ended k, tetherTx := none } : Cpi).Sound :=
  ⟨(fun | .panel => h.ports .panel | .room => h.ports .room | .tether => PortState.sound_ended (h.ports .tether) k),
    h.counters, h.room, (fun _ e => nomatch e), fun e => absurd rfl e⟩

theorem State.Effect.held (e : s.Effect t) (h : s.PortsSettled) : t.PortsHeld := by
  have held := h.held
  cases e
  case nothing => exact held
  case command p r hw free => exact (State.Commanded.worked p r hw free).keeps_held held
  case feedRestarted p r started free => exact (State.Commanded.feedRestarted p r started free).keeps_held held
  case restarted p r mode free => exact (State.Commanded.restarted p r mode free).keeps_held held
  case refusedBusy p r owed => exact State.refuseBusy_held held p r owed
  case frameStart => exact (s.elsewhere_frameStart.notes s.noted_frameStart).held held
  case lineEnd line => exact ((s.elsewhere_lineEnd line).notes (s.noted_lineEnd line)).held held
  case frameEnd => exact (s.elsewhere_frameEnd.notes s.noted_frameEnd).held held
  case signalLost => exact (s.elsewhere_signalLost.notes s.noted_signalLost).held held
  case notice => exact s.ran_takeNotice.notes.held held
  case outputFrame => exact (s.elsewhere_frameStarts.notes s.noted_frameStarts).held held
  case offer o _ => exact (s.queues_baseOffer o).serve held
  case note p _ => exact (s.queues_notePage p).serve held
  case hold d => exact State.takeHold_held held d
  case pageExpired => exact s.queues_pageExpired.serve held
  case intervalExpired => exact s.notes_intervalExpired.held held
  case allowanceExpired => exact State.cutFrame_held held
  case holdLate d n late =>
    refine ⟨h.cpi, held.pages, fun _ => ?_⟩
    unfold Flc.cutReady
    split
    · rfl
    · exact Bool.and_false _
  case holdExpired => exact State.sendCutEnd_held h.cpi held.pages
  case feedFrameStart => exact s.notes_startFeedFrame.held held
  case lineProduced => exact s.notes_produceLine.held held
  case lineSent free => exact State.lineGoes_held h free
  case flash result _ => exact State.flashDone_held h result
  case panelRead n =>
    unfold State.panelRead
    dsimp only
    split
    · refine ⟨h.cpi.setPort .panel (PortState.sound_ended (k := .reply) (h.cpi.ports .panel)) fun other => absurd rfl other, ?_, ?_⟩
      · exact held.pages
      · exact held.cut
    · exact ⟨h.cpi, held.pages, held.cut⟩
  case roomSent =>
    unfold State.roomSent
    split
    · exact held
    · next k _ =>
      refine ⟨⟨(fun | .panel => h.cpi.ports .panel | .room => PortState.sound_ended (h.cpi.ports .room) k | .tether => h.cpi.ports .tether),
        h.cpi.counters, (fun _ e => nomatch e), h.cpi.tether, h.cpi.side⟩, held.pages, held.cut⟩
  case tetherSent =>
    unfold State.tetherSent
    split
    · exact held
    · next k _ => exact State.serveFeed_held (s := s.withCpi _) (State.ended_sound h.cpi k)
  all_goals exact ⟨h.cpi, held.pages, held.cut⟩

theorem State.Heard.held (h : s.Heard t) (hs : s.PortsSettled) : t.PortsHeld := by
  induction h with
  | same => exact hs.held
  | one e => exact e.held hs
  | next _ c ih => exact c.keeps_held ih

theorem State.portsSound_startedUp (s : State) : s.startedUp.portsSound := by
  have sound : ∀ p, (State.reset.cpi.port p).sound := fun p => by
    cases p <;> exact ⟨Nat.zero_le _, (fun e => nomatch e), rfl⟩
  exact ⟨sound .panel, sound .room, sound .tether, rfl, nofun, nofun, fun _ => rfl, fun _ => .inl rfl, fun e => absurd rfl e,
    fun _ => ⟨rfl, rfl⟩⟩

end Ports

/-- Settles O7: between the arrivals the link is settled, during one it is served wherever it is free, and the sendings at its end start
whatever can go. -/
theorem portsStaySound : Obligations.PortsStaySound := by
  intro s t hs ht
  unfold step at ht
  split at ht
  · cases ht; exact hs
  · next c rest _ =>
    have hr : (s.withPending rest).portsSound := hs
    by_cases hp : (s.withPending rest).powered = true
    · rcases exec_acts hp ht with rfl | rfl | ⟨rx, u, e, hu, rfl⟩
      · exact State.portsSound_startedUp _
      · exact State.portsSound_startedUp s
      · have settled := State.portsSettled_of hr
        have listening : ((s.withPending rest).listening [] rx).PortsSettled :=
          ⟨settled.cpi.same (counters := settled.cpi.counters), settled.settled⟩
        have held := hu.held listening
        exact State.PortsHeld.transmit ⟨held.cpi, held.pages, held.cut⟩
    · rw [Bool.not_eq_true] at hp
      by_cases h1 : c = .startUp
      · subst h1; cases ht; exact State.portsSound_startedUp _
      by_cases h2 : c = .powerLoss
      · subst h2; cases ht; exact State.portsSound_startedUp s
      rw [exec_unpowered hp h1 h2] at ht
      cases ht; exact hr

end Sys2Proof.Machine

namespace Sys2Proof.Machine

/-! ### The part at its start -/

/-- Settles O1: by the two cases of the queue. -/
theorem stepRunsFrontCommand : Obligations.StepRunsFrontCommand := by
  intro s
  refine ⟨fun c rest h => ?_, fun h => ?_⟩
  · unfold step
    rw [h]; rfl
  · unfold step
    rw [h]

/-- Settles O2: every value is the one of the reset state. -/
theorem resetState : Obligations.ResetState := by
  repeat refine ⟨rfl, ?_⟩
  refine ⟨fun p => ?_, fun table h => ?_, rfl, rfl, rfl, rfl⟩
  · cases p <;> exact ⟨rfl, rfl, rfl, rfl, rfl, rfl⟩
  · have whole : table = State.reset.cpi.reachRoom := by
      rcases List.mem_cons.mp h with e | e
      · exact e
      · exact List.mem_singleton.mp e
    exact whole ▸ ⟨_, _, _, rfl, rfl, rfl, rfl⟩

/-- Settles O3: nothing is in progress at the reset state. -/
theorem resetIsSound : Obligations.ResetIsSound := by
  have kept (g : UpheldPart) : State.reset.Kept g :=
    State.kept_of_restarted (p := State.reset.spm) Lsc.sound_reset (fun _ _ e => nomatch e) (fun _ => rfl) rfl rfl rfl rfl rfl
  have feed : State.reset.feedSound :=
    (State.feedSound_iff _).mpr ⟨State.settingsSound_reset, Flc.sound_reset, fun _ _ => rfl⟩
  have intake : State.reset.intakeSound := ⟨⟨nofun, nofun⟩, Nat.zero_le _, Nat.zero_le _, nofun, nofun⟩
  exact ⟨State.settingsSound_reset, State.viewSound_reset, feed, State.reset.portsSound_startedUp, intake,
    (State.poolSound_iff_kept _).mpr (kept _), (State.storeSound_iff_kept _).mpr (kept _), (State.queueSound_iff_kept _).mpr (kept _)⟩

end Sys2Proof.Machine

namespace Sys2Proof.Machine

/-! ### Argument lengths (10 Table 10-7) -/

theorem noArgs_length {args : List Byte} {a : Unit} (h : noArgs args = some a) : args.length = 0 := by
  unfold noArgs at h
  split at h
  · rfl
  · exact nomatch h

theorem oneByte_length {args : List Byte} {a : Byte} (h : oneByte args = some a) : args.length = 1 := by
  unfold oneByte at h
  split at h
  · rfl
  · exact nomatch h

theorem twoBytes_length {args : List Byte} {a : Byte × Byte} (h : twoBytes args = some a) : args.length = 2 := by
  unfold twoBytes at h
  split at h
  · rfl
  · exact nomatch h

theorem threeBytes_length {args : List Byte} {a : Byte × Byte × Byte} (h : threeBytes args = some a) : args.length = 3 := by
  unfold threeBytes at h
  split at h
  · rfl
  · exact nomatch h

theorem oneHalf_length {args : List Byte} {a : Nat} (h : oneHalf args = some a) : args.length = 2 := by
  unfold oneHalf at h
  split at h
  · rfl
  · exact nomatch h

theorem twoHalves_length {args : List Byte} {a : Nat × Nat} (h : twoHalves args = some a) : args.length = 4 := by
  unfold twoHalves at h
  split at h
  · rfl
  · exact nomatch h

theorem twoSigned_length {args : List Byte} {a : Int × Int} (h : twoSigned args = some a) : args.length = 4 := by
  unfold twoSigned at h
  split at h
  · rfl
  · exact nomatch h

theorem oneQuad_length {args : List Byte} {a : Quad} (h : oneQuad args = some a) : args.length = 4 := by
  unfold oneQuad at h
  split at h
  · rfl
  · exact nomatch h

theorem stepArgs_length {args : List Byte} {a : Int × Byte} (h : stepArgs args = some a) : args.length = 3 := by
  unfold stepArgs at h
  split at h
  · rfl
  · exact nomatch h

theorem rangeArgs_length {args : List Byte} {a : Byte × Nat} (h : rangeArgs args = some a) : args.length = 2 := by
  unfold rangeArgs at h
  split at h
  · rfl
  · exact nomatch h

theorem reachArgs_length {args : List Byte} {a : Byte × Byte × Byte × Byte × Byte × Byte} (h : reachArgs args = some a) :
    args.length = 6 := by
  unfold reachArgs at h
  split at h
  · rfl
  · exact nomatch h

theorem indexedEntryArgs_length {args : List Byte} {a : Byte × (ClassifierEntry × Bool)} (h : indexedEntryArgs args = some a) :
    args.length = 9 := by
  unfold indexedEntryArgs at h
  split at h
  · rfl
  · exact nomatch h

theorem indexedProfileArgs_length {args : List Byte} {a : Byte × (Profile × Bool)} (h : indexedProfileArgs args = some a) :
    args.length = 6 := by
  unfold indexedProfileArgs at h
  split at h
  · rfl
  · exact nomatch h

/-- ZOOM comes with a rate or without one. -/
theorem zoomArgs_length {args : List Byte} {a : Nat × Byte × Option Nat} (h : zoomArgs args = some a) :
    args.length = 3 ∨ args.length = 5 := by
  unfold zoomArgs at h
  split at h
  · exact .inl rfl
  · exact .inr rfl
  · exact nomatch h

theorem nameArgs_length {args : List Byte} {a : Byte × List Byte} (h : nameArgs args = some a) : 1 ≤ args.length := by
  cases args with
  | nil => exact nomatch h
  | cons => exact Nat.succ_le_succ (Nat.zero_le _)

/-- A list of entries is 8 bytes an entry. -/
theorem entryList_length {args : List Byte} {l : List (ClassifierEntry × Bool)} (h : entryList args = some l) :
    args.length = 8 * l.length := by
  induction args using entryList.induct generalizing l with
  | case1 => cases h; rfl
  | case2 en k a0 a1 b0 b1 ac t rest l' e ih =>
    rw [entryList, e] at h
    cases h
    have := ih e
    simp only [List.length_cons, this]; omega
  | case3 en k a0 a1 b0 b1 ac t rest e ih => rw [entryList, e] at h; exact nomatch h
  | case4 args empty short =>
    unfold entryList at h
    split at h
    · exact absurd rfl empty
    · exact (short _ _ _ _ _ _ _ _ _ rfl).elim
    · exact nomatch h

theorem entriesArgs_length {args : List Byte} {a : Byte × List (ClassifierEntry × Bool)} (h : entriesArgs args = some a) :
    args.length = 1 + 8 * a.2.length ∧ 1 ≤ a.2.length ∧ a.2.length ≤ 8 := by
  cases args with
  | nil => exact nomatch h
  | cons i rest =>
    cases e : entryList rest with
    | none => rw [entriesArgs, e] at h; exact nomatch h
    | some l =>
      rw [entriesArgs, e] at h
      dsimp only at h
      split at h
      · next few =>
        cases h
        exact ⟨by rw [List.length_cons, entryList_length e, Nat.add_comm], few⟩
      · exact nomatch h

theorem profileList_length {args : List Byte} {l : List (Profile × Bool)} (h : profileList args = some l) : args.length = 5 * l.length := by
  induction args using profileList.induct generalizing l with
  | case1 => cases h; rfl
  | case2 g c s l0 l1 rest l' e ih =>
    rw [profileList, e] at h
    cases h
    have := ih e
    simp only [List.length_cons, this]; omega
  | case3 g c s l0 l1 rest e ih => rw [profileList, e] at h; exact nomatch h
  | case4 args empty short =>
    unfold profileList at h
    split at h
    · exact absurd rfl empty
    · exact (short _ _ _ _ _ _ rfl).elim
    · exact nomatch h

theorem profilesArgs_length {args : List Byte} {l : List (Profile × Bool)} (h : profilesArgs args = some l) : args.length = 20 := by
  unfold profilesArgs at h
  cases e : profileList args with
  | none => rw [e] at h; exact nomatch h
  | some l' =>
    rw [e] at h
    dsimp only at h
    split at h
    · next four => rw [profileList_length e, four]
    · exact nomatch h

theorem noteList_length {args : List Byte} {l : List (Note × Bool)} (h : noteList args = some l) : args.length = 2 * l.length := by
  induction args using noteList.induct generalizing l with
  | case1 => cases h; rfl
  | case2 c r rest l' e ih =>
    rw [noteList, e] at h
    cases h
    have := ih e
    simp only [List.length_cons, this]; omega
  | case3 c r rest e ih => rw [noteList, e] at h; exact nomatch h
  | case4 args empty short =>
    unfold noteList at h
    split at h
    · exact absurd rfl empty
    · exact (short _ _ _ rfl).elim
    · exact nomatch h

theorem notesArgs_length {args : List Byte} {l : List (Note × Bool)} (h : notesArgs args = some l) :
    args.length % 2 = 0 ∧ args.length ≤ 8 := by
  unfold notesArgs at h
  cases e : noteList args with
  | none => rw [e] at h; exact nomatch h
  | some l' =>
    rw [e] at h
    dsimp only at h
    split at h
    · next few =>
      have := noteList_length e
      omega
    · exact nomatch h

/-! ### Commands that are refused at their port (10 R156) -/

section Refused
variable {α : Type} {layout : Option α} {f : α → State → State × Answer} {s : State} {kind n : Nat} {args : List Byte}

theorem parsed_badLength (fits : ∀ a, layout = some a → lengthAllowed kind args.length = true)
    (bad : lengthAllowed kind args.length = false) : parsed layout f s = (s, refuse .badLength) := by
  cases h : layout with
  | none => rfl
  | some a => exact nomatch bad.symm.trans (fits a h)

theorem parsed_short (fits : ∀ a, layout = some a → args.length = n) (allowed : lengthAllowed kind n = true)
    (bad : lengthAllowed kind args.length = false) : parsed layout f s = (s, refuse .badLength) :=
  parsed_badLength (fun a h => fits a h ▸ allowed) bad

end Refused

/-- A command of a kind that Table 10-7 names, of another length than it allows, changes nothing. -/
theorem works_badLength (h : CmdHeader) (args : List Byte) (s : State) (n : Nat) (hn : n < 59)
    (bad : lengthAllowed (n + 1) args.length = false) : (works.getD n workUnknownCommand) h args s = (s, refuse .badLength) := by
  interval_cases n
  · show workZoom h args s = _
    exact parsed_badLength (bad := bad) fun a h => by rcases zoomArgs_length h with e | e <;> rw [e] <;> rfl
  · show workZoomStep h args s = _
    exact parsed_short (fun _ => stepArgs_length) rfl bad
  · show workPan h args s = _
    exact parsed_short (fun _ => twoSigned_length) rfl bad
  · show workCentre h args s = _
    exact parsed_short (fun _ => twoHalves_length) rfl bad
  · show workFitPage h args s = _
    exact parsed_short (fun _ => noArgs_length) rfl bad
  · show workFreeze h args s = _
    exact parsed_short (fun _ => noArgs_length) rfl bad
  · show workUnfreeze h args s = _
    exact parsed_short (fun _ => noArgs_length) rfl bad
  · show workLayout h args s = _
    exact parsed_short (fun _ => oneByte_length) rfl bad
  · show workShowLive h args s = _
    exact parsed_short (fun _ => noArgs_length) rfl bad
  · show workSetGlide h args s = _
    exact parsed_short (fun _ => oneHalf_length) rfl bad
  · show workReadView h args s = _
    exact parsed_short (fun _ => noArgs_length) rfl bad
  · show workSetEdgeThreshold h args s = _
    exact parsed_short (fun _ => oneHalf_length) rfl bad
  · show workReadEdgeThreshold h args s = _
    exact parsed_short (fun _ => noArgs_length) rfl bad
  · show workReadTile h args s = _
    exact parsed_short (fun _ => twoBytes_length) rfl bad
  · show workSetClassifierEntry h args s = _
    exact parsed_short (fun _ => indexedEntryArgs_length) rfl bad
  · show workSetClassifierEntries h args s = _
    refine parsed_badLength (bad := bad) fun a h => ?_
    obtain ⟨length, least, most⟩ := entriesArgs_length h
    have odd : args.length % 8 = 1 := by omega
    have low : 9 ≤ args.length := by omega
    have high : args.length ≤ 65 := by omega
    simp [lengthAllowed, odd, low, high]
  · show workSetEntryEnable h args s = _
    exact parsed_short (fun _ => twoBytes_length) rfl bad
  · show workSetDefaultAction h args s = _
    exact parsed_short (fun _ => twoBytes_length) rfl bad
  · show workSetTextQuorum h args s = _
    exact parsed_short (fun _ => oneHalf_length) rfl bad
  · show workReadClassifier h args s = _
    exact parsed_short (fun _ => rangeArgs_length) rfl bad
  · show workReadPageBox h args s = _
    exact parsed_short (fun _ => noArgs_length) rfl bad
  · show workSetProfile h args s = _
    exact parsed_short (fun _ => indexedProfileArgs_length) rfl bad
  · show workSetProfiles h args s = _
    exact parsed_short (fun _ => profilesArgs_length) rfl bad
  · show workReadProfiles h args s = _
    exact parsed_short (fun _ => noArgs_length) rfl bad
  · show workReadSlots h args s = _
    exact parsed_short (fun _ => noArgs_length) rfl bad
  · show workSetOutputMode h args s = _
    exact parsed_short (fun _ => oneByte_length) rfl bad
  · show workOutputRestart h args s = _
    exact parsed_short (fun _ => noArgs_length) rfl bad
  · show workBlank h args s = _
    exact parsed_short (fun _ => oneByte_length) rfl bad
  · show workReadOutput h args s = _
    exact parsed_short (fun _ => noArgs_length) rfl bad
  · show workSetFeedNotes h args s = _
    refine parsed_badLength (bad := bad) fun a h => ?_
    obtain ⟨even, few⟩ := notesArgs_length h
    simp [lengthAllowed, even, few]
  · show workSetFeedMarks h args s = _
    exact parsed_short (fun _ => threeBytes_length) rfl bad
  · show workFeedRestart h args s = _
    exact parsed_short (fun _ => noArgs_length) rfl bad
  · show workReadFeed h args s = _
    exact parsed_short (fun _ => noArgs_length) rfl bad
  · show workStore h args s = _
    exact parsed_short (fun _ => oneByte_length) rfl bad
  · show workRecall h args s = _
    exact parsed_short (fun _ => twoBytes_length) rfl bad
  · show workExport h args s = _
    exact parsed_short (fun _ => twoBytes_length) rfl bad
  · show workDelete h args s = _
    exact parsed_short (fun _ => twoBytes_length) rfl bad
  · show workMove h args s = _
    exact parsed_short (fun _ => threeBytes_length) rfl bad
  · show workOpenLesson h args s = _
    exact parsed_short (fun _ => oneByte_length) rfl bad
  · show workCloseLesson h args s = _
    exact parsed_short (fun _ => noArgs_length) rfl bad
  · show workClearLesson h args s = _
    exact parsed_short (fun _ => oneByte_length) rfl bad
  · show workNameLesson h args s = _
    exact parsed_badLength (bad := bad) fun a h => by simp [lengthAllowed, nameArgs_length h]
  · show workSetLessonFlags h args s = _
    exact parsed_short (fun _ => threeBytes_length) rfl bad
  · show workSaveSettings h args s = _
    exact parsed_short (fun _ => noArgs_length) rfl bad
  · show workWithdraw h args s = _
    exact parsed_short (fun _ => oneByte_length) rfl bad
  · show workSetPlaceRetryLimit h args s = _
    exact parsed_short (fun _ => oneByte_length) rfl bad
  · show workReadStore h args s = _
    exact parsed_short (fun _ => noArgs_length) rfl bad
  · show workReadLesson h args s = _
    exact parsed_short (fun _ => oneByte_length) rfl bad
  · show workReadJobs h args s = _
    exact parsed_short (fun _ => noArgs_length) rfl bad
  · show workReadStatus h args s = _
    exact parsed_short (fun _ => noArgs_length) rfl bad
  · show workReadCompletions h args s = _
    exact parsed_short (fun _ => noArgs_length) rfl bad
  · show workReadNotices h args s = _
    exact parsed_short (fun _ => noArgs_length) rfl bad
  · show workSetNoticeEnables h args s = _
    exact parsed_short (fun _ => oneQuad_length) rfl bad
  · show workSetReach h args s = _
    exact parsed_short (fun _ => reachArgs_length) rfl bad
  · show workReadReach h args s = _
    exact parsed_short (fun _ => noArgs_length) rfl bad
  · show workReadCounters h args s = _
    exact parsed_short (fun _ => noArgs_length) rfl bad
  · show workClearCounters h args s = _
    exact parsed_short (fun _ => noArgs_length) rfl bad
  · show workSetHalfMasks h args s = _
    exact parsed_short (fun _ => oneByte_length) rfl bad
  · show workRestart h args s = _
    exact parsed_short (fun _ => noArgs_length) rfl bad

/-- The kinds that Table 10-7 names are 1 to 59. -/
theorem kind_of_named {c : Instr} {kind : Byte} {h : CmdHeader} {args : List Byte} (hc : asCommand c = some (kind, h, args))
    (named : namedCommand c = true) : 1 ≤ kind.toNat ∧ kind.toNat ≤ 59 := by
  cases c <;> simp only [asCommand, Option.some.injEq, Prod.mk.injEq, reduceCtorEq] at hc
  case unknownCommand => exact nomatch named
  all_goals (obtain ⟨rfl, -, -⟩ := hc; decide)

theorem workOf_eq_works {kind : Byte} (low : 1 ≤ kind.toNat) : workOf kind = works.getD (kind.toNat - 1) workUnknownCommand := by
  unfold workOf
  rw [if_neg]
  rintro rfl
  exact absurd low (by decide)

/-- Every command arrives as one of its kind, header and arguments. -/
theorem exec_asCommand {c : Instr} {kind : Byte} {h : CmdHeader} {args : List Byte} (hc : asCommand c = some (kind, h, args)) :
    ∃ f, ∀ s, exec c s = command kind h args s f := by
  cases c <;> simp only [asCommand, Option.some.injEq, Prod.mk.injEq, reduceCtorEq] at hc
  all_goals (obtain ⟨rfl, rfl, rfl⟩ := hc; exact ⟨_, fun _ => rfl⟩)

/-- A command that is heard while a reply is owed at its port. -/
theorem command_owed {s : State} {kind : Byte} {h : CmdHeader} {args : List Byte} {f : State → State × Answer} {r : Reply}
    (hp : s.powered = true) (heard : s.cpi.hears h.port) (owed : (s.cpi.port h.port).owed = some r) :
    ∃ t, command kind h args s f = .next t ∧
      ((s.cpi.port h.port).busy = none →
        s.becomes t (s.cpi.setPort h.port { s.cpi.port h.port with
          busy := some { kind := kind, marker := h.marker, status := .refused, reason := .busy, clamped := false,
                         gen := s.vwc.gen, data := .nothing } }) []) ∧
      (∀ q, (s.cpi.port h.port).busy = some q → s.becomes t s.cpi []) := by
  have taken : ¬ (h.port = .room ∧ (s.withEmitted []).cpi.roomRx ≠ .hunting) := fun x => x.2 (heard x.1)
  unfold command
  cases waits : (s.cpi.port h.port).busy with
  | none =>
    obtain ⟨t, ht, -, becomes⟩ := arrive_becomes (s := s)
      (fun s => if h.port = .room ∧ s.cpi.roomRx ≠ .hunting then s.hear (roomWrap (commandBody kind h args))
        else (s.hand kind h f).driven h.port s.cpi (panelWrap (commandBody kind h args)).length)
      (s.cpi.setPort h.port { s.cpi.port h.port with busy := some ((refuse .busy).reply kind h s.vwc.gen) }) [] hp
      (by rw [if_neg taken]; simp [State.unchanged, State.hand, owed, waits])
      (by rw [if_neg taken]; simp [State.hand, owed, waits, State.refuseBusy])
    exact ⟨t, ht, fun _ => becomes, fun _ e => nomatch e⟩
  | some q =>
    obtain ⟨t, ht, -, becomes⟩ := arrive_becomes (s := s)
      (fun s => if h.port = .room ∧ s.cpi.roomRx ≠ .hunting then s.hear (roomWrap (commandBody kind h args))
        else (s.hand kind h f).driven h.port s.cpi (panelWrap (commandBody kind h args)).length)
      s.cpi [] hp
      (by rw [if_neg taken]; simp [State.unchanged, State.hand, owed, waits])
      (by rw [if_neg taken]; simp [State.hand, owed, waits])
    exact ⟨t, ht, fun e => (nomatch e), fun _ _ => becomes⟩

/-- Settles O12: by what `hand` does where a reply is owed, by the layouts of the arguments, and by the list of the commands. -/
theorem commandsRefusedAtPorts : Obligations.CommandsRefusedAtPorts := by
  refine ⟨fun c kind h args s r hc hp heard owed => ?_, fun c kind h args s hc named ht bad => ?_, fun h first count s ht outside => ?_,
    fun kind h args s ht unnamed => ?_⟩
  · obtain ⟨f, e⟩ := exec_asCommand hc
    rw [e s]
    exact command_owed hp heard owed
  · obtain ⟨low, high⟩ := kind_of_named hc named
    rw [exec_command s hc (.inl named), workOf_eq_works low]
    refine command_refuses ht (works_badLength h args _ _ (by omega) ?_)
    rw [Nat.sub_add_cancel low]; exact bad
  · refine command_refuses (f := workReadClassifier h [first, count]) ht ?_
    have : ¬ (1 ≤ count.toNat ∧ count.toNat ≤ 8) := by
      rcases outside with e | e
      · subst e; decide
      · omega
    simp [workReadClassifier, rangeArgs, this, parsed_none]
  · rw [exec_command (c := .unknownCommand kind h args) s rfl (.inr unnamed)]
    refine command_refuses ht ?_
    have unknown : workOf kind = workUnknownCommand := by
      unfold workOf
      split
      · rfl
      · next nonzero =>
        rcases unnamed with e | e
        · exact absurd e nonzero
        · exact List.getD_eq_default _ _ (by simp only [works, List.length_cons, List.length_nil]; omega)
    rw [unknown]; rfl

end Sys2Proof.Machine

namespace Sys2Proof.Machine

/-! ### Events, records and counters (10 R158 to R160) -/

theorem PortState.raised_eq (x : PortState) (e : Event) :
    x.raised e = { x with flags := if x.enables.getLsbD e.number then x.flags ||| (1#32 <<< e.number) else x.flags } := by
  unfold PortState.raised Event.bit
  split <;> rfl

theorem Event.number_lt (e : Event) : e.number < 32 := by cases e <;> decide

/-- Settles O16: port by port. -/
theorem eventsAndRecordsKept : Obligations.EventsAndRecordsKept := by
  refine ⟨fun c e => ⟨fun p => ?_, fun p => ?_, rfl⟩, fun c p r => ⟨fun short => ?_, fun full => ?_, fun q other => ?_, ?_⟩⟩
  · rw [Cpi.port_raise, PortState.raised_eq]
  · rw [Cpi.port_raise]
    unfold PortState.raised
    split
    · refine .inr ?_
      simp [Event.bit, e.number_lt]
    · exact .inl rfl
  · rw [Cpi.port_given, if_pos rfl, PortState.give, if_pos short]
  · rw [Cpi.port_given, if_pos rfl, PortState.give, if_neg (by omega)]
  · rw [Cpi.port_given, if_neg other]
  · simp [Cpi.noticeLine]

theorem Counter.number_lt (k : Counter) : k.number < 8 := by cases k <;> decide

theorem Counter.number_inj {j k : Counter} (h : j.number = k.number) : j = k := by
  cases j <;> cases k <;> first | rfl | exact absurd h (by decide)

/-- What an increment leaves of the CPI, but for the half-range flag and event. -/
theorem Cpi.count_at_half (c : Cpi) (k : Counter) (half : c.counter k = 2147483647) :
    (c.count k).counters = c.counters.set k.number (c.counter k + 1) ∧ (c.count k).halfMasks = c.halfMasks ∧
      (c.count k).halfFlags = c.halfFlags ||| (1#8 <<< k.number) ∧
      ∀ p : Port, (c.count k).port p = if c.halfMasks.getLsbD k.number then c.port p else (c.raise .counterHalf).port p := by
  have at_half : c.counter k = halfRange := half
  unfold Cpi.count
  rw [if_pos at_half]
  dsimp only
  split
  · exact ⟨rfl, rfl, rfl, fun p => by cases p <;> rfl⟩
  · exact ⟨rfl, rfl, rfl, fun p => by cases p <;> rfl⟩

theorem Cpi.count_elsewhere (c : Cpi) (k : Counter) (other : c.counter k ≠ 2147483647) :
    c.count k = { c with counters := c.counters.set k.number (c.counter k + 1) } := if_neg other

/-- Settles O17: by whether the counter stands at half its range. -/
theorem counterCounts : Obligations.CounterCounts := by
  intro c k eight
  have counted : (c.count k).counters = c.counters.set k.number (c.counter k + 1) ∧ (c.count k).halfMasks = c.halfMasks := by
    by_cases half : c.counter k = 2147483647
    · obtain ⟨counters, masks, -⟩ := c.count_at_half k half
      exact ⟨counters, masks⟩
    · rw [c.count_elsewhere k half]; exact ⟨rfl, rfl⟩
  have within := k.number_lt
  refine ⟨?_, fun j other => ?_, counted.2, fun half => ?_, fun half => ?_⟩
  · rw [Cpi.counter, counted.1, List.getD_eq_getElem?_getD, List.getElem?_set_self (by omega)]; rfl
  · have apart : k.number ≠ j.number := fun e => other (Counter.number_inj e).symm
    rw [Cpi.counter, counted.1, List.getD_eq_getElem?_getD, List.getElem?_set_ne apart, ← List.getD_eq_getElem?_getD]; rfl
  · rw [c.count_elsewhere k half]
    exact ⟨rfl, fun p => by cases p <;> rfl⟩
  · obtain ⟨-, -, flags, ports⟩ := c.count_at_half k half
    exact ⟨flags, ports⟩

/-! ### A taken command -/

/-- Every block is as in another state: what the owing of a reply and the sendings leave. -/
structure State.Shows (u t : State) : Prop where
  siu : t.siu = u.siu
  tsu : t.tsu = u.tsu
  tcl : t.tcl = u.tcl
  peu : t.peu = u.peu
  spm : t.spm = u.spm
  vwc : t.vwc = u.vwc
  dou : t.dou = u.dou
  flc : t.flc = u.flc
  lsc : t.lsc = u.lsc

/-- A taken command, after which nothing waits for the link: what its work leaves, shown, and its answer. -/
theorem command_works {s : State} {h : CmdHeader} {kind : Byte} {args : List Byte} {f : State → State × Answer} {u : State}
    {a : Answer} {bs : List Block} (ht : s.takes h.port) (hf : f (s.withEmitted []) = (u, a)) (hu : s.unchanged u bs)
    (hk : kind ≠ 32 ∧ kind ≠ 59 := by decide) :
    ∃ t, command kind h args s f = .next t ∧ u.Shows t ∧ s.answers t u.cpi kind h a bs := by
  obtain ⟨t, ht, e, answers⟩ := command_answers (args := args) ht (fun v => v.afterRestart_other a hk) hf hu rfl
  exact ⟨t, ht, by subst e; constructor <;> simp, answers⟩

theorem State.unchanged_by {s u : State} {bs : List Block} (siu : .siu ∈ bs ∨ u.siu = s.siu := by first | exact .inr rfl | exact .inl (by decide))
    (tsu : .tsu ∈ bs ∨ u.tsu = s.tsu := by first | exact .inr rfl | exact .inl (by decide))
    (tcl : .tcl ∈ bs ∨ u.tcl = s.tcl := by first | exact .inr rfl | exact .inl (by decide))
    (peu : .peu ∈ bs ∨ u.peu = s.peu := by first | exact .inr rfl | exact .inl (by decide))
    (spm : .spm ∈ bs ∨ u.spm = s.spm := by first | exact .inr rfl | exact .inl (by decide))
    (vwc : .vwc ∈ bs ∨ u.vwc = s.vwc := by first | exact .inr rfl | exact .inl (by decide))
    (dou : .dou ∈ bs ∨ u.dou = s.dou := by first | exact .inr rfl | exact .inl (by decide))
    (flc : .flc ∈ bs ∨ u.flc = s.flc := by first | exact .inr rfl | exact .inl (by decide))
    (lsc : .lsc ∈ bs ∨ u.lsc = s.lsc := by first | exact .inr rfl | exact .inl (by decide))
    (powered : u.powered = s.powered := by rfl) (freeCount : u.freeCount = s.freeCount := by rfl)
    (pending : u.pending = s.pending := by rfl) : s.unchanged u bs :=
  ⟨siu, tsu, tcl, peu, spm, vwc, dou, flc, lsc, powered, freeCount, pending⟩

theorem State.unchanged_changePort (s : State) (p : Port) (f : PortState → PortState) : s.unchanged ((s.withEmitted []).changePort p f) [] :=
  State.unchanged_by

/-! ### The commands of the ports -/

theorem quadWord_eq_append (b0 b1 b2 b3 : Byte) : quadWord b0 b1 b2 b3 = b3 ++ b2 ++ b1 ++ b0 := by
  apply BitVec.eq_of_toNat_eq
  simp only [quadWord, half, BitVec.toNat_ofNat, BitVec.toNat_append]
  have := b0.isLt; have := b1.isLt; have := b2.isLt; have := b3.isLt
  rw [← Nat.shiftLeft_add_eq_or_of_lt b2.isLt, ← Nat.shiftLeft_add_eq_or_of_lt b1.isLt, ← Nat.shiftLeft_add_eq_or_of_lt b0.isLt]
  simp only [Nat.shiftLeft_eq]
  omega

theorem eventSet_and_ne (e : Quad) : (e &&& eventSet != e) = decide (e >>> 17 ≠ 0) := by
  have bits : (e &&& eventSet).toNat = e.toNat % 2 ^ 17 := by
    rw [BitVec.toNat_and, ← Nat.and_two_pow_sub_one_eq_mod]; rfl
  have high : (e >>> 17).toNat = e.toNat / 2 ^ 17 := by rw [BitVec.toNat_ushiftRight, Nat.shiftRight_eq_div_pow]
  have whole : e &&& eventSet = e ↔ e >>> 17 = 0 := by
    rw [← BitVec.toNat_inj, ← BitVec.toNat_inj, bits, high, show BitVec.toNat (0 : Quad) = 0 from rfl]
    omega
  rw [bne, beq_eq_decide, ← decide_not, decide_eq_decide]
  exact not_congr whole

/-- Settles O27: by the port that each of the commands writes. -/
theorem portStateReadAndSet : Obligations.PortStateReadAndSet := by
  refine ⟨fun h s ht => ?_, fun h b0 b1 b2 b3 s ht => ?_, fun h s ht => ⟨?_, fun m => ?_⟩⟩
  · obtain ⟨t, hc, -, completions⟩ := command_works (f := workReadCompletions h []) (kind := 51) (args := []) ht rfl
      (s.unchanged_changePort h.port _)
    obtain ⟨t', hn, -, notices⟩ := command_works (f := workReadNotices h []) (kind := 52) (args := []) ht rfl
      (s.unchanged_changePort h.port _)
    refine ⟨fun panel => ⟨t, hc, ?_⟩, fun other => ⟨t, hc, ?_⟩, t', hn, notices⟩
    · have carried : s.cpi.readable h.port = (s.cpi.port h.port).completions.take 8 := by rw [panel]; rfl
      have removed : (s.cpi.port h.port).completions.drop (s.cpi.readable h.port).length = (s.cpi.port h.port).completions.drop 8 := by
        rw [carried, List.length_take]
        by_cases few : (s.cpi.port h.port).completions.length ≤ 8
        · rw [Nat.min_eq_right few, List.drop_length, List.drop_eq_nil_of_le few]
        · rw [Nat.min_eq_left (by omega)]
      rw [← removed, ← carried]; exact completions
    · have carried : s.cpi.readable h.port = [] := by
        cases e : h.port with
        | panel => exact absurd e other
        | room => rfl
        | tether => rfl
      have kept : (s.cpi.port h.port).completions.drop (s.cpi.readable h.port).length = (s.cpi.port h.port).completions := by
        rw [carried]; rfl
      rw [← kept, ← carried]; exact completions
  · obtain ⟨t, hc, -, answers⟩ := command_works (f := workSetNoticeEnables h [b0, b1, b2, b3]) (kind := 53) (args := [b0, b1, b2, b3]) ht rfl
      (s.unchanged_changePort h.port _)
    refine ⟨t, hc, ?_⟩
    rw [eventSet_and_ne, quadWord_eq_append] at answers
    exact answers
  · obtain ⟨t, hc, -, answers⟩ := command_works (f := workClearCounters h []) (kind := 57) (args := []) (bs := []) ht rfl State.unchanged_by
    exact ⟨t, hc, answers⟩
  · obtain ⟨t, hc, -, answers⟩ := command_works (f := workSetHalfMasks h [m]) (kind := 58) (args := [m]) (bs := []) ht rfl
      State.unchanged_by
    exact ⟨t, hc, answers⟩

/-- The port byte of SET_REACH, and whether it was limited. -/
theorem reachPortArg_eq (b : Byte) : reachPortArg b = (decide (b = 1), decide (¬ (b = 1 ∨ b = 2))) := by
  unfold reachPortArg
  by_cases room : b = 1
  · rw [if_pos room, decide_eq_true room, decide_eq_false (not_not.mpr (.inl room))]
  · by_cases tether : b = 2
    · subst tether; rfl
    · rw [if_neg room, decide_eq_false room, decide_eq_true (not_or.mpr ⟨room, tether⟩), bne_iff_ne.mpr tether]

/-- What SET_REACH reports as clamped, in the order of the statement. -/
theorem reachClamped_eq (port index enabled base mask rights : Byte) :
    ((reachPortArg port).2 || (clampTop 3 index.toNat).2 || (reachWindowArg enabled base mask rights).2) =
      (decide (¬ (port = 1 ∨ port = 2) ∨ 3 < index.toNat ∨ 31 < base.toNat ∨ 31 < mask.toNat) || (flagArg enabled).2 ||
        (rights.toNat ≥ 8 && Config.unstatedRightsClamped rights)) := by
  rw [reachPortArg_eq]
  simp only [clampTop, reachWindowArg, Bool.decide_or]
  cases (flagArg enabled).2 <;> simp [Bool.or_assoc]

theorem windows_grant_iff (lesson : Nat) (r : Right) (windows : List ReachWindow) :
    (windows.any fun w => w.contains lesson && w.grants r) = true ↔
      ∃ w ∈ windows, w.enabled = true ∧ lesson &&& w.mask = w.base &&& w.mask ∧
        (match r with
          | .toShow => w.showRight = true
          | .toSave => w.saveRight = true
          | .toExport => w.sendRight = true) := by
  rw [List.any_eq_true]
  refine exists_congr fun w => and_congr_right fun _ => ?_
  cases r <;> simp [ReachWindow.contains, ReachWindow.grants, and_assoc]

/-- Settles O28: the sending port decides whether the window is written, and its rights are the union over its windows. -/
theorem reachSetAndGranted : Obligations.ReachSetAndGranted := by
  refine ⟨fun h port index enabled base mask rights s ht => ⟨fun other => ?_, fun panel => ?_, ?_⟩, fun c lesson r => ⟨rfl, ?_, ?_⟩⟩
  · refine command_refuses (f := workSetReach h [port, index, enabled, base, mask, rights]) ht ?_
    simp only [workSetReach, reachArgs, parsed_some, if_neg other]
  · have work : workSetReach h [port, index, enabled, base, mask, rights] (s.withEmitted []) =
        edited ((s.withEmitted []).setReach (reachPortArg port).1 (clampTop 3 index.toNat).1 (reachWindowArg enabled base mask rights).1)
          ((reachPortArg port).2 || (clampTop 3 index.toNat).2 || (reachWindowArg enabled base mask rights).2) := by
      simp only [workSetReach, reachArgs, parsed_some, if_pos panel]
    have kept (room : Bool) (i : Nat) (w : ReachWindow) : s.unchanged ((s.withEmitted []).setReach room i w) [] := by
      cases room <;> exact State.unchanged_by
    obtain ⟨t, hc, -, answers⟩ := command_works (kind := 54) (args := [port, index, enabled, base, mask, rights]) ht work (kept _ _ _)
    refine ⟨t, (flagArg enabled).1, (flagArg enabled).2, rights.toNat ≥ 8 && Config.unstatedRightsClamped rights, flagArg_says enabled,
      fun few => by simp [show ¬ (8 ≤ rights.toNat) by omega], hc, ?_⟩
    rw [reachClamped_eq, reachPortArg_eq] at answers
    dsimp only
    by_cases room : port = 1
    · rw [decide_eq_true room] at answers; rw [if_pos room]; exact answers
    · rw [decide_eq_false room] at answers; rw [if_neg room]; exact answers
  · obtain ⟨t, hc, -, answers⟩ := command_works (f := workReadReach h []) (kind := 55) (args := []) (bs := []) ht rfl State.unchanged_by
    exact ⟨t, hc, answers⟩
  · exact windows_grant_iff lesson r c.reachRoom
  · exact windows_grant_iff lesson r c.reachTether

end Sys2Proof.Machine

namespace Sys2Proof.Machine

/-! ### The conditional view commands (05 R69, R70) -/

theorem staleHeader_iff (h : CmdHeader) (s : State) : staleHeader h s.vwc.gen = true ↔ s.conditionFails h := by
  simp [staleHeader, State.conditionFails]

section Layouts
variable {args : List Byte}

theorem noArgs_of_length (h : args.length = 0) : noArgs args = some () := by
  rw [List.length_eq_zero_iff.mp h]; rfl

theorem oneByte_of_length (h : args.length = 1) : ∃ a, oneByte args = some a := by
  obtain ⟨a, rfl⟩ := List.length_eq_one_iff.mp h
  exact ⟨a, rfl⟩

theorem oneHalf_of_length (h : args.length = 2) : ∃ a, oneHalf args = some a := by
  obtain ⟨a, b, rfl⟩ := List.length_eq_two.mp h
  exact ⟨_, rfl⟩

theorem stepArgs_of_length (h : args.length = 3) : ∃ a, stepArgs args = some a := by
  obtain ⟨a, b, c, rfl⟩ := List.length_eq_three.mp h
  exact ⟨_, rfl⟩

theorem twoSigned_of_length (h : args.length = 4) : ∃ a, twoSigned args = some a :=
  match args, h with
  | [_, _, _, _], _ => ⟨_, rfl⟩

theorem twoHalves_of_length (h : args.length = 4) : ∃ a, twoHalves args = some a :=
  match args, h with
  | [_, _, _, _], _ => ⟨_, rfl⟩

theorem zoomArgs_of_length (h : args.length = 3 ∨ args.length = 5) : ∃ a, zoomArgs args = some a :=
  match args, h with
  | [_, _, _], _ => ⟨_, rfl⟩
  | [_, _, _, _, _], _ => ⟨_, rfl⟩
  | [], .inl e | [], .inr e | [_], .inl e | [_], .inr e | [_, _], .inl e | [_, _], .inr e => nomatch e
  | [_, _, _, _], .inl e | [_, _, _, _], .inr e => nomatch e
  | _ :: _ :: _ :: _ :: _ :: _ :: _, .inl e => nomatch e
  | _ :: _ :: _ :: _ :: _ :: _ :: _, .inr e => nomatch e

end Layouts

section Stale
variable {h : CmdHeader} {s : State} (stale : staleHeader h s.vwc.gen = true)
include stale

theorem viewCommand_stale (change : State → State) (clamped : Bool) : viewCommand h s change clamped = (s, refuse .stale) := if_pos stale

theorem zoomCommand_stale (kind : WatchKind) (zt glide : Nat) (wanted clamped : Bool) :
    zoomCommand h s kind zt glide wanted clamped = (s, refuse .stale) := if_pos stale

/-- A view-changing command, of a length that Table 10-7 allows, whose condition fails. -/
theorem works_stale (args : List Byte) (n : Nat) (hn : n < 10) (allowed : lengthAllowed (n + 1) args.length = true) :
    (works.getD n workUnknownCommand) h args s = (s, refuse .stale) := by
  interval_cases n
  · obtain ⟨a, e⟩ := zoomArgs_of_length (args := args) (by simpa [lengthAllowed] using allowed)
    show workZoom h args s = _
    rw [workZoom, e, parsed_some]; exact zoomCommand_stale stale _ _ _ _ _
  · obtain ⟨a, e⟩ := stepArgs_of_length (args := args) (by simpa [lengthAllowed] using allowed)
    show workZoomStep h args s = _
    rw [workZoomStep, e, parsed_some]; exact zoomCommand_stale stale _ _ _ _ _
  · obtain ⟨a, e⟩ := twoSigned_of_length (args := args) (by simpa [lengthAllowed] using allowed)
    show workPan h args s = _
    rw [workPan, e, parsed_some]; exact viewCommand_stale stale _ _
  · obtain ⟨a, e⟩ := twoHalves_of_length (args := args) (by simpa [lengthAllowed] using allowed)
    show workCentre h args s = _
    rw [workCentre, e, parsed_some]; exact viewCommand_stale stale _ _
  · have e := noArgs_of_length (args := args) (by simpa [lengthAllowed] using allowed)
    show workFitPage h args s = _
    rw [workFitPage, e, parsed_some]; exact if_pos stale
  · have e := noArgs_of_length (args := args) (by simpa [lengthAllowed] using allowed)
    show workFreeze h args s = _
    rw [workFreeze, e, parsed_some]
    split
    · exact if_pos stale
    · exact viewCommand_stale stale _ _
  · have e := noArgs_of_length (args := args) (by simpa [lengthAllowed] using allowed)
    show workUnfreeze h args s = _
    rw [workUnfreeze, e, parsed_some]; exact viewCommand_stale stale _ _
  · obtain ⟨a, e⟩ := oneByte_of_length (args := args) (by simpa [lengthAllowed] using allowed)
    show workLayout h args s = _
    rw [workLayout, e, parsed_some]; exact viewCommand_stale stale _ _
  · have e := noArgs_of_length (args := args) (by simpa [lengthAllowed] using allowed)
    show workShowLive h args s = _
    rw [workShowLive, e, parsed_some]; exact viewCommand_stale stale _ _
  · obtain ⟨a, e⟩ := oneHalf_of_length (args := args) (by simpa [lengthAllowed] using allowed)
    show workSetGlide h args s = _
    rw [workSetGlide, e, parsed_some]; exact viewCommand_stale stale _ _

end Stale

/-- Settles O18: the condition is tested before anything is changed, and before the LATEST slot is looked for. -/
theorem conditionalViewCommands : Obligations.ConditionalViewCommands := by
  refine ⟨fun c kind h args s hc named ten allowed ht fails => ?_, fun h s ht holds none => ?_⟩
  · obtain ⟨low, -⟩ := kind_of_named hc named
    rw [exec_command s hc (.inl named), workOf_eq_works low]
    refine command_refuses ht (works_stale (s := s.withEmitted []) ((staleHeader_iff h s).mpr fails) args (kind.toNat - 1) (by omega) ?_)
    rw [Nat.sub_add_cancel low]; exact allowed
  · refine command_refuses (f := workFreeze h []) ht ?_
    have passes : ¬ staleHeader h s.vwc.gen = true := mt (staleHeader_iff h s).mp holds
    simp only [workFreeze, noArgs, parsed_some, State.withEmitted_spm, none, State.withEmitted_vwc]
    exact if_neg passes

/-! ### The view commands (05 R70 to R85) -/

/-- A view command whose condition holds makes its change, and the generation advances. -/
theorem view_works {s : State} {h : CmdHeader} {kind : Byte} {args : List Byte} {f : State → State × Answer} {change : State → State}
    {clamped : Bool} {bs : List Block} (ht : s.takes h.port) (holds : ¬ s.conditionFails h)
    (hf : f (s.withEmitted []) = viewCommand h (s.withEmitted []) change clamped)
    (hu : s.unchanged (change (s.withEmitted [])).viewChanged bs) (hk : kind ≠ 32 ∧ kind ≠ 59 := by decide) :
    ∃ t, command kind h args s f = .next t ∧ (change (s.withEmitted [])).viewChanged.Shows t ∧
      s.answers t (change (s.withEmitted [])).viewChanged.cpi kind h (doneWith clamped (.view t.vwc.figures)) bs := by
  have made : viewCommand h (s.withEmitted []) change clamped = ((change (s.withEmitted [])).viewChanged,
      doneWith clamped (.view (change (s.withEmitted [])).viewChanged.vwc.figures)) := if_neg (mt (staleHeader_iff h s).mp holds)
  obtain ⟨t, hc, shows, answers⟩ := command_works (args := args) ht (hf.trans made) hu hk
  exact ⟨t, hc, shows, by rw [shows.vwc]; exact answers⟩

theorem limitInt_eq (hi : Nat) (x : Int) : limitInt hi x = (max 0 (min (hi : Int) x)).toNat := by
  unfold limitInt; omega

theorem State.glide_zc (s : State) : s.glide.vwc.zc = glideStep s.vwc.zt s.vwc.zc s.vwc.glide := by
  unfold State.glide
  split
  · next stands => exact stands.symm
  · rfl

/-- A glide step of a rate, in whole numbers. -/
theorem glideStep_int (zt zc rate : Nat) : (glideStep zt zc rate : Int) =
    (if rate = 0 then (zt : Int) else if zc < zt then min (zc + rate : Int) zt else max ((zc : Int) - rate) zt) := by
  unfold glideStep
  split_ifs <;> omega

theorem panned_clamps (hi hi' t t' : Nat) (d d' : Int) : ((panned hi t d).2 || (panned hi' t' d').2) =
    decide ((t : Int) + d < 0 ∨ (hi : Int) < t + d ∨ (t' : Int) + d' < 0 ∨ (hi' : Int) < t' + d') := by
  simp only [panned, Bool.decide_or, Bool.or_assoc]

theorem clampTop_clamps (hi hi' x x' : Nat) : ((clampTop hi x).2 || (clampTop hi' x').2) = decide (hi < x ∨ hi' < x') := by
  simp only [clampTop, Bool.decide_or]

/-- What LAYOUT's byte says, and whether it was replaced. -/
theorem layoutArg_eq (b : Byte) : layoutArg b = (if b = 1 then .split else .single, decide (1 < b.toNat)) := by
  unfold layoutArg
  by_cases one : b = 1
  · subst one; rfl
  · rw [if_neg one, if_neg one]
    have apart : b.toNat ≠ 1 := fun e => one (BitVec.eq_of_toNat_eq e)
    have zero : b = 0 ↔ b.toNat = 0 := ⟨fun e => by simp [e], fun e => BitVec.eq_of_toNat_eq e⟩
    rw [bne, beq_eq_decide, ← decide_not, Prod.mk.injEq, decide_eq_decide, zero]
    exact ⟨rfl, by omega⟩

theorem State.unchanged_aim (s : State) (tx ty : Nat) : s.unchanged ((s.withEmitted []).aim tx ty).viewChanged [.vwc] :=
  State.unchanged_by

theorem State.unchanged_withGlide (s : State) (rate : Nat) :
    s.unchanged ((s.withEmitted []).withVwc { (s.withEmitted []).vwc with glide := rate }).viewChanged [.vwc] := State.unchanged_by

theorem State.unchanged_withLayout (s : State) (l : Layout) :
    s.unchanged ((s.withEmitted []).withVwc { (s.withEmitted []).vwc with layout := l }).rework.viewChanged [.vwc] := State.unchanged_by

/-- Settles O19: each command is a view command with its own change. -/
theorem centreLayoutAndGlideSet : Obligations.CentreLayoutAndGlideSet := by
  refine ⟨fun h x0 x1 y0 y1 s ht holds => ?_, fun h r0 r1 s ht holds => ?_, fun h b s ht holds => ?_⟩
  · obtain ⟨t, hc, shows, answers⟩ := view_works (f := workPan h [x0, x1, y0, y1]) (kind := 3) (args := [x0, x1, y0, y1]) (bs := [.vwc])
      (change := fun u => u.aim (panned 3839 s.vwc.tx (signedHalf x0 x1)).1 (panned 2879 s.vwc.ty (signedHalf y0 y1)).1)
      ht holds rfl (s.unchanged_aim _ _)
    obtain ⟨t', hc', shows', answers'⟩ := view_works (f := workCentre h [x0, x1, y0, y1]) (kind := 4) (args := [x0, x1, y0, y1])
      (bs := [.vwc]) (change := fun u => u.aim (min 3839 (half x0 x1)) (min 2879 (half y0 y1))) ht holds rfl (s.unchanged_aim _ _)
    refine ⟨⟨t, hc, ?_, ?_⟩, t', hc', shows'.vwc, ?_⟩
    · rw [shows.vwc]
      simp only [panned, limitInt_eq]
      rfl
    · exact panned_clamps 3839 2879 _ _ _ _ ▸ answers
    · rw [← clampTop_clamps]; exact answers'
  · obtain ⟨t, hc, shows, answers⟩ := view_works (f := workSetGlide h [r0, r1]) (kind := 10) (args := [r0, r1]) (bs := [.vwc])
      (change := fun u => u.withVwc { u.vwc with glide := (clampTop 255 (half r0 r1)).1 }) ht holds rfl (s.unchanged_withGlide _)
    refine ⟨t, hc, shows.vwc, ?_, answers⟩
    rw [State.glide_zc, shows.vwc]
    exact glideStep_int _ _ _
  · obtain ⟨t, hc, shows, answers⟩ := view_works (f := workLayout h [b]) (kind := 8) (args := [b]) (bs := [.vwc])
      (change := fun u => (u.withVwc { u.vwc with layout := (layoutArg b).1 }).rework) ht holds rfl (s.unchanged_withLayout _)
    rw [layoutArg_eq] at answers shows
    exact ⟨t, hc, shows.vwc, answers⟩

/-! ### Glide watches (05 R75, R76, R79) -/

theorem GlideWatch.record_eq (w : GlideWatch) (e : Ending) (frame : Nat) : w.record e frame = w.completes e frame := by
  obtain ⟨_, _, kind, _⟩ := w
  cases kind <;> rfl

/-- A watch in force ends with its record, and no watch is in force then. -/
theorem State.endWatch_vwc (s : State) (e : Ending) : (s.endWatch e).vwc = { s.vwc with watch := none } := by
  unfold State.endWatch
  split
  · next none => rw [← none]
  · rfl

theorem State.endWatch_superseded (s : State) : (s.endWatch .superseded).cpi = s.superseding := by
  unfold State.endWatch State.superseding
  cases s.vwc.watch with
  | none => rfl
  | some w => exact congrArg (s.cpi.given w.port) (w.record_eq _ _)

/-- ZOOM and ZOOM_STEP set the target zoom and the rate, and take the watch. -/
theorem zoom_works {s : State} {h : CmdHeader} {kind : Byte} {args : List Byte} {f : State → State × Answer} {watch : WatchKind}
    {zt glide : Nat} {wanted clamped : Bool} (ht : s.takes h.port) (holds : ¬ s.conditionFails h)
    (hf : f (s.withEmitted []) = zoomCommand h (s.withEmitted []) watch zt glide wanted clamped)
    (hk : kind ≠ 32 ∧ kind ≠ 59 := by decide) :
    ∃ t, command kind h args s f = .next t ∧
      t.vwc = { s.vwc with
        zt := zt, glide := glide, gen := s.vwc.gen + 1,
        watch := if wanted then some { port := h.port, marker := h.marker, kind := watch, target := zt } else none } ∧
      s.answers t (s.superseding.raise .viewChanged) kind h
        (if wanted then accepted clamped (.view t.vwc.figures) else doneWith clamped (.view t.vwc.figures)) [.vwc] := by
  have made := hf.trans (if_neg (mt (staleHeader_iff h s).mp holds))
  have kept (zt glide : Nat) (w : Option GlideWatch) : s.unchanged (((s.withEmitted []).endWatch .superseded).withVwc
      { ((s.withEmitted []).endWatch .superseded).vwc with zt := zt, glide := glide, watch := w }).viewChanged [.vwc] := by
    simp [State.unchanged]
  obtain ⟨t, hc, shows, answers⟩ := command_works (args := args) ht made (kept _ _ _) hk
  have vwc := shows.vwc.trans (show State.vwc (State.viewChanged _) = _ by
    rw [State.viewChanged, State.raise, State.withCpi_vwc, State.withVwc_vwc, State.withVwc_vwc, State.endWatch_vwc])
  refine ⟨t, hc, vwc, ?_⟩
  have cpi : ((s.withEmitted []).endWatch .superseded).cpi.raise .viewChanged = s.superseding.raise .viewChanged :=
    congrArg (Cpi.raise · .viewChanged) (State.endWatch_superseded _)
  rw [shows.vwc, ← cpi]
  exact answers

theorem clampBetween_clamps (lo hi x : Nat) : (clampBetween lo hi x).2 = decide (x < lo ∨ hi < x) := by
  simp only [clampBetween, Bool.decide_or]

theorem steppedZoom_eq (zt : Nat) (d : Int) : steppedZoom zt d =
    ((max 256 (min 4096 ((zt : Int) + d))).toNat, decide ((zt : Int) + d < 256 ∨ 4096 < (zt : Int) + d)) := by
  unfold steppedZoom limitInt
  rw [Prod.mk.injEq, Bool.decide_or]
  exact ⟨by omega, rfl⟩

/-- Settles O20: both commands take the target and the watch by the same work. -/
theorem zoomsSetTarget : Obligations.ZoomsSetTarget := by
  refine ⟨fun h z0 z1 w rate s ht holds fits => ?_, fun h d0 d1 w s ht holds => ?_⟩
  · rcases fits with rfl | ⟨r0, r1, rfl⟩
    · obtain ⟨t, hc, vwc, answers⟩ := zoom_works (f := workZoom h [z0, z1, w]) (kind := 1) (args := [z0, z1, w]) ht holds rfl
      have limited : ((clampBetween 256 4096 (half z0 z1)).2 || (zoomRate s.vwc.glide none).2 || (wantedArg w).2) =
          decide (half z0 z1 < 256 ∨ 4096 < half z0 z1 ∨ 1 < w.toNat ∨ (([] : List Byte) ≠ [] ∧ 255 < s.vwc.glide)) := by
        simp [clampBetween, zoomRate, wantedArg_eq, Bool.or_assoc]
      have answers := limited ▸ answers
      rw [wantedArg_eq] at vwc answers
      simp only [decide_eq_true_eq] at vwc answers
      exact ⟨t, hc, vwc, answers⟩
    · obtain ⟨t, hc, vwc, answers⟩ := zoom_works (f := workZoom h [z0, z1, w, r0, r1]) (kind := 1) (args := [z0, z1, w, r0, r1]) ht holds
        rfl
      have limited : ((clampBetween 256 4096 (half z0 z1)).2 || (zoomRate s.vwc.glide (some (half r0 r1))).2 || (wantedArg w).2) =
          decide (half z0 z1 < 256 ∨ 4096 < half z0 z1 ∨ 1 < w.toNat ∨ ([r0, r1] ≠ [] ∧ 255 < half r0 r1)) := by
        simp [clampBetween, clampTop, zoomRate, wantedArg_eq, Bool.or_assoc, Bool.or_comm, Bool.or_left_comm]
      have answers := limited ▸ answers
      rw [wantedArg_eq] at vwc answers
      simp only [decide_eq_true_eq] at vwc answers
      exact ⟨t, hc, vwc, answers⟩
  · obtain ⟨t, hc, vwc, answers⟩ := zoom_works (f := workZoomStep h [d0, d1, w]) (kind := 2) (args := [d0, d1, w]) ht holds rfl
    have limited : ((steppedZoom s.vwc.zt (signedHalf d0 d1)).2 || (wantedArg w).2) = decide ((s.vwc.zt : Int) + signedHalf d0 d1 < 256 ∨
        4096 < (s.vwc.zt : Int) + signedHalf d0 d1 ∨ 1 < w.toNat) := by
      simp [steppedZoom_eq, wantedArg_eq, Bool.or_assoc]
    have answers := limited ▸ answers
    rw [wantedArg_eq] at vwc answers
    simp only [decide_eq_true_eq] at vwc answers
    have target : (steppedZoom s.vwc.zt (signedHalf d0 d1)).1 = (max 256 (min 4096 ((s.vwc.zt : Int) + signedHalf d0 d1))).toNat := by
      rw [steppedZoom_eq]
    exact ⟨t, hc, target ▸ vwc, answers⟩

/-! ### FIT_PAGE (05 R81) -/

/-- What FIT_PAGE leaves of the view record. -/
theorem State.fitPage_vwc (s : State) : s.fitPage.vwc = { s.vwc with
    zt := (fitTarget s.vwc.window s.tcl.box).1, tx := (fitTarget s.vwc.window s.tcl.box).2.1,
    ty := (fitTarget s.vwc.window s.tcl.box).2.2.1, watch := none,
    window := windowOf s.dou.mode s.vwc.layout s.vwc.zc (fitTarget s.vwc.window s.tcl.box).2.1
      (fitTarget s.vwc.window s.tcl.box).2.2.1 } := by
  unfold State.fitPage State.aim State.rework Vwc.rework
  simp only [State.withVwc_vwc, State.withVwc_dou, State.endWatch_vwc, State.endWatch_dou]

theorem fitPage_works {s : State} {h : CmdHeader} (ht : s.takes h.port) (holds : ¬ s.conditionFails h) :
    ∃ t, exec (.fitPage h []) s = .next t ∧ t.vwc = { s.fitPage.vwc with gen := s.vwc.gen + 1 } ∧
      s.answers t (s.superseding.raise .viewChanged) 5 h (doneWith false (.fit t.vwc.figures s.tcl.box.isNone)) [.vwc] := by
  have made : workFitPage h [] (s.withEmitted []) = ((s.withEmitted []).fitPage.viewChanged,
      doneWith false (.fit (s.withEmitted []).fitPage.viewChanged.vwc.figures s.tcl.box.isNone)) :=
    if_neg (mt (staleHeader_iff h s).mp holds)
  obtain ⟨t, hc, shows, answers⟩ := command_works (kind := 5) (args := []) (bs := [.vwc]) ht made
    (by simp [State.unchanged, State.fitPage, State.aim])
  have vwc : t.vwc = { s.fitPage.vwc with gen := s.vwc.gen + 1 } := by
    rw [shows.vwc, State.viewChanged, State.raise, State.withCpi_vwc, State.withVwc_vwc, State.fitPage_vwc, State.fitPage_vwc]; rfl
  refine ⟨t, hc, vwc, ?_⟩
  have cpi : (s.withEmitted []).fitPage.viewChanged.cpi = s.superseding.raise .viewChanged :=
    congrArg (Cpi.raise · .viewChanged) (State.endWatch_superseded (s.withEmitted []))
  rw [shows.vwc, ← cpi]
  exact answers

/-- Settles O21: with the aim at the page box, or at the whole frame. -/
theorem pageIsFitted : Obligations.PageIsFitted := by
  intro h s ht holds
  obtain ⟨t, hc, vwc, answers⟩ := fitPage_works ht holds
  refine ⟨fun empty => ⟨t, hc, ?_, ?_⟩, fun b box => ⟨t, hc, ?_, ?_⟩⟩
  · rw [vwc, State.fitPage_vwc, empty]; rfl
  · rw [empty] at answers; exact answers
  · rw [vwc, State.fitPage_vwc, box]; rfl
  · rw [box] at answers; exact answers

/-! ### FREEZE, UNFREEZE, SHOW_LIVE (05 R82 to R85) -/

theorem State.unfreeze_eq (s : State) : s.unfreeze.vwc = { s.vwc with freeze := none } ∧ s.unfreeze.cpi = s.cpi ∧
    (s.vwc.freeze = none → s.unfreeze.spm = s.spm) ∧ (∀ n, s.vwc.freeze = some n → s.unfreeze.spm = s.spm.remove n .freeze) := by
  unfold State.unfreeze
  split
  · next live =>
    refine ⟨?_, rfl, fun _ => rfl, fun n e => nomatch live.symm.trans e⟩
    rw [← live]
  · next n frozen => exact ⟨rfl, rfl, fun e => (nomatch frozen.symm.trans e), fun m e => by cases frozen.symm.trans e; rfl⟩

theorem State.showLive_eq (s : State) : s.showLive.vwc = { s.vwc with page := none } ∧ s.showLive.cpi = s.cpi ∧
    (s.vwc.page = none → s.showLive.spm = s.spm) ∧ (∀ p, s.vwc.page = some p → s.showLive.spm = s.spm.remove p.slot .page) := by
  unfold State.showLive
  split
  · next live =>
    refine ⟨?_, rfl, fun _ => rfl, fun n e => nomatch live.symm.trans e⟩
    rw [← live]
  · next p shown => exact ⟨rfl, rfl, fun e => (nomatch shown.symm.trans e), fun m e => by cases shown.symm.trans e; rfl⟩

theorem State.unchanged_unfreeze (s : State) : s.unchanged (s.withEmitted []).unfreeze.viewChanged [.vwc, .spm] := by
  unfold State.unfreeze
  split <;> exact State.unchanged_by

theorem State.unchanged_showLive (s : State) : s.unchanged (s.withEmitted []).showLive.viewChanged [.vwc, .spm] := by
  unfold State.showLive
  split <;> exact State.unchanged_by

/-- Settles O22: each is a view command that moves or removes its holder with the view record. -/
theorem freezeAndPageHolders : Obligations.FreezeAndPageHolders := by
  intro h s ht holds
  refine ⟨fun n latest => ?_, ?_, ?_⟩
  · have found : workFreeze h [] (s.withEmitted []) = viewCommand h (s.withEmitted []) (fun s => s.freeze n) false := by
      simp only [workFreeze, noArgs, parsed_some, State.withEmitted_spm, latest]
    obtain ⟨t, hc, shows, answers⟩ := view_works (kind := 6) (args := []) (bs := [.vwc, .spm]) ht holds found State.unchanged_by
    exact ⟨t, hc, shows.vwc, shows.spm, answers⟩
  · obtain ⟨t, hc, shows, answers⟩ := view_works (f := workUnfreeze h []) (kind := 7) (args := []) (change := State.unfreeze) ht holds rfl
      s.unchanged_unfreeze
    obtain ⟨vwc, cpi, live, frozen⟩ := (s.withEmitted []).unfreeze_eq
    have raised : (s.withEmitted []).unfreeze.viewChanged.cpi = s.cpi.raise .viewChanged := congrArg (Cpi.raise · .viewChanged) cpi
    rw [raised] at answers
    refine ⟨t, hc, shows.vwc.trans ?_, fun e => shows.spm.trans (live e), fun n e => shows.spm.trans (frozen n e), answers⟩
    rw [State.viewChanged, State.raise, State.withCpi_vwc, State.withVwc_vwc, vwc]; rfl
  · obtain ⟨t, hc, shows, answers⟩ := view_works (f := workShowLive h []) (kind := 9) (args := []) (change := State.showLive) ht holds rfl
      s.unchanged_showLive
    obtain ⟨vwc, cpi, live, shown⟩ := (s.withEmitted []).showLive_eq
    have raised : (s.withEmitted []).showLive.viewChanged.cpi = s.cpi.raise .viewChanged := congrArg (Cpi.raise · .viewChanged) cpi
    rw [raised] at answers
    refine ⟨t, hc, shows.vwc.trans ?_, fun e => shows.spm.trans (live e), fun n e => shows.spm.trans (shown n e), answers⟩
    rw [State.viewChanged, State.raise, State.withCpi_vwc, State.withVwc_vwc, vwc]; rfl

end Sys2Proof.Machine

namespace Sys2Proof.Machine

/-! ### The window in the frame (05 R71 to R73) -/

/-- The panes that the output modes give, in both layouts. -/
theorem livePane_mem (mode : Nat) (layout : Layout) : livePane mode layout ∈
    [(1024, 768), (1280, 800), (1920, 1080), (3840, 2160), (512, 768), (640, 800), (960, 1080), (1920, 2160)] := by
  match mode with
  | 0 | 1 | 2 | _ + 3 => cases layout <;> simp [livePane, rasterSize]

/-- The base windows of the panes that the output modes give. -/
theorem baseWindow_pane (mode : Nat) (layout : Layout) :
    let pane := livePane mode layout
    let base := baseWindow pane.1 pane.2
    1920 ≤ base.1 ∧ base.1 ≤ 3840 ∧ 2160 ≤ base.2 ∧ base.2 ≤ 2880 ∧
    (base.1 = 3840 ∧ base.2 = 3840 * pane.2 / pane.1 ∧ pane.2 * 3840 ≤ pane.1 * 2880 ∨
     base.2 = 2880 ∧ base.1 = 2880 * pane.1 / pane.2 ∧ pane.1 * 2880 < pane.2 * 3840) := by
  have pane := livePane_mem mode layout
  simp only [List.mem_cons, List.not_mem_nil, or_false] at pane
  rcases pane with e | e | e | e | e | e | e | e <;> rw [e] <;> decide

/-- The window's size at a zoom within 256..4096: no larger than the base window, and at least a sixteenth of it. -/
theorem windowSize_mem {base zc : Nat} (low : 256 ≤ zc) (high : zc ≤ 4096) : base / 16 ≤ base * 256 / zc ∧ base * 256 / zc ≤ base := by
  constructor
  · rw [Nat.le_div_iff_mul_le (by omega)]
    calc base / 16 * zc ≤ base / 16 * 4096 := Nat.mul_le_mul_left _ high
      _ ≤ base * 256 := by omega
  · exact Nat.div_le_of_le_mul (by rw [Nat.mul_comm zc]; exact Nat.mul_le_mul_left _ low)

/-- Where the window lies along one direction of the frame. -/
theorem windowEdge_lies (target size span : Nat) (fits : size ≤ span) :
    windowEdge target size span + size ≤ span ∧
    (windowEdge target size span : Int) = max 0 (min ((span : Int) - size) ((target : Int) - (size / 2 : Nat))) ∧
    (size / 2 ≤ target → target + size ≤ span + size / 2 → windowEdge target size span + size / 2 = target) := by
  unfold windowEdge
  omega

/-! ### The fitted page in the window (05 R81) -/

/-- Where the grown page box is no larger than the base window, a zoom of 256 or more fits. -/
theorem zoom_of_fit {base g : Nat} (fits : g + 1 ≤ base) : 256 ≤ base * 256 / (g + 1) := by
  rw [Nat.le_div_iff_mul_le (Nat.succ_pos g), Nat.mul_comm]
  exact Nat.mul_le_mul_right _ fits

/-- A fitted zoom makes the window at least as large as the grown page box. -/
theorem size_of_fit {base grown z : Nat} (pos : 0 < z) (fit : z ≤ base * 256 / grown) (some : 0 < grown) : grown ≤ base * 256 / z := by
  rw [Nat.le_div_iff_mul_le pos, Nat.mul_comm]
  exact (Nat.le_div_iff_mul_le some).mp fit

/-- A window that is as large as the grown page box, with the page box's middle as its target, holds the page box. -/
theorem windowEdge_holds {t0 t1 size span : Nat} (order : t0 ≤ t1) (within : 64 * (t1 + 1) ≤ span) (fits : size ≤ span)
    (holds : (grown t0 t1 span).2 - (grown t0 t1 span).1 + 1 ≤ size) :
    windowEdge (middle t0 t1) size span ≤ 64 * t0 ∧
      64 * t0 + 64 * (t1 - t0 + 1) ≤ windowEdge (middle t0 t1) size span + size := by
  unfold windowEdge middle
  unfold grown at holds
  omega

/-- A zoom that fits both directions is at most what each of them allows, and within 256..4096. -/
theorem limit_min_mem {a b : Nat} (ha : 256 ≤ a) (hb : 256 ≤ b) :
    256 ≤ limit 256 4096 (min a b) ∧ limit 256 4096 (min a b) ≤ 4096 ∧ limit 256 4096 (min a b) ≤ a ∧ limit 256 4096 (min a b) ≤ b := by
  unfold limit
  omega

/-- Settles O23: direction by direction. -/
theorem windowInFrameAndPageInWindow : Obligations.WindowInFrameAndPageInWindow := by
  refine ⟨fun mode layout zc tx ty low high => ?_, fun mode layout zc tx ty b range => ?_⟩
  · obtain ⟨lowW, highW, lowH, highH, shape⟩ := baseWindow_pane mode layout
    obtain ⟨leastW, mostW⟩ := windowSize_mem (base := (baseWindow (livePane mode layout).1 (livePane mode layout).2).1) low high
    obtain ⟨leastH, mostH⟩ := windowSize_mem (base := (baseWindow (livePane mode layout).1 (livePane mode layout).2).2) low high
    obtain ⟨inX, edgeX, midX⟩ := windowEdge_lies tx _ 3840 (mostW.trans highW)
    obtain ⟨inY, edgeY, midY⟩ := windowEdge_lies ty _ 2880 (mostH.trans highH)
    have least : 120 ≤ (baseWindow (livePane mode layout).1 (livePane mode layout).2).1 / 16 ∧
        135 ≤ (baseWindow (livePane mode layout).1 (livePane mode layout).2).2 / 16 := by omega
    exact ⟨inX, inY, least.1.trans leastW, least.2.trans leastH, rfl, rfl, edgeX, edgeY, rfl, rfl, midX, midY, rfl, rfl, shape⟩
  · obtain ⟨lowW, highW, lowH, highH, -⟩ := baseWindow_pane mode layout
    obtain ⟨orderX, lastX, orderY, lastY⟩ := range
    intro base aim w hw hh
    have fitW : (grown b.c0 b.c1 3840).2 - (grown b.c0 b.c1 3840).1 + 1 ≤ base.baseW := by unfold grown at hw ⊢; omega
    have fitH : (grown b.r0 b.r1 2880).2 - (grown b.r0 b.r1 2880).1 + 1 ≤ base.baseH := by unfold grown at hh ⊢; omega
    obtain ⟨low, high, belowW, belowH⟩ := limit_min_mem (zoom_of_fit fitW) (zoom_of_fit fitH)
    have holdsW := size_of_fit (show 0 < aim.1 from Nat.lt_of_lt_of_le (by decide) low) belowW (Nat.succ_pos _)
    have holdsH := size_of_fit (show 0 < aim.1 from Nat.lt_of_lt_of_le (by decide) low) belowH (Nat.succ_pos _)
    obtain ⟨left, right⟩ := windowEdge_holds orderX (by omega) ((windowSize_mem low high).2.trans highW) holdsW
    obtain ⟨top, bottom⟩ := windowEdge_holds orderY (by omega) ((windowSize_mem low high).2.trans highH) holdsH
    exact ⟨left, right, top, bottom⟩

end Sys2Proof.Machine

namespace Sys2Proof.Machine

/-! ### Arrivals that are no commands -/

/-- An arrival at a powered part that changes the listed blocks alone: what its effect leaves, shown, apart from the sendings. -/
theorem arrive_works {s : State} {f : State → State} {bs : List Block} (hp : s.powered = true) (hu : s.unchanged (f (s.withEmitted [])) bs) :
    ∃ t, arrive s f = .next t ∧ (f (s.withEmitted [])).Shows t ∧ s.becomes t (f (s.withEmitted [])).cpi bs := by
  obtain ⟨t, ht, e, becomes⟩ := arrive_becomes f _ bs hp hu rfl
  exact ⟨t, ht, by subst e; constructor <;> simp, becomes⟩

/-! ### Output frame starts (05 R78, R79; 06 R87, R93) -/

section Output
variable {s : State}

theorem State.frameStarts_running (fresh : s.dou.stale = 0) (runs : s.dou.raster ≠ .stopped) : s.frameStarts = s.outputFrame := by
  unfold State.frameStarts
  rw [if_neg (by omega), if_neg runs]

/-- A glide step moves the zoom, and the window with it. -/
theorem State.glide_vwc (s : State) :
    s.glide.vwc = { s.vwc with zc := glideStep s.vwc.zt s.vwc.zc s.vwc.glide, window := s.glide.vwc.window } := by
  unfold State.glide
  split
  · next stands => rw [stands]
  · rfl

theorem State.glide_window (sound : s.vwc.window = windowOf s.dou.mode s.vwc.layout s.vwc.zc s.vwc.tx s.vwc.ty) :
    s.glide.vwc.window = windowOf s.dou.mode s.vwc.layout (glideStep s.vwc.zt s.vwc.zc s.vwc.glide) s.vwc.tx s.vwc.ty := by
  unfold State.glide
  split
  · next stands => rw [stands]; exact sound
  · rfl

/-- The test of the glide watch ends it when the zoom stands at its target, and changes nothing else of the view record. -/
theorem State.testWatch_vwc (s : State) :
    s.testWatch.vwc = { s.vwc with watch := if s.vwc.zc = s.vwc.zt then none else s.vwc.watch } := by
  unfold State.testWatch
  split
  · rw [State.endWatch_vwc]
  · rfl

/-- The record of a watch whose zoom stands at its target. -/
theorem State.testWatch_cpi (s : State) :
    (∀ w, s.vwc.watch = some w → s.vwc.zc = s.vwc.zt → s.testWatch.cpi = s.cpi.given w.port (w.completes .done s.siu.frameNumber)) ∧
    (s.vwc.watch = none ∨ s.vwc.zc ≠ s.vwc.zt → s.testWatch.cpi = s.cpi) := by
  unfold State.testWatch State.endWatch
  refine ⟨fun w watched stands => ?_, fun h => ?_⟩
  · rw [if_pos stands, watched, ← w.record_eq]; rfl
  · rcases h with none | moves
    · rw [none]; split <;> rfl
    · rw [if_neg moves]

theorem State.outputFrame_vwc (s : State) : s.outputFrame.vwc = { s.vwc with
    zc := glideStep s.vwc.zt s.vwc.zc s.vwc.glide, window := s.glide.vwc.window,
    watch := if glideStep s.vwc.zt s.vwc.zc s.vwc.glide = s.vwc.zt then none else s.vwc.watch } := by
  have latched : s.outputFrame.vwc = s.glide.testWatch.vwc := rfl
  rw [latched, State.testWatch_vwc, State.glide_vwc]

/-- Settles O24: the glide step, the window that the view's soundness gives, and the test of the watch. -/
theorem outputFrameGlides : Obligations.OutputFrameGlides := by
  intro s hp runs fresh sound
  have starts : (s.withEmitted []).frameStarts = (s.withEmitted []).outputFrame := State.frameStarts_running (s := s.withEmitted []) fresh runs
  obtain ⟨t, ht, shows, kept, sent⟩ := arrive_works (f := State.frameStarts) (bs := [.vwc, .spm, .dou]) hp
    (by rw [starts]; simp [State.unchanged, State.outputFrame, State.latchPanes])
  have vwc := shows.vwc
  rw [starts] at vwc sent
  rw [State.outputFrame_vwc, State.glide_window (s := s.withEmitted []) sound.1] at vwc
  obtain ⟨given, none⟩ := (s.withEmitted []).glide.testWatch_cpi
  have glided := (s.withEmitted []).glide_vwc
  rw [glided] at given none
  have cpi : (s.withEmitted []).outputFrame.cpi = (s.withEmitted []).glide.testWatch.cpi := rfl
  rw [cpi] at sent
  refine ⟨t, ht, kept, vwc, fun w watched stands => ?_, fun h => ?_⟩
  · rw [given w watched stands] at sent
    simpa using sent
  · rw [none h] at sent
    simpa using sent

/-- The live picture that a latch shows: the frozen slot, or else LATEST, through the window, or grey. -/
theorem State.liveLatch_eq (s : State) :
    (∀ n, s.vwc.freeze = some n → s.liveLatch = .liveWindow n s.vwc.window) ∧
    (∀ n, s.vwc.freeze = none → s.spm.find .latest = some n → s.liveLatch = .liveWindow n s.vwc.window) ∧
    (s.vwc.freeze = none → s.spm.find .latest = none → s.liveLatch = .fill .grey) := by
  unfold State.liveLatch
  exact ⟨fun n frozen => by rw [frozen], fun n live latest => by rw [live, latest], fun live none => by rw [live, none]⟩

theorem State.leftLatch_eq (s : State) : s.leftLatch = (match s.dou.blank, s.vwc.layout, s.vwc.page with
    | true, _, _ => .fill .black
    | false, .single, some p => .pageFit p.slot
    | false, .single, none => s.liveLatch
    | false, .split, _ => s.liveLatch) := by
  unfold State.leftLatch
  cases s.dou.blank <;> cases s.vwc.layout <;> cases s.vwc.page <;> rfl

theorem State.rightLatch_eq (s : State) : s.rightLatch = (match s.vwc.layout, s.dou.blank, s.vwc.page with
    | .single, _, _ => none
    | .split, true, _ => some (.fill .black)
    | .split, false, some p => some (.pageFit p.slot)
    | .split, false, none => some (.fill .white)) := by
  unfold State.rightLatch
  cases s.dou.blank <;> cases s.vwc.layout <;> cases s.vwc.page <;> rfl

/-- What the latches of an output frame start are made from. -/
theorem State.latchSources (s : State) : s.glide.testWatch.vwc.freeze = s.vwc.freeze ∧ s.glide.testWatch.vwc.layout = s.vwc.layout ∧
    s.glide.testWatch.vwc.page = s.vwc.page ∧ s.glide.testWatch.dou = s.dou ∧ s.glide.testWatch.spm = s.spm := by
  rw [State.testWatch_vwc, State.glide_vwc]
  exact ⟨rfl, rfl, rfl, by simp, by simp⟩

/-- Settles O25: by the three cases of a frame start. -/
theorem outputFrameLatches : Obligations.OutputFrameLatches := by
  refine ⟨fun s hp stale => ?_, fun s hp fresh stopped => ?_, fun s hp runs fresh => ?_⟩
  · have waits : (s.withEmitted []).frameStarts = (s.withEmitted []).withDou { s.dou with stale := s.dou.stale - 1 } :=
      if_pos (Nat.pos_of_ne_zero stale)
    obtain ⟨t, ht, shows, becomes⟩ := arrive_works (f := State.frameStarts) (bs := [.dou]) hp (by rw [waits]; exact State.unchanged_by)
    rw [waits] at shows becomes
    exact ⟨t, ht, shows.dou, becomes⟩
  · have idle : (s.withEmitted []).frameStarts = s.withEmitted [] := by
      unfold State.frameStarts
      rw [if_neg (by simp [fresh]), if_pos (show (s.withEmitted []).dou.raster = .stopped from stopped)]
    obtain ⟨t, ht, -, becomes⟩ := arrive_works (f := State.frameStarts) (bs := []) hp (by rw [idle]; exact State.unchanged_by)
    rw [idle] at becomes
    exact ⟨t, ht, becomes⟩
  · have starts : (s.withEmitted []).frameStarts = (s.withEmitted []).outputFrame :=
      State.frameStarts_running (s := s.withEmitted []) fresh runs
    obtain ⟨t, ht, shows, -⟩ := arrive_works (f := State.frameStarts) (bs := [.vwc, .spm, .dou]) hp
      (by rw [starts]; simp [State.unchanged, State.outputFrame, State.latchPanes])
    rw [starts] at shows
    obtain ⟨freeze, layout, page, dou, spm⟩ := (s.withEmitted []).latchSources
    obtain ⟨frozen, latest, grey⟩ := (s.withEmitted []).glide.testWatch.liveLatch_eq
    have window : t.vwc.window = (s.withEmitted []).glide.testWatch.vwc.window := congrArg Vwc.window shows.vwc
    rw [freeze, spm] at latest grey
    rw [freeze] at frozen
    rw [← window] at frozen latest
    have latched : t.dou = { s.dou with
        raster := .running, left := some (s.withEmitted []).glide.testWatch.leftLatch,
        right := (s.withEmitted []).glide.testWatch.rightLatch } := shows.dou.trans (by rw [← s.withEmitted_dou [], ← dou]; rfl)
    refine ⟨t, (s.withEmitted []).glide.testWatch.liveLatch, ht, frozen, latest, grey, ?_, ?_⟩
    · rw [latched, State.leftLatch_eq, State.rightLatch_eq, dou, layout, page]; rfl
    · rw [shows.spm, latched, ← s.withEmitted_spm [], ← spm]; rfl

/-- What BLANK's byte says, and whether it was replaced. -/
theorem blankArg_eq (b : Byte) : blankArg b = (decide (b = 1), decide (1 < b.toNat)) := by
  have layout := layoutArg_eq b
  unfold layoutArg at layout
  unfold blankArg
  by_cases one : b = 1
  · subst one; rfl
  · rw [if_neg one, if_neg one] at layout
    rw [if_neg one, decide_eq_false one, (Prod.mk.inj layout).2]

/-- Settles O26: with what each of the three commands writes. -/
theorem outputRestartsAndIsSet : Obligations.OutputRestartsAndIsSet := by
  refine ⟨fun h s ht => ⟨fun stopped => ?_, fun runs => ?_⟩, fun h b s ht => ⟨?_, ?_⟩⟩
  · refine command_refuses (f := workOutputRestart h []) ht ?_
    rw [workOutputRestart, noArgs, parsed_some]
    exact if_pos stopped
  · have restarts : workOutputRestart h [] (s.withEmitted []) = edited (s.withEmitted []).restartOutput false := by
      rw [workOutputRestart, noArgs, parsed_some]
      exact if_neg runs
    obtain ⟨t, hc, shows, answers⟩ := command_works (kind := 27) (args := []) (bs := [.dou, .vwc, .spm]) ht restarts State.unchanged_by
    exact ⟨t, hc, shows.dou, shows.vwc, shows.spm, answers⟩
  · obtain ⟨t, hc, shows, answers⟩ := command_works (f := workSetOutputMode h [b]) (kind := 26) (args := [b]) (bs := [.dou]) ht rfl
      State.unchanged_by
    exact ⟨t, hc, shows.dou, answers⟩
  · obtain ⟨t, hc, shows, answers⟩ := command_works (f := workBlank h [b]) (kind := 28) (args := [b]) (bs := [.dou]) ht rfl
      State.unchanged_by
    rw [blankArg_eq] at shows answers
    exact ⟨t, hc, shows.dou, answers⟩

end Output
end Sys2Proof.Machine

namespace Sys2Proof.Machine

/-! ### What the argument bytes say -/

theorem byte_ne {b x : Byte} (h : b ≠ x) : b.toNat ≠ x.toNat := fun e => h (BitVec.eq_of_toNat_eq e)

/-- The action byte, and whether it was replaced (02 R27, R30). -/
theorem actionArg_cases (a : Byte) : (a = 0 → (actionArg a).1 = .p0) ∧ (a = 1 → (actionArg a).1 = .p1) ∧ (a = 2 → (actionArg a).1 = .p2) ∧
    (a = 3 → (actionArg a).1 = .p3) ∧ (4 ≤ a.toNat → (actionArg a).1 = .pass) ∧ (actionArg a).2 = decide (4 < a.toNat) := by
  by_cases known : a = 0 ∨ a = 1 ∨ a = 2 ∨ a = 3
  · rcases known with rfl | rfl | rfl | rfl <;> decide
  · simp only [not_or] at known
    obtain ⟨h0, h1, h2, h3⟩ := known
    have other : actionArg a = (.pass, a != 4) := by rw [actionArg, if_neg h0, if_neg h1, if_neg h2, if_neg h3]
    have n0 := byte_ne h0; have n1 := byte_ne h1; have n2 := byte_ne h2; have n3 := byte_ne h3
    have four : a = 4 ↔ a.toNat = 4 := ⟨fun e => by rw [e]; rfl, fun e => BitVec.eq_of_toNat_eq e⟩
    refine ⟨fun e => absurd e h0, fun e => absurd e h1, fun e => absurd e h2, fun e => absurd e h3, fun _ => by rw [other], ?_⟩
    rw [other, bne, beq_eq_decide, ← decide_not, decide_eq_decide, four]
    change a.toNat ≠ 0 at n0; change a.toNat ≠ 1 at n1; change a.toNat ≠ 2 at n2; change a.toNat ≠ 3 at n3
    omega

/-- The kind byte of an entry, and whether it was replaced (02 R27). -/
theorem matchArg_cases (k : Byte) : (k = 0 → (matchArg k).1 = .range) ∧ (k = 1 → (matchArg k).1 = .pair) ∧
    (2 ≤ k.toNat → (matchArg k).1 = .mask) ∧ (matchArg k).2 = decide (2 < k.toNat) := by
  by_cases known : k = 0 ∨ k = 1
  · rcases known with rfl | rfl <;> decide
  · simp only [not_or] at known
    obtain ⟨h0, h1⟩ := known
    have other : matchArg k = (.mask, k != 2) := by rw [matchArg, if_neg h0, if_neg h1]
    have n0 := byte_ne h0; have n1 := byte_ne h1
    have two : k = 2 ↔ k.toNat = 2 := ⟨fun e => by rw [e]; rfl, fun e => BitVec.eq_of_toNat_eq e⟩
    refine ⟨fun e => absurd e h0, fun e => absurd e h1, fun _ => by rw [other], ?_⟩
    rw [other, bne, beq_eq_decide, ← decide_not, decide_eq_decide, two]
    change k.toNat ≠ 0 at n0; change k.toNat ≠ 1 at n1
    omega

/-- A note of SET_FEED_NOTES (07 R103; log 38). -/
theorem noteArg_eq (r : RawNote) : noteArg r.code r.rate = (r.writes, r.outside) := by
  obtain ⟨code, rate⟩ := r
  have zero (b : Byte) : b = 0 ↔ b.toNat = 0 := ⟨fun e => by rw [e]; rfl, fun e => BitVec.eq_of_toNat_eq e⟩
  unfold noteArg RawNote.writes RawNote.outside
  dsimp only
  by_cases h2 : code = 2
  · subst h2
    rw [if_pos rfl, if_pos rfl, Prod.mk.injEq]
    refine ⟨rfl, ?_⟩
    rw [clampBetween_clamps, decide_eq_decide, zero rate]
    constructor
    · intro h; exact .inr (.inr ⟨rfl, by omega⟩)
    · rintro (h | h | ⟨-, h⟩)
      · exact absurd h (by decide)
      · exact absurd h (by decide)
      · omega
  · rw [if_neg h2, if_neg h2]
    by_cases h3 : code = 3
    · subst h3; rw [if_pos rfl, if_pos rfl]; rfl
    · rw [if_neg h3, if_neg h3]
      by_cases h4 : code = 4
      · subst h4; rw [if_pos rfl, if_pos rfl]; rfl
      · rw [if_neg h4, if_neg h4, Prod.mk.injEq]
        refine ⟨rfl, ?_⟩
        have n2 := byte_ne h2; have n3 := byte_ne h3; have n4 := byte_ne h4
        have one : code = 1 ↔ code.toNat = 1 := ⟨fun e => by rw [e]; rfl, fun e => BitVec.eq_of_toNat_eq e⟩
        rw [bne, beq_eq_decide, ← decide_not, decide_eq_decide, one, zero]
        change code.toNat ≠ 2 at n2; change code.toNat ≠ 3 at n3; change code.toNat ≠ 4 at n4
        simp only [h2, false_and, or_false]
        omega

theorem noteList_bytes (notes : List RawNote) :
    noteList (notes.flatMap RawNote.bytes) = some (notes.map fun r => (r.writes, r.outside)) := by
  induction notes with
  | nil => rfl
  | cons r rest ih => simp [List.flatMap_cons, RawNote.bytes, noteList, ih, noteArg_eq r] at *

theorem notesArgs_bytes {notes : List RawNote} (few : notes.length ≤ 4) :
    notesArgs (notes.flatMap RawNote.bytes) = some (notes.map fun r => (r.writes, r.outside)) := by
  rw [notesArgs, noteList_bytes]
  exact if_pos (by rw [List.length_map]; exact few)

/-- The three marks, each limited by the one before it (07 R113). -/
theorem marksArg_eq (high low start : Byte) : marksArg high low start =
    (let hm := max 2 (min 64 high.toNat)
     ({ high := hm, low := min (hm - 1) low.toNat, start := max 1 (min hm start.toNat) },
      decide (high.toNat < 2 ∨ 64 < high.toNat ∨ hm - 1 < low.toNat ∨ start.toNat < 1 ∨ hm < start.toNat))) := by
  simp only [marksArg, clampBetween, clampTop, limit, Bool.decide_or, Bool.or_assoc]
  rfl

/-! ### Settings -/

/-- Settles O29: with each setting's own byte layout. -/
theorem settingsWritten : Obligations.SettingsWritten := by
  refine ⟨fun h a b s ht => ⟨?_, ?_, ?_, ?_⟩, fun h s ht => ⟨fun notes few => ?_, fun high low start => ?_, fun b => ?_⟩⟩
  · obtain ⟨t, hc, shows, answers⟩ := command_works (f := workSetEdgeThreshold h [a, b]) (kind := 12) (args := [a, b]) (bs := [.tsu]) ht rfl
      State.unchanged_by
    exact ⟨t, hc, shows.tsu, answers⟩
  · obtain ⟨t, hc, shows, answers⟩ := command_works (f := workSetEntryEnable h [a, b]) (kind := 17) (args := [a, b]) (bs := [.tcl]) ht rfl
      State.unchanged_by
    exact ⟨t, _, _, flagArg_says b, hc, shows.tcl, answers⟩
  · obtain ⟨t, hc, shows, answers⟩ := command_works (f := workSetDefaultAction h [a, b]) (kind := 18) (args := [a, b]) (bs := [.tcl]) ht rfl
      State.unchanged_by
    obtain ⟨a0, a1, a2, a3, other, replaced⟩ := actionArg_cases a
    exact ⟨t, _, _, _, flagArg_says b, a0, a1, a2, a3, other, hc, shows.tcl, replaced ▸ answers⟩
  · obtain ⟨t, hc, shows, answers⟩ := command_works (f := workSetTextQuorum h [a, b]) (kind := 19) (args := [a, b]) (bs := [.tcl]) ht rfl
      State.unchanged_by
    exact ⟨t, hc, shows.tcl, clampBetween_clamps 1 255 _ ▸ answers⟩
  · have work : workSetFeedNotes h (notes.flatMap RawNote.bytes) (s.withEmitted []) =
        edited ((s.withEmitted []).withFlc { s.flc with notes := notes.map RawNote.writes }) (notes.any RawNote.outside) := by
      rw [workSetFeedNotes, notesArgs_bytes few, parsed_some, List.map_map, List.any_map]; rfl
    obtain ⟨t, hc, shows, answers⟩ := command_works (kind := 30) (args := notes.flatMap RawNote.bytes) (bs := [.flc]) ht work
      State.unchanged_by
    exact ⟨t, hc, shows.flc, answers⟩
  · obtain ⟨t, hc, shows, answers⟩ := command_works (f := workSetFeedMarks h [high, low, start]) (kind := 31) (args := [high, low, start])
      (bs := [.flc]) ht rfl State.unchanged_by
    rw [marksArg_eq] at shows answers
    exact ⟨t, hc, shows.flc, answers⟩
  · obtain ⟨t, hc, shows, answers⟩ := command_works (f := workSetPlaceRetryLimit h [b]) (kind := 46) (args := [b]) (bs := [.lsc]) ht rfl
      State.unchanged_by
    exact ⟨t, hc, shows.lsc, answers⟩

/-! ### Classifier entries and profiles (02 R27, R28; 03 R44, R45) -/

/-- What an entry's bytes say. -/
def RawEntry.arg (r : RawEntry) : ClassifierEntry × Bool := entryArg r.enabled r.kind r.a0 r.a1 r.b0 r.b1 r.action r.text

/-- Whether one of an entry's two flags was replaced, which the manual leaves open for a byte above 1. -/
def RawEntry.leftOpen (r : RawEntry) : Bool := (flagArg r.enabled).2 || (flagArg r.text).2

theorem RawEntry.arg_writes (r : RawEntry) : r.writes r.arg.1 := by
  obtain ⟨range, pair, mask, -⟩ := matchArg_cases r.kind
  obtain ⟨a0, a1, a2, a3, pass, -⟩ := actionArg_cases r.action
  obtain ⟨off, on⟩ := flagArg_says r.enabled
  obtain ⟨plain, text⟩ := flagArg_says r.text
  exact ⟨rfl, rfl, range, pair, mask, a0, a1, a2, a3, pass, fun e => (off e).1, fun e => (on e).1, fun e => (plain e).1, fun e => (text e).1⟩

theorem RawEntry.arg_clamped (r : RawEntry) : r.arg.2 = (r.outside || r.leftOpen) := by
  obtain ⟨-, -, -, kind⟩ := matchArg_cases r.kind
  obtain ⟨-, -, -, -, -, action⟩ := actionArg_cases r.action
  simp only [RawEntry.arg, entryArg, RawEntry.outside, RawEntry.leftOpen, kind, action, clampTop, half]
  simp only [Bool.or_assoc, Bool.or_comm, Bool.or_left_comm]
  rfl

theorem flagArg_stated {b : Byte} (h : b.toNat ≤ 1) : (flagArg b).2 = false := by
  obtain ⟨off, on⟩ := flagArg_says b
  by_cases zero : b = 0
  · exact (off zero).2
  · refine (on (BitVec.eq_of_toNat_eq ?_)).2
    have := byte_ne zero
    change b.toNat ≠ 0 at this
    change b.toNat = 1
    omega

theorem RawEntry.leftOpen_stated {r : RawEntry} (h : r.flagsStated) : r.leftOpen = false := by
  rw [RawEntry.leftOpen, flagArg_stated h.1, flagArg_stated h.2]; rfl

theorem entryList_bytes (rs : List RawEntry) : entryList (rs.flatMap RawEntry.bytes) = some (rs.map RawEntry.arg) := by
  induction rs with
  | nil => rfl
  | cons r rest ih =>
    rw [List.flatMap_cons, RawEntry.bytes]
    simp only [List.cons_append, List.nil_append, entryList, ih]
    rfl

theorem any_or {α : Type} (l : List α) (p q : α → Bool) : l.any (fun x => p x || q x) = (l.any p || l.any q) := by
  induction l with
  | nil => rfl
  | cons x l ih => simp only [List.any_cons, ih, Bool.or_assoc, Bool.or_left_comm]

/-- The written part of the table takes the new entries, the rest stays. -/
theorem writeEntries_get {table l : List ClassifierEntry} {first : Nat} (length : table.length = 32) (within : first ≤ 31) :
    (writeEntries table first l).length = 32 ∧
    ∀ k, k < 32 → (writeEntries table first l)[k]? =
      if first ≤ k ∧ k < first + min l.length (32 - first) then l[k - first]? else table[k]? := by
  have before : (table.take first).length = first := by rw [List.length_take]; omega
  have written : (l.take (32 - first)).length = min l.length (32 - first) := by rw [List.length_take, Nat.min_comm]
  unfold writeEntries
  rw [length]
  refine ⟨by simp only [List.length_append, before, written, List.length_drop, length]; omega, fun k hk => ?_⟩
  by_cases low : k < first
  · rw [if_neg (by omega), List.append_assoc, List.getElem?_append_left (by omega), List.getElem?_take_of_lt low]
  · by_cases mid : k < first + min l.length (32 - first)
    · rw [if_pos ⟨by omega, mid⟩, List.append_assoc, List.getElem?_append_right (by omega), before,
        List.getElem?_append_left (by omega), List.getElem?_take_of_lt (by omega)]
    · rw [if_neg (by omega), List.getElem?_append_right (by rw [List.length_append]; omega), List.length_append, before, written,
        List.getElem?_drop]
      congr 1; omega

/-- Settles O30: entry by entry, and profile by profile. -/
theorem classifierAndProfilesWritten : Obligations.ClassifierAndProfilesWritten := by
  refine ⟨fun h index r s ht => ?_, fun h index rs s ht length least most => ?_, fun h s ht => ⟨fun index r => ?_, fun p0 p1 p2 p3 => ?_⟩⟩
  · obtain ⟨t, hc, shows, answers⟩ := command_works (f := workSetClassifierEntry h (index :: r.bytes)) (kind := 15)
      (args := index :: r.bytes) (bs := [.tcl]) ht rfl State.unchanged_by
    refine ⟨t, r.arg.1, r.leftOpen, r.arg_writes, RawEntry.leftOpen_stated, hc, shows.tcl, ?_⟩
    have clamped : ((clampTop 31 index.toNat).2 || r.arg.2) = (decide (31 < index.toNat) || r.outside || r.leftOpen) := by
      rw [r.arg_clamped, Bool.or_assoc]; rfl
    exact clamped ▸ answers
  · have parsed : entriesArgs (index :: rs.flatMap RawEntry.bytes) = some (index, rs.map RawEntry.arg) := by
      rw [entriesArgs, entryList_bytes]
      exact if_pos (by rw [List.length_map]; exact ⟨least, most⟩)
    have work : workSetClassifierEntries h (index :: rs.flatMap RawEntry.bytes) (s.withEmitted []) =
        ((s.withEmitted []).setEntries (writeEntries s.tcl.table.entries (min 31 index.toNat) (rs.map fun r => r.arg.1)),
         doneWith (decide (31 < index.toNat ∨ min rs.length (32 - min 31 index.toNat) < rs.length) ||
           (rs.take (min rs.length (32 - min 31 index.toNat))).any RawEntry.outside ||
           (rs.take (min rs.length (32 - min 31 index.toNat))).any RawEntry.leftOpen)
           (.entriesWritten (min rs.length (32 - min 31 index.toNat)))) := by
      have shorter (m : Nat) : rs.take m = rs.take (min rs.length m) := by rw [Nat.min_comm, ← List.take_eq_take_min]
      rw [workSetClassifierEntries, parsed, parsed_some]
      simp only [clampTop, List.map_map, List.length_map, ← List.map_take, List.length_take, List.any_map, Nat.min_comm _ rs.length,
        Bool.decide_or]
      rw [shorter, Bool.or_assoc, Bool.or_assoc, Bool.or_assoc, ← any_or]
      simp only [← RawEntry.arg_clamped]
      rfl
    obtain ⟨whole, entries⟩ := writeEntries_get (l := rs.map fun r => r.arg.1) length (Nat.min_le_left 31 index.toNat)
    obtain ⟨t, hc, shows, answers⟩ := command_works (kind := 16) (args := index :: rs.flatMap RawEntry.bytes) (bs := [.tcl]) ht work
      State.unchanged_by
    have table : t.tcl.table.entries = writeEntries s.tcl.table.entries (min 31 index.toNat) (rs.map fun r => r.arg.1) :=
      congrArg (fun x => x.table.entries) shows.tcl
    rw [List.length_map] at entries
    refine ⟨t, rs.map fun r => r.arg.1, _, List.length_map .., fun k r e hr he => ?_, fun stated => ?_, hc, ?_, table ▸ whole,
      table ▸ entries, answers⟩
    · rw [List.getElem?_map, hr] at he
      cases he
      exact r.arg_writes
    · rw [List.any_eq_false]
      intro r hr
      rw [RawEntry.leftOpen_stated (stated r hr)]; decide
    · rw [table]; exact shows.tcl
  · obtain ⟨t, hc, shows, answers⟩ := command_works (f := workSetProfile h (index :: r.bytes)) (kind := 22)
      (args := index :: r.bytes) (bs := [.peu]) ht rfl State.unchanged_by
    exact ⟨t, hc, shows.peu, answers⟩
  · obtain ⟨t, hc, shows, answers⟩ := command_works (f := workSetProfiles h (p0.bytes ++ p1.bytes ++ p2.bytes ++ p3.bytes)) (kind := 23)
      (args := p0.bytes ++ p1.bytes ++ p2.bytes ++ p3.bytes) (bs := [.peu]) ht rfl State.unchanged_by
    have clamped : ([(p0.writes, p0.outside), (p1.writes, p1.outside), (p2.writes, p2.outside), (p3.writes, p3.outside)].any (·.2)) =
        (p0.outside || p1.outside || p2.outside || p3.outside) := by
      simp only [List.any_cons, List.any_nil, Bool.or_false, Bool.or_assoc]
    exact ⟨t, hc, shows.peu, clamped ▸ answers⟩

end Sys2Proof.Machine

namespace Sys2Proof.Machine

/-! ### Reports -/

/-- A taken report command is answered DONE with its block, and changes nothing. -/
theorem report_works {s : State} {h : CmdHeader} {kind : Byte} {args : List Byte} {f : State → State × Answer} {a : Answer}
    (ht : s.takes h.port) (hf : f (s.withEmitted []) = (s.withEmitted [], a)) (hk : kind ≠ 32 ∧ kind ≠ 59 := by decide) :
    ∃ t, command kind h args s f = .next t ∧ s.answers t s.cpi kind h a [] := by
  obtain ⟨t, hc, -, answers⟩ := command_works (args := args) (bs := []) ht hf State.unchanged_by hk
  exact ⟨t, hc, answers⟩

theorem entriesFrom_length (table : List ClassifierEntry) (first count : Nat) :
    (entriesFrom table first count).length = min count (table.length - first) := by
  simp [entriesFrom]

theorem entriesFrom_get {table : List ClassifierEntry} {first count k : Nat} {e : Nat × ClassifierEntry}
    (h : (entriesFrom table first count)[k]? = some e) : e.1 = first + k ∧ table[first + k]? = some e.2 := by
  rw [entriesFrom, List.getElem?_mapIdx, Option.map_eq_some_iff] at h
  obtain ⟨x, hx, rfl⟩ := h
  refine ⟨rfl, ?_⟩
  rw [List.getElem?_take] at hx
  split at hx
  · rw [List.getElem?_drop] at hx; exact hx
  · exact nomatch hx

/-- The fit that READ_OUTPUT reports of a latch. -/
theorem Latch.fit_eq (l : Option Latch) (pw ph : Nat) : (l.bind fun l => l.fit pw ph) = (match l with
    | some (.pageFit _) => some (fitInto 1920 1440 pw ph)
    | _ => none) := by
  cases l with
  | none => rfl
  | some l => cases l <;> rfl

theorem Tsu.tile_eq (t : Tsu) (col row : Nat) : t.tile col row = (match t.settled with
    | none => none
    | some set => (set.tiles[60 * row + col]?).map fun r => (r, set.frame)) := by
  unfold Tsu.tile
  cases t.settled <;> rfl

theorem Dou.report_eq (d : Dou) : d.report =
    (let wide := (rasterSize d.mode).1
     let pane := if d.right = none then wide else wide / 2
     let fitted := fun l : Option Latch => match l with
       | some (.pageFit _) => some (fitInto 1920 1440 pane (rasterSize d.mode).2)
       | _ => none
     { mode := d.mode, pending := d.pendingMode, raster := d.raster, blank := d.blank, left := d.left, right := d.right,
       leftFit := fitted d.left, rightFit := fitted d.right }) := by
  have pane : d.paneWidth = if d.right = none then (rasterSize d.mode).1 else (rasterSize d.mode).1 / 2 := by
    unfold Dou.paneWidth
    cases d.right <;> rfl
  simp only [Dou.report, Latch.fit_eq, pane]

/-- What READ_JOBS gives of a job (09 R152). -/
theorem Job.report_eq (j : Job) (ls : List LessonRecord) : j.report ls =
    { kind := j.task.named.1, port := j.port, marker := j.marker, state := j.state, withdrawn := j.withdrawn, serial := j.serial,
      lesson := j.task.named.2,
      detail := (match j.task, j.state with
        | .store _ _, .running => some (j.stage, j.serial.bind (fun q => ((recordsOf ls).find? (·.serial == q)).map (·.place)), j.retries)
        | _, _ => none) } := by
  have place : (j.serial.bind (recordWith ls)).map (·.place) =
      j.serial.bind (fun q => ((recordsOf ls).find? (·.serial == q)).map (·.place)) := by
    cases j.serial <;> rfl
  rw [Job.report, Job.detail, JobTask.named_eq, place] <;> rfl

/-- Whether the frame in flight is the EXPORT frame, as READ_FEED reports it. -/
theorem Flc.inFlight_eq (f : Flc) : (f.frame.map FeedFrame.isExport).getD false = (match f.frame with
    | some g => (match g.kind with
      | .exported _ _ => true
      | .live _ => false)
    | none => false) := by
  cases f.frame with
  | none => rfl
  | some g => cases hk : g.kind <;> simp [FeedFrame.isExport, hk]

/-- The part of a hold that READ_FEED may report as remaining. -/
theorem holdLeft_bounds {units draw : Nat} (h : 1 ≤ units) :
    1 ≤ 1 + Config.holdElapsed draw % units ∧ 1 + Config.holdElapsed draw % units ≤ units := by
  have := Nat.mod_lt (Config.holdElapsed draw) (show 0 < units by omega)
  omega

theorem takenPlaces_length (ls : List LessonRecord) (retired : List Nat) :
    (takenPlaces ls retired).length = (recordsOf ls).length + retired.length := by
  rw [takenPlaces, List.length_append, List.length_map]

/-- READ_FEED draws a free value for the hold units that remain (log 14). -/
theorem readFeed_works {s : State} {h : CmdHeader} (ht : s.takes h.port) :
    ∃ t, exec (.readFeed h []) s = .next t ∧
      State.answers { s with freeCount := s.freeCount + 1 } t s.cpi 33 h (doneWith false (.feed (s.flc.report s.freeCount))) [] := by
  have other : (33 : Byte) ≠ 32 ∧ (33 : Byte) ≠ 59 := by decide
  have taken := command_taken 33 [] (workReadFeed h []) ht
  rw [State.afterRestart_other _ _ other] at taken
  refine ⟨_, taken, ?_, ?_⟩
  · simp [State.unchanged, workReadFeed, noArgs, parsed_some]
  · have sent := State.transmit_sends ((State.owe (workReadFeed h [] (s.withEmitted [])).1 h.port
      ((workReadFeed h [] (s.withEmitted [])).2.reply 33 h (workReadFeed h [] (s.withEmitted [])).1.vwc.gen)).driven h.port s.cpi
        (([] : List Byte).length + 7))
    rw [State.driven_cpi] at sent
    simp only [State.transmit_vwc, State.driven_vwc, State.owe_vwc]
    exact sent

/-- Settles O31: report by report. -/
theorem reportsGiven : Obligations.ReportsGiven := by
  refine ⟨fun h s ht => ⟨?_, ?_, fun col row => ?_, fun first count low high => ?_, ?_, ?_, ?_, ?_, ?_, ?_⟩, fun h s ht => ?_,
    fun h b s ht => ⟨?_, fun starting => ?_, fun up out => ?_, fun up allowed => ?_, ?_⟩⟩
  · exact report_works (f := workReadView h []) ht rfl
  · exact report_works (f := workReadEdgeThreshold h []) ht rfl
  · obtain ⟨t, hc, answers⟩ := report_works (f := workReadTile h [col, row]) (kind := 14) (args := [col, row]) ht rfl
    rw [clampTop_clamps, Tsu.tile_eq] at answers
    exact ⟨t, hc, answers⟩
  · have parsed : rangeArgs [first, count] = some (first, count.toNat) := if_pos ⟨low, high⟩
    obtain ⟨t, hc, answers⟩ := report_works (f := workReadClassifier h [first, count]) (kind := 20) (args := [first, count]) ht
      (by rw [workReadClassifier, parsed, parsed_some])
    exact ⟨_, entriesFrom_length _ _ _, fun _ _ => entriesFrom_get, t, hc, answers⟩
  · exact report_works (f := workReadPageBox h []) ht rfl
  · exact report_works (f := workReadProfiles h []) ht rfl
  · exact report_works (f := workReadSlots h []) ht rfl
  · obtain ⟨t, hc, answers⟩ := report_works (f := workReadOutput h []) (kind := 29) (args := []) ht rfl
    rw [Dou.report_eq] at answers
    exact ⟨t, hc, answers⟩
  · exact report_works (f := workReadStatus h []) ht rfl
  · exact report_works (f := workReadCounters h []) ht rfl
  · obtain ⟨t, hc, answers⟩ := readFeed_works ht
    refine ⟨t, (s.flc.report s.freeCount).holdLeft, hc, fun free => ?_, fun units late held some => ?_, ?_⟩
    · rw [Flc.report, free]; rfl
    · rw [Flc.report, held]
      exact ⟨_, rfl, holdLeft_bounds some⟩
    · have waiting : s.flc.exportReport = fun e => { s.flc.exportReport e with
          inFlight := (match s.flc.frame with
            | some g => (match g.kind with
              | .exported _ _ => true
              | .live _ => false)
            | none => false) } := by
        funext e
        rw [Flc.exportReport, Flc.inFlight_eq]
      rw [Flc.report, waiting] at answers
      exact answers
  · obtain ⟨t, hc, answers⟩ := report_works (f := workReadStore h []) (kind := 47) (args := []) ht rfl
    refine ⟨t, hc, ?_⟩
    rw [Lsc.report, takenPlaces_length] at answers
    exact answers
  · refine command_refuses (f := workReadLesson h [b]) ht ?_
    rw [workReadLesson, oneByte, parsed_some]
    exact if_pos starting
  · refine report_works (f := workReadLesson h [b]) ht ?_
    rw [workReadLesson, oneByte, parsed_some]
    exact (if_neg up).trans (if_neg (by rw [← Bool.not_eq_true] at out; exact out))
  · refine report_works (f := workReadLesson h [b]) ht ?_
    rw [workReadLesson, oneByte, parsed_some]
    exact (if_neg up).trans (if_pos allowed)
  · obtain ⟨t, hc, answers⟩ := report_works (f := workReadJobs h []) (kind := 49) (args := []) ht rfl
    simp only [Job.report_eq] at answers
    exact ⟨t, hc, answers⟩

end Sys2Proof.Machine

namespace Sys2Proof.Machine

/-! ### Counting slots and pins (04 R47) -/

section Pool
variable {p : Spm} {n m : Nat} {k : HolderKind}

/-- A sum taken slot by slot, after one slot was changed. -/
theorem sum_modify (w : Slot → Nat) (f : Slot → Slot) (l : List Slot) (hn : n < l.length) :
    ((l.modify n f).map w).sum + w (l.getD n freeSlot) = (l.map w).sum + w (f (l.getD n freeSlot)) := by
  induction l generalizing n with
  | nil => exact absurd hn (Nat.not_lt_zero _)
  | cons x l ih =>
    cases n with
    | zero => simp; omega
    | succ n =>
      have := ih (Nat.lt_of_succ_lt_succ hn)
      simp only [List.getD_eq_getElem?_getD] at this
      simp
      omega

theorem Spm.freeCount_eq_sum : p.freeCount = (p.slots.map fun x => if x.holders = noHolders then 1 else 0).sum := by
  unfold Spm.freeCount
  induction p.slots with
  | nil => rfl
  | cons x l ih => simp [List.countP_cons, ih, Holders.isEmpty_iff, Nat.add_comm]

/-- The FREE count after a slot was changed. -/
theorem Spm.freeCount_modify (f : Slot → Slot) (x : Nat) (hn : n < p.slots.length) :
    Spm.freeCount { slots := p.slots.modify n f, notices := x } + (if (p.slot n).holders = noHolders then 1 else 0) =
      p.freeCount + (if (f (p.slot n)).holders = noHolders then 1 else 0) := by
  rw [Spm.freeCount_eq_sum, Spm.freeCount_eq_sum]
  exact sum_modify (fun x => if x.holders = noHolders then 1 else 0) f p.slots hn

/-- The pin count after a slot was changed. -/
theorem Spm.pinCount_modify (f : Slot → Slot) (x : Nat) (hn : n < p.slots.length) :
    Spm.pinCount { slots := p.slots.modify n f, notices := x } + (p.slot n).holders.pins.length =
      p.pinCount + (f (p.slot n)).holders.pins.length :=
  sum_modify (fun x => x.holders.pins.length) f p.slots hn

/-- A slot that held something is counted as FREE after a removal that leaves nothing. -/
theorem Spm.freeCount_leave (h : Holders) (held : (p.slot n).holders ≠ noHolders) :
    (p.leave n h).freeCount = p.freeCount + (if h = noHolders then 1 else 0) := by
  have counted := fun f x => Spm.freeCount_modify (p := p) f x (Spm.lt_of_ne held)
  simp only [if_neg held] at counted
  unfold Spm.leave
  split
  · next e =>
    rw [if_pos (Holders.isEmpty_iff.mp e)]
    simpa using counted Slot.freed (p.notices + 1)
  · next e =>
    rw [Holders.isEmpty_iff] at e
    simpa [e] using counted (fun s => { s with holders := h }) p.notices

theorem Spm.pinCount_leave (h : Holders) (hn : n < p.slots.length) :
    (p.leave n h).pinCount + (p.slot n).holders.pins.length = p.pinCount + h.pins.length := by
  unfold Spm.leave
  split
  · next e =>
    rw [Holders.isEmpty_iff.mp e]
    exact Spm.pinCount_modify Slot.freed (p.notices + 1) hn
  · exact Spm.pinCount_modify (fun s => { s with holders := h }) p.notices hn

/-- What a removal that leaves `h` on a held slot makes of the pool. -/
theorem Spm.leaves {h : Holders} (held : (p.slot n).holders ≠ noHolders) :
    (∀ m, m ≠ n → (p.leave n h).slot m = p.slot m) ∧
    (h = noHolders → (p.leave n h).slot n = (p.slot n).freed ∧ (p.leave n h).freeCount = p.freeCount + 1 ∧
      (p.leave n h).notices = p.notices + 1) ∧
    (h ≠ noHolders → (p.leave n h).slot n = { p.slot n with holders := h } ∧ (p.leave n h).freeCount = p.freeCount ∧
      (p.leave n h).notices = p.notices) := by
  have slot := fun m => (Spm.slot_leave p n m h).1
  have notices := (Spm.slot_leave p n n h).2
  have hn := Spm.lt_of_ne held
  refine ⟨fun m hm => by rw [slot, if_neg (hm ∘ And.left)], fun e => ?_, fun e => ?_⟩
  · rw [slot, notices, Spm.freeCount_leave h held, if_pos ⟨rfl, hn⟩, if_pos e, if_pos e]
    exact ⟨rfl, rfl, rfl⟩
  · rw [slot, notices, Spm.freeCount_leave h held, if_pos ⟨rfl, hn⟩, if_neg e, if_neg e]
    exact ⟨rfl, rfl, rfl⟩

/-! ### Removing, replacing and moving a holder (04 R50, R56) -/

theorem Spm.remove_eq (h : (p.slot n).holders.has k = true) : p.remove n k = p.leave n ((p.slot n).holders.put k false) := if_pos h

theorem Spm.slot_remove_other (h : m ≠ n) : (p.remove n k).slot m = p.slot m := by
  unfold Spm.remove
  split
  · next has => exact (Spm.leaves (Holders.ne_of_has has)).1 m h
  · rfl

/-- The slot a holder is removed from is released. -/
theorem Spm.released_remove (h : (p.slot n).holders.has k = true) : (p.slot n).released ((p.remove n k).slot n) k := by
  rw [Spm.remove_eq h]
  obtain ⟨-, freed, kept⟩ := Spm.leaves (h := (p.slot n).holders.put k false) (Holders.ne_of_has h)
  exact ⟨fun e => (freed e).1, fun e => (kept e).1⟩

theorem Spm.unpin_eq {t : PinTag} (h : t ∈ (p.slot n).holders.pins) :
    p.unpin n t = p.leave n { (p.slot n).holders with pins := (p.slot n).holders.pins.erase t } :=
  if_pos (List.contains_iff_mem.mpr h)

theorem Spm.unpin_other {t : PinTag} (h : t ∉ (p.slot n).holders.pins) : p.unpin n t = p :=
  if_neg fun e => h (List.contains_iff_mem.mp e)

theorem Holders.ne_of_pin {h : Holders} {t : PinTag} (ht : t ∈ h.pins) : h ≠ noHolders := by
  rintro rfl
  exact nomatch ht

/-- A kind that the slot carries already is placed without effect. -/
theorem Spm.place_same (h : (p.slot n).holders.has k = true) : p.place n k = p := by
  have hn := Spm.lt_of_has h
  have put : (p.slot n).holders.put k true = (p.slot n).holders := by
    revert h
    cases k <;> exact fun h => by simp [Holders.put, Holders.has] at h ⊢; rw [← h]
  refine congrArg (Spm.mk · p.notices) (List.ext_getElem? fun m => ?_)
  rw [List.getElem?_modify]
  split
  · next e =>
    subst e
    have slot : p.slot n = p.slots[n] := List.getD_eq_getElem _ _ hn
    rw [List.getElem?_eq_getElem hn, ← slot, Option.map_eq_map, Option.map_some, put]
  · exact id_map _

/-- A kind that moves to another slot: placed there, and removed from its slot. -/
theorem Spm.move_eq {o : Nat} (h : p.find k = some o) (ne : n ≠ o) : p.move k (some n) = (p.place n k).remove o k := by
  unfold Spm.move Spm.removeOld
  simp [h, ne]

theorem Spm.move_same (h : p.find k = some n) : p.move k (some n) = p := by
  unfold Spm.move Spm.removeOld
  simp [h, Spm.place_same (Spm.find_some h).2.1]

end Pool

/-- Settles O32: operation by operation. -/
theorem holdersRemovedAndMoved : Obligations.HoldersRemovedAndMoved := by
  refine ⟨fun p n k hn has => ⟨Spm.released_remove has, fun m hm => Spm.slot_remove_other hm, ?_⟩,
    fun p n old new hn has ne => ⟨?_, fun m hm => ?_, ?_, rfl⟩, fun p k o n hn at_o ne => ?_, fun p k n => Spm.move_same,
    fun p n tag hn pinned => ?_, fun p n tag => Spm.unpin_other, fun p n tag hn held => ⟨?_, fun m hm => ?_, ?_, ?_, rfl⟩⟩
  · obtain ⟨-, freed, kept⟩ := Spm.leaves (h := (p.slot n).holders.put k false) (Holders.ne_of_has has)
    rw [Spm.remove_eq has]
    exact ⟨fun e => (freed e).2, fun e => (kept e).2⟩
  · rw [Spm.slot_replace, if_pos ⟨rfl, hn⟩]
  · rw [Spm.slot_replace, if_neg (hm ∘ And.left)]
  · have counted := Spm.freeCount_modify (p := p) (fun s => { s with holders := (s.holders.put old false).put new true }) p.notices hn
    simp only [if_neg (Holders.ne_of_has has), if_neg (Holders.put_ne _ _)] at counted
    exact counted
  · have at_place : (p.place n k).slot o = p.slot o := by rw [Spm.slot_place, if_neg fun e => ne e.1.symm]
    have carried : ((p.place n k).slot o).holders.has k = true := by rw [at_place]; exact (Spm.find_some at_o).2.1
    dsimp only
    rw [Spm.move_eq at_o ne, Spm.slot_remove_other ne, Spm.slot_place, if_pos ⟨rfl, hn⟩]
    have released := Spm.released_remove carried
    rw [at_place] at released
    refine ⟨rfl, released, fun m hmn hmo => ?_⟩
    rw [Spm.slot_remove_other hmo, Spm.slot_place, if_neg (hmn ∘ And.left)]
  · have left := Spm.leaves (h := { (p.slot n).holders with pins := (p.slot n).holders.pins.erase tag }) (Holders.ne_of_pin pinned)
    have pins := Spm.pinCount_leave (p := p) { (p.slot n).holders with pins := (p.slot n).holders.pins.erase tag } hn
    have length := List.length_erase_of_mem pinned
    have some := List.length_pos_of_mem pinned
    rw [Spm.unpin_eq pinned]
    exact ⟨left.1, by dsimp only at pins ⊢; omega, left.2⟩
  · rw [Spm.slot_pin, if_pos ⟨rfl, hn⟩]
  · rw [Spm.slot_pin, if_neg (hm ∘ And.left)]
  · have counted := Spm.pinCount_modify (p := p)
      (fun s => { s with holders := { s.holders with pins := s.holders.pins ++ [tag] } }) p.notices hn
    simp only [List.length_append, List.length_singleton] at counted
    exact Nat.add_right_cancel (counted.trans (by omega))
  · have counted := Spm.freeCount_modify (p := p)
      (fun s => { s with holders := { s.holders with pins := s.holders.pins ++ [tag] } }) p.notices hn
    have pinned : { (p.slot n).holders with pins := (p.slot n).holders.pins ++ [tag] } ≠ noHolders :=
      Holders.ne_of_pin (t := tag) (by simp)
    simp only [if_neg held, if_neg pinned] at counted
    exact counted

end Sys2Proof.Machine

namespace Sys2Proof.Machine

/-! ### Sums of a part of a list -/

/-- A sum of a part of the indices below `n`. -/
theorem sum_range_part (h : Nat → Nat) {a w n : Nat} (fits : a + w ≤ n) :
    ((List.range n).map fun y => if a ≤ y ∧ y < a + w then h y else 0).sum = ((List.range w).map fun v => h (a + v)).sum := by
  obtain ⟨r, rfl⟩ := Nat.le.dest fits
  have before : ((List.range a).map fun y => if a ≤ y ∧ y < a + w then h y else 0).sum = 0 := by
    refine List.sum_eq_zero fun x hx => ?_
    obtain ⟨y, hy, rfl⟩ := List.mem_map.mp hx
    have := List.mem_range.mp hy
    exact if_neg (by omega)
  have after : ((List.range r).map ((fun y => if a ≤ y ∧ y < a + w then h y else 0) ∘ (a + w + ·))).sum = 0 := by
    refine List.sum_eq_zero fun x hx => ?_
    obtain ⟨y, hy, rfl⟩ := List.mem_map.mp hx
    exact if_neg (by dsimp only; omega)
  have mid : ((List.range w).map ((fun y => if a ≤ y ∧ y < a + w then h y else 0) ∘ (a + ·))) =
      (List.range w).map fun v => h (a + v) :=
    List.map_congr_left fun v hv => if_pos (by have := List.mem_range.mp hv; dsimp only; omega)
  simp only [List.range_add, List.map_append, List.sum_append, List.map_map, before, after, mid]
  omega

/-- The sum of a run of a list, value by value. -/
theorem sum_take_drop (l : List Nat) (a w : Nat) :
    ((l.drop a).take w).sum = ((List.range w).map fun u => l.getD (a + u) 0).sum := by
  induction w with
  | zero => rfl
  | succ w ih =>
    rw [List.take_add_one, List.sum_append, ih, List.range_succ, List.map_append, List.sum_append, List.getElem?_drop,
      List.map_singleton, List.getD_eq_getElem?_getD]
    cases l[a + w]? <;> simp

/-- A sum over numbered values, index by index. -/
theorem sum_zipIdx (l : List (List Nat)) (g : List Nat → Nat → Nat) :
    (l.zipIdx.map fun p => g p.1 p.2).sum = ((List.range l.length).map fun y => g (l.getD y []) y).sum := by
  congr 1
  refine List.ext_getElem (by simp) fun n h h' => ?_
  simp at h
  simp [List.getElem?_eq_getElem h]

/-! ### The largest and the smallest of a list -/

theorem foldl_max_spec (x : Nat) (l : List Nat) : l.foldl max x ∈ x :: l ∧ ∀ b ∈ x :: l, b ≤ l.foldl max x :=
  List.max?_eq_some_iff.mp List.max?_cons'

theorem foldl_min_spec (x : Nat) (l : List Nat) : l.foldl min x ∈ x :: l ∧ ∀ b ∈ x :: l, l.foldl min x ≤ b :=
  List.min?_eq_some_iff.mp List.min?_cons'

/-! ### A tile's figures, line by line (01 R12, R13) -/

/-- What line `y` adds to tile number `i` when it is gathered. -/
def tileTakes (threshold i : Nat) (t : TileAcc) (l : List Nat × Nat) : TileAcc :=
  if i / 60 = l.2 / 64 then t.gather threshold (l.2 % 64) (tileRun l.1 (i % 60)) else t

/-- Gathering lines, seen from one tile. -/
theorem gathered_get (threshold i : Nat) (lines : List (List Nat × Nat)) (set : List TileAcc) :
    (lines.foldl (fun set l => gatherLine threshold l.2 l.1 set) set)[i]? =
      set[i]?.map fun t => lines.foldl (tileTakes threshold i) t := by
  induction lines generalizing set with
  | nil => simp
  | cons l lines ih =>
    rw [List.foldl_cons, ih, gatherLine, List.getElem?_mapIdx]
    cases set[i]? <;> rfl

/-- A number that grows by what each line adds. -/
theorem foldl_sum (threshold i : Nat) (measure : TileAcc → Nat) (adds : List Nat × Nat → Nat)
    (step : ∀ t l, measure (tileTakes threshold i t l) = measure t + adds l) (lines : List (List Nat × Nat)) (t : TileAcc) :
    measure (lines.foldl (tileTakes threshold i) t) = measure t + (lines.map adds).sum := by
  induction lines generalizing t with
  | nil => simp
  | cons l lines ih => rw [List.foldl_cons, ih, step, List.map_cons, List.sum_cons, Nat.add_assoc]

/-- Luminance of a pixel of a run of lines. -/
def lumAt (lines : List (List Nat)) (x y : Nat) : Nat := (lines.getD y []).getD x 0

/-- The sum of a rectangle of pixels. -/
def lumSum (lines : List (List Nat)) (x y w h : Nat) : Nat :=
  ((List.range h).map fun v => ((List.range w).map fun u => lumAt lines (x + u) (y + v)).sum).sum

theorem tileTakes_sum (threshold i : Nat) (t : TileAcc) (l : List Nat × Nat) : (tileTakes threshold i t l).sum =
    t.sum + if i / 60 = l.2 / 64 then ((List.range 64).map fun u => l.1.getD (64 * (i % 60) + u) 0).sum else 0 := by
  unfold tileTakes
  split
  · rw [TileAcc.gather, tileRun, List.take_take, sum_take_drop]
    rfl
  · rfl

theorem tileTakes_edges (threshold i : Nat) (t : TileAcc) (l : List Nat × Nat) : (tileTakes threshold i t l).edges =
    t.edges + if i / 60 = l.2 / 64 then edgeCount threshold (tileRun l.1 (i % 60)) else 0 := by
  unfold tileTakes
  split <;> rfl

theorem tileTakes_sub (threshold i k : Nat) (t : TileAcc) (l : List Nat × Nat) :
    ((tileTakes threshold i t l).subs[k]?).isSome = (t.subs[k]?).isSome ∧ ((t.subs[k]?).isSome →
      (tileTakes threshold i t l).subs.getD k 0 = t.subs.getD k 0 +
        if i / 60 = l.2 / 64 ∧ k / 4 = l.2 % 64 / 16 then
          ((List.range 16).map fun u => l.1.getD (64 * (i % 60) + 16 * (k % 4) + u) 0).sum
        else 0) := by
  unfold tileTakes
  split
  · next here =>
    have cut : (((tileRun l.1 (i % 60)).take 64).drop (16 * (k % 4))).take 16 = (l.1.drop (64 * (i % 60) + 16 * (k % 4))).take 16 := by
      rw [tileRun, List.take_take, List.drop_take, List.take_take, List.drop_drop]
      congr 1
      omega
    simp only [TileAcc.gather, List.getElem?_mapIdx, List.getD_eq_getElem?_getD]
    cases t.subs[k]? with
    | none => simp
    | some sub =>
      refine ⟨rfl, fun _ => ?_⟩
      simp only [Option.map_some, Option.getD_some, cut, sum_take_drop, here, true_and, List.getD_eq_getElem?_getD]
      split <;> simp
  · next there => simp [there]

/-- A tile has as many sub-blocks as before. -/
theorem tileTakes_subs (threshold i : Nat) (t : TileAcc) (l : List Nat × Nat) :
    (tileTakes threshold i t l).subs.length = t.subs.length + 0 := by
  unfold tileTakes
  split
  · exact List.length_mapIdx
  · rfl

/-- The edge pixels of a run, position by position. -/
theorem edgeCount_eq (threshold : Nat) (run : List Nat) {n : Nat} (h : run.length ≤ n + 1) : edgeCount threshold run =
    (List.range n).countP fun u => decide (u + 1 < run.length) && isEdge threshold (run.getD u 0) (run.getD (u + 1) 0) := by
  induction run generalizing n with
  | nil => simp [edgeCount]
  | cons a run ih =>
    cases run with
    | nil => simp [edgeCount]
    | cons b rest =>
      obtain ⟨n, rfl⟩ : ∃ m, n = m + 1 := ⟨n - 1, by simp at h; omega⟩
      rw [edgeCount, ih (n := n) (by simpa using h), List.range_succ_eq_map, List.countP_cons, List.countP_map, Nat.add_comm]
      congr 1
      · refine List.countP_congr fun u _ => ?_
        simp
      · simp
        cases isEdge threshold a b <;> rfl

/-- The edge pixels of a tile's part of a line: its 64 steps to the right, less the one out of the frame (01 R13). -/
theorem edgeCount_tileRun (threshold : Nat) {line : List Nat} (length : line.length = 3840) {col : Nat} (h : col < 60) :
    edgeCount threshold (tileRun line col) = (List.range 64).countP fun u => decide (64 * col + u ≤ 3838 ∧
      threshold < max (line.getD (64 * col + u) 0) (line.getD (64 * col + u + 1) 0) -
        min (line.getD (64 * col + u) 0) (line.getD (64 * col + u + 1) 0)) := by
  rw [edgeCount_eq threshold _ (n := 64) (by simp [tileRun])]
  refine List.countP_congr fun u hu => ?_
  have hu := List.mem_range.mp hu
  have cut : ∀ k < 65, (tileRun line col).getD k 0 = line.getD (64 * col + k) 0 := fun k hk => by
    simp [tileRun, hk]
  rw [cut u (by omega), cut (u + 1) (by omega), isEdge, Nat.add_assoc]
  simp only [tileRun, List.length_take, List.length_drop, length, Bool.and_eq_true, decide_eq_true_eq]
  omega

/-- The lines that a tile gathers, as a sum over its rows. -/
theorem sum_tileRows (h : Nat → Nat) {row n : Nat} (fits : 64 * row + 64 ≤ n) :
    ((List.range n).map fun y => if row = y / 64 then h y else 0).sum = ((List.range 64).map fun v => h (64 * row + v)).sum := by
  rw [← sum_range_part h fits]
  congr 1
  exact List.map_congr_left fun y _ => if_congr (by omega) rfl rfl

/-- The lines that a sub-block gathers, as a sum over its rows. -/
theorem sum_blockRows (h : Nat → Nat) {row j n : Nat} (fits : 64 * row + 64 ≤ n) (hj : j < 4) :
    ((List.range n).map fun y => if row = y / 64 ∧ j = y % 64 / 16 then h y else 0).sum =
      ((List.range 16).map fun v => h (64 * row + 16 * j + v)).sum := by
  rw [← sum_range_part h (a := 64 * row + 16 * j) (w := 16) (n := n) (by omega)]
  congr 1
  exact List.map_congr_left fun y _ => if_congr (by omega) rfl rfl

/-- A tile before anything is gathered. -/
def openTile : TileAcc := { sum := 0, subs := List.replicate 16 0, edges := 0 }

/-- A tile once every line of a frame was gathered. -/
def gathered (threshold col row : Nat) (lines : List (List Nat)) : TileAcc :=
  lines.zipIdx.foldl (tileTakes threshold (60 * row + col)) openTile

section Frame
variable {threshold col row : Nat} {lines : List (List Nat)}

theorem gathered_mem (threshold : Nat) (lines : List (List Nat)) (hc : col < 60) (hr : row < 45) :
    (lines.zipIdx.foldl (fun set l => gatherLine threshold l.2 l.1 set) openSet)[60 * row + col]? =
      some (gathered threshold col row lines) := by
  rw [gathered_get, openSet, List.getElem?_replicate, if_pos (by omega), Option.map_some]
  rfl

variable (length : lines.length = 2880) (hc : col < 60) (hr : row < 45)
include length hc hr

/-- A tile's number gives its column and row back, and its rows lie in the frame. -/
theorem tile_place : (60 * row + col) / 60 = row ∧ (60 * row + col) % 60 = col ∧ 64 * row + 64 ≤ lines.length := by omega

theorem gathered_sum : (gathered threshold col row lines).sum = lumSum lines (64 * col) (64 * row) 64 64 := by
  obtain ⟨hi, hj, fits⟩ := tile_place length hc hr
  rw [gathered, foldl_sum _ _ TileAcc.sum _ (tileTakes_sum threshold (60 * row + col)),
    sum_zipIdx _ fun l y => if (60 * row + col) / 60 = y / 64 then
      ((List.range 64).map fun u => l.getD (64 * ((60 * row + col) % 60) + u) 0).sum else 0, hi, hj, sum_tileRows _ fits]
  exact Nat.zero_add _

theorem gathered_edges (wide : ∀ l ∈ lines, l.length = 3840) : (gathered threshold col row lines).edges =
    ((List.range 64).map fun v => (List.range 64).countP fun u => decide (64 * col + u ≤ 3838 ∧
      threshold < max (lumAt lines (64 * col + u) (64 * row + v)) (lumAt lines (64 * col + u + 1) (64 * row + v)) -
        min (lumAt lines (64 * col + u) (64 * row + v)) (lumAt lines (64 * col + u + 1) (64 * row + v)))).sum := by
  obtain ⟨hi, hj, fits⟩ := tile_place length hc hr
  rw [gathered, foldl_sum _ _ TileAcc.edges _ (tileTakes_edges threshold (60 * row + col)),
    sum_zipIdx _ fun l y => if (60 * row + col) / 60 = y / 64 then
      edgeCount threshold (tileRun l ((60 * row + col) % 60)) else 0, hi, hj, sum_tileRows _ fits]
  refine (Nat.zero_add _).trans (congrArg List.sum (List.map_congr_left fun v hv => ?_))
  have hv := List.mem_range.mp hv
  have there : 64 * row + v < lines.length := by omega
  refine edgeCount_tileRun threshold (wide _ ?_) hc
  rw [List.getD_eq_getElem _ _ there]
  exact List.getElem_mem there

/-- The sum of a sub-block. -/
theorem gathered_sub {i j : Nat} (hi : i < 4) (hj : j < 4) : (gathered threshold col row lines).subs[4 * j + i]? =
    some (lumSum lines (64 * col + 16 * i) (64 * row + 16 * j) 16 16) := by
  obtain ⟨tr, tc, fits⟩ := tile_place length hc hr
  have here : ∀ (ls : List (List Nat × Nat)) (t : TileAcc), (t.subs[4 * j + i]?).isSome →
      (ls.foldl (tileTakes threshold (60 * row + col)) t).subs[4 * j + i]? = some (t.subs.getD (4 * j + i) 0 +
        (ls.map fun l => if row = l.2 / 64 ∧ j = l.2 % 64 / 16 then
          ((List.range 16).map fun u => l.1.getD (64 * col + 16 * i + u) 0).sum else 0).sum) := by
    intro ls
    induction ls with
    | nil =>
      intro t some
      obtain ⟨x, hx⟩ := Option.isSome_iff_exists.mp some
      simp [hx, List.getD_eq_getElem?_getD]
    | cons l ls ih =>
      intro t some
      obtain ⟨stays, adds⟩ := tileTakes_sub threshold (60 * row + col) (4 * j + i) t l
      rw [List.foldl_cons, ih _ (stays.trans some), adds some, tr, tc, show (4 * j + i) / 4 = j by omega,
        show (4 * j + i) % 4 = i by omega, List.map_cons, List.sum_cons, Nat.add_assoc]
  rw [gathered, here _ _ (by rw [openTile, List.getElem?_replicate, if_pos (by omega)]; rfl),
    sum_zipIdx _ fun l y => if row = y / 64 ∧ j = y % 64 / 16 then
      ((List.range 16).map fun u => l.getD (64 * col + 16 * i + u) 0).sum else 0, sum_blockRows _ fits hj]
  have zero : openTile.subs.getD (4 * j + i) 0 = 0 := by
    rw [openTile, List.getD_eq_getElem?_getD, List.getElem?_replicate, if_pos (by omega)]
    rfl
  rw [zero, Nat.zero_add]
  rfl

theorem gathered_white :
    (∀ i j, i < 4 → j < 4 → lumSum lines (64 * col + 16 * i) (64 * row + 16 * j) 16 16 / 256 ≤ (gathered threshold col row lines).white) ∧
    ∃ i j, i < 4 ∧ j < 4 ∧
      (gathered threshold col row lines).white = lumSum lines (64 * col + 16 * i) (64 * row + 16 * j) 16 16 / 256 := by
  have sub := fun i j hi hj => gathered_sub (threshold := threshold) length hc hr (i := i) (j := j) hi hj
  have subs : (gathered threshold col row lines).subs.length = 16 := by
    rw [gathered, foldl_sum _ _ (fun t => t.subs.length) _ (tileTakes_subs threshold (60 * row + col)), openTile]
    simp
  obtain ⟨largest, bound⟩ := foldl_max_spec 0 ((gathered threshold col row lines).subs.map (· / 256))
  have le : ∀ i j, i < 4 → j < 4 →
      lumSum lines (64 * col + 16 * i) (64 * row + 16 * j) 16 16 / 256 ≤ (gathered threshold col row lines).white :=
    fun i j hi hj => bound _ (List.mem_cons_of_mem _ (List.mem_map_of_mem (List.mem_of_getElem? (sub i j hi hj))))
  refine ⟨le, ?_⟩
  rcases List.mem_cons.mp largest with zero | one
  · have := le 0 0 (by omega) (by omega)
    exact ⟨0, 0, by omega, by omega, Nat.le_antisymm (by rw [TileAcc.white, zero]; omega) this⟩
  · obtain ⟨x, hx, e⟩ := List.mem_map.mp one
    obtain ⟨n, hn, rfl⟩ := List.mem_iff_getElem.mp hx
    have at_n := sub (n % 4) (n / 4) (by omega) (by omega)
    rw [show 4 * (n / 4) + n % 4 = n by omega, List.getElem?_eq_getElem hn, Option.some.injEq] at at_n
    exact ⟨n % 4, n / 4, by omega, by omega, by rw [TileAcc.white, ← e, at_n]⟩

end Frame

/-- Settles O33: every figure is a sum of what each line adds. -/
theorem tileFiguresOfFrame : Obligations.TileFiguresOfFrame := by
  intro threshold lines length wide pixel total set col row hc hr
  obtain ⟨bound, largest⟩ := gathered_white (threshold := threshold) length hc hr
  exact ⟨gathered threshold col row lines, gathered_mem threshold lines hc hr,
    congrArg (· / 4096) (gathered_sum length hc hr), bound, largest,
    congrArg (fun n => min 63 (n / 64)) (gathered_edges length hc hr wide)⟩

end Sys2Proof.Machine

namespace Sys2Proof.Machine

/-! ### The completed record of a tile (01 R14; 02 R21) -/

theorem classified_get (c : Classifier) (set : List TileAcc) {i : Nat} {t : TileAcc} (h : set[i]? = some t) :
    (classified c set)[i]? = some (tileRecord c (set.map TileAcc.white) i t) := by
  rw [classified, List.getElem?_mapIdx, h]
  rfl

/-- The near tiles of a tile, by its column and row. -/
theorem nearTiles_eq {col row : Nat} (hc : col < 60) : nearTiles (60 * row + col) =
    [60 * row + col] ++ (if col = 0 then [] else [60 * row + (col - 1)]) ++ (if col = 59 then [] else [60 * row + (col + 1)]) ++
      (if row = 0 then [] else [60 * (row - 1) + col]) ++ (if row = 44 then [] else [60 * (row + 1) + col]) := by
  have column : (60 * row + col) % 60 = col := by omega
  have line : (60 * row + col) / 60 = row := by omega
  unfold nearTiles
  rw [column, line]
  congr 1
  · congr 1
    · congr 1
      split
      · rfl
      · next h => rw [show 60 * row + col - 1 = 60 * row + (col - 1) by omega]
    · split
      · rfl
      · next h => rw [show 60 * row + col - 60 = 60 * (row - 1) + col by omega]
  · rw [show 60 * row + col + 60 = 60 * (row + 1) + col by omega]

/-- The smoothed white level, from the white levels of the near tiles (01 R14). -/
theorem smoothedWhite_eq (set : List TileAcc) {col row : Nat} (hc : col < 60) :
    let white := fun x y : Nat => ((set[60 * y + x]?).map TileAcc.white).getD 0
    let near := [white col row] ++ (if col = 0 then [] else [white (col - 1) row]) ++
      (if col = 59 then [] else [white (col + 1) row]) ++ (if row = 0 then [] else [white col (row - 1)]) ++
      (if row = 44 then [] else [white col (row + 1)])
    smoothedWhite (set.map TileAcc.white) (60 * row + col) = near.sum / near.length := by
  intro white near
  have each : (nearTiles (60 * row + col)).map (fun k => (set.map TileAcc.white).getD k 0) = near := by
    have value : ∀ k, (set.map TileAcc.white).getD k 0 = ((set[k]?).map TileAcc.white).getD 0 := fun k => by
      rw [List.getD_eq_getElem?_getD, List.getElem?_map]
    simp only [nearTiles_eq hc, List.map_append, value, apply_ite (List.map _), List.map_singleton, List.map_nil]
    rfl
  have length : (nearTiles (60 * row + col)).length = near.length := by rw [← each, List.length_map]
  rw [smoothedWhite, each, length]

/-! ### The page box (02 R25) -/

/-- The tiles listed as marked are those whose record says so. -/
theorem mem_markedTiles {tiles : List TileRecord} {n : Nat} :
    n ∈ markedTiles tiles ↔ ∃ r, tiles[n]? = some r ∧ r.text = true := by
  unfold markedTiles
  rw [List.mem_filter, List.mem_range]
  constructor
  · rintro ⟨hn, marked⟩
    rw [List.getElem?_eq_getElem hn] at marked ⊢
    exact ⟨_, rfl, marked⟩
  · rintro ⟨r, hr, text⟩
    exact ⟨(List.getElem?_eq_some_iff.mp hr).1, by rw [hr]; exact text⟩

/-- The text map count counts marked tiles, so some tile is marked where it is not 0. -/
theorem markedTiles_ne_nil {tiles : List TileRecord} (h : 1 ≤ textCount tiles) : markedTiles tiles ≠ [] := by
  obtain ⟨r, hr, text⟩ := List.countP_pos_iff.mp h
  obtain ⟨n, hn⟩ := List.getElem?_of_mem hr
  exact List.ne_nil_of_mem (mem_markedTiles.mpr ⟨r, hn, text⟩)

/-- The box around tiles holds them all, and each of its sides touches one. -/
theorem boxAround_spec {l : List Nat} (h : l ≠ []) : ∃ b, boxAround l = some b ∧
    (∀ n ∈ l, b.c0 ≤ n % 60 ∧ n % 60 ≤ b.c1 ∧ b.r0 ≤ n / 60 ∧ n / 60 ≤ b.r1) ∧
    (∃ n ∈ l, n % 60 = b.c0) ∧ (∃ n ∈ l, n % 60 = b.c1) ∧ (∃ n ∈ l, n / 60 = b.r0) ∧ (∃ n ∈ l, n / 60 = b.r1) := by
  obtain ⟨i, rest, rfl⟩ := List.exists_cons_of_ne_nil h
  have least := fun f : Nat → Nat => foldl_min_spec (f i) (rest.map f)
  have largest := fun f : Nat → Nat => foldl_max_spec (f i) (rest.map f)
  have mem : ∀ (f : Nat → Nat) (x : Nat), x ∈ f i :: rest.map f ↔ ∃ n ∈ i :: rest, f n = x := fun f x => by
    rw [← List.map_cons, List.mem_map]
  refine ⟨_, rfl, fun n hn => ⟨?_, ?_, ?_, ?_⟩, (mem _ _).mp (least (· % 60)).1, (mem _ _).mp (largest (· % 60)).1,
    (mem _ _).mp (least (· / 60)).1, (mem _ _).mp (largest (· / 60)).1⟩
  · exact (least (· % 60)).2 _ ((mem (· % 60) _).mpr ⟨n, hn, rfl⟩)
  · exact (largest (· % 60)).2 _ ((mem (· % 60) _).mpr ⟨n, hn, rfl⟩)
  · exact (least (· / 60)).2 _ ((mem (· / 60) _).mpr ⟨n, hn, rfl⟩)
  · exact (largest (· / 60)).2 _ ((mem (· / 60) _).mpr ⟨n, hn, rfl⟩)

/-- Settles O35: tile by tile, and side by side of the page box. -/
theorem tilesRecordedAndBoxed : Obligations.TilesRecordedAndBoxed := by
  refine ⟨fun c set length col row hc hr => ?_, fun tiles quorum some => ⟨fun few => if_pos few, fun enough => ?_⟩⟩
  · have here : 60 * row + col < set.length := by omega
    have tile := List.getElem?_eq_getElem here
    exact ⟨_, _, tile, classified_get c set tile, rfl, rfl, rfl, smoothedWhite_eq set hc, rfl, rfl⟩
  · obtain ⟨b, box, holds, left, right, top, bottom⟩ := boxAround_spec (markedTiles_ne_nil (Nat.le_trans some enough))
    simp only [mem_markedTiles] at holds left right top bottom
    exact ⟨b, (if_neg (by omega)).trans box, holds, left, right, top, bottom, rfl⟩

end Sys2Proof.Machine

namespace Sys2Proof.Machine

/-! ### A finished line of the enhanced picture (03 R39 to R43) -/

/-- Luminance of pixel x of a line as it arrived. -/
def pixelLum (l : List PixelClock) (x : Nat) : Nat := ((l[x]?).map fun q => q.y.toNat).getD 0

theorem lineLuminance_getD (l : List PixelClock) (x : Nat) : (lineLuminance l).getD x 0 = pixelLum l x := by
  rw [lineLuminance, List.getD_eq_getElem?_getD, List.getElem?_map, pixelLum]

theorem rowSum_eq {l : List PixelClock} (length : l.length = 3840) (x : Nat) :
    rowSum (lineLuminance l) x = pixelLum l (x - 1) + pixelLum l x + pixelLum l (min 3839 (x + 1)) := by
  rw [rowSum, lineLuminance_getD, lineLuminance_getD, lineLuminance_getD, lineLuminance, List.length_map, length, Nat.min_comm]

/-- Pixel x of a finished line. -/
theorem finishLine_get (profiles : List Profile) (tiles : Option (List TileRecord)) (row : Nat) (above mid below : List PixelClock)
    {x : Nat} (h : x < mid.length) : (finishLine profiles tiles row above mid below).y.getD x 0 =
      pixelOut profiles (tiles.bind fun ts => ts[60 * (row / 64) + x / 64]?) (pixelLum mid x)
        (boxMean (lineLuminance above) (lineLuminance mid) (lineLuminance below) x) := by
  have here : (lineLuminance mid)[x]? = some (pixelLum mid x) := by
    rw [← lineLuminance_getD, lineLuminance, List.getD_eq_getElem?_getD, List.getElem?_map, List.getElem?_eq_getElem h]
    rfl
  rw [finishLine, List.getD_eq_getElem?_getD, List.getElem?_mapIdx, here]
  rfl

theorem detailStep_bounds (p : Profile) (d : Int) : -(p.l : Int) ≤ detailStep p d ∧ detailStep p d ≤ p.l := by
  rw [detailStep]
  omega

/-- An enhanced pixel stays within 0..1023 and within L of its whitened value. -/
theorem enhanced_eq (p : Profile) (ws y b : Nat) :
    (enhanced p ws y b : Int) = max 0 (min 1023 ((whitened p ws y : Int) + detailStep p ((y : Int) - b))) ∧
    enhanced p ws y b ≤ whitened p ws y + p.l ∧ whitened p ws y ≤ enhanced p ws y b + p.l := by
  obtain ⟨low, high⟩ := detailStep_bounds p ((y : Int) - b)
  have white : whitened p ws y ≤ 1023 := min_le_left ..
  have value := limitInt_eq 1023 ((whitened p ws y : Int) + detailStep p ((y : Int) - b))
  have out : (enhanced p ws y b : Int) = max 0 (min 1023 ((whitened p ws y : Int) + detailStep p ((y : Int) - b))) := by
    rw [enhanced]
    omega
  exact ⟨out, by omega, by omega⟩

/-- The profile of an action that names one. -/
theorem Action.profile_eq {a : Action} {k : Nat} (h : (k, a) ∈ [(0, Action.p0), (1, .p1), (2, .p2), (3, .p3)])
    (profiles : List Profile) : a.profile profiles = profiles[k]? := by
  simp only [List.mem_cons, Prod.mk.injEq, List.not_mem_nil, or_false] at h
  rcases h with ⟨rfl, rfl⟩ | ⟨rfl, rfl⟩ | ⟨rfl, rfl⟩ | ⟨rfl, rfl⟩ <;> rfl

/-- Settles O37: pixel by pixel, along the action of its tile. -/
theorem lineIsEnhanced : Obligations.LineIsEnhanced := by
  intro profiles tiles row above mid below range ha hm hb line lum three
  refine ⟨rfl, by simp [line, finishLine, lineLuminance, hm], fun x hx => ?_⟩
  have mean : boxMean (lineLuminance above) (lineLuminance mid) (lineLuminance below) x =
      (three above x + three mid x + three below x) / 9 := by
    rw [boxMean, rowSum_eq ha, rowSum_eq hm, rowSum_eq hb]
    rfl
  intro b out tile
  have value : out = pixelOut profiles tile (lum mid x) b :=
    (finishLine_get profiles tiles row above mid below (hm ▸ hx)).trans (congrArg (pixelOut profiles tile (lum mid x)) mean)
  refine ⟨fun without => ?_, fun r here => ⟨fun pass => ?_, fun k p names profile => ?_⟩⟩
  · rw [value, without]
    rfl
  · rw [value, here, pixelOut, pass]
    rfl
  · have enhances : out = enhanced p r.ws (lum mid x) b := by
      rw [value, here, pixelOut, Action.profile_eq names, profile]
    rw [enhances]
    exact enhanced_eq p r.ws (lum mid x) b

end Sys2Proof.Machine

namespace Sys2Proof.Machine

/-- An arrival at a powered part whose effect is known: what it leaves, shown, apart from the sendings. -/
theorem arrive_as {s u : State} {f : State → State} {bs : List Block} (hp : s.powered = true) (effect : f (s.withEmitted []) = u)
    (hu : s.unchanged u bs) : ∃ t, arrive s f = .next t ∧ u.Shows t ∧ s.becomes t u.cpi bs := by
  subst effect
  exact arrive_works hp hu

/-! ### Frame starts (01 R3 to R6) -/

section Intake
variable {s : State}

/-- The pool once the frame in progress has been broken, where one was. -/
def State.poolAtStart (s : State) : Spm := if s.siu.intake = .receiving then s.spm.removeKind .intake else s.spm

/-- What a frame start says of the frame in progress. -/
def State.cpiAtStart (s : State) : Cpi :=
  match s.siu.intake with
  | .receiving => (s.cpi.count .framesBroken).raise .intakeBroken
  | .noSignal => s.cpi.raise .signalBack
  | _ => s.cpi

/-- The building set that is left of the frame in progress. -/
def State.buildingAtStart (s : State) : Option (List TileAcc) := if s.siu.intake = .receiving then none else s.tsu.building

theorem State.endFrameInProgress_eq (s : State) : s.endFrameInProgress =
    { s with spm := s.poolAtStart, tsu := { s.tsu with building := s.buildingAtStart }, cpi := s.cpiAtStart } := by
  unfold State.endFrameInProgress State.poolAtStart State.cpiAtStart State.buildingAtStart
  cases s.siu.intake <;> rfl

/-- The intake once a new frame has begun. -/
def State.siuAtStart (s : State) (i : IntakeState) : Siu :=
  { intake := i, frameNumber := min 281474976710655 (s.siu.frameNumber + 1),
    timer := running 500 (s.pending.count .noSignalTimerExpiry), lines := 0 }

/-- A frame that finds a FREE slot. -/
def State.frameTaken (s : State) (n : Nat) : State :=
  { s with
    siu := s.siuAtStart .receiving,
    spm := s.poolAtStart.take n .intake (.liveFrame (min 281474976710655 (s.siu.frameNumber + 1))) (.live []),
    tsu := { s.tsu with thresholdCopy := s.tsu.threshold, building := some openSet },
    tcl := { s.tcl with copy := some s.tcl.table },
    peu := { s.peu with copy := some s.peu.profiles, source := s.tsu.settled.map (·.frame), lineStore := [] },
    cpi := s.cpiAtStart }

/-- A frame that finds none. -/
def State.frameSkipped (s : State) : State :=
  { s with
    siu := s.siuAtStart .skipping, spm := s.poolAtStart,
    tsu := { s.tsu with thresholdCopy := s.tsu.threshold, building := none },
    tcl := { s.tcl with copy := some s.tcl.table }, peu := { s.peu with copy := some s.peu.profiles, lineStore := [] },
    cpi := s.cpiAtStart.count .framesSkipped }

theorem State.frameStart_taken {n : Nat} (h : s.poolAtStart.lowestFree = some n) :
    s.endFrameInProgress.openFrame.askSlot = s.frameTaken n := by
  rw [State.endFrameInProgress_eq, State.askSlot, State.openFrame_spm, h]
  rfl

theorem State.frameStart_skipped (h : s.poolAtStart.lowestFree = none) :
    s.endFrameInProgress.openFrame.askSlot = s.frameSkipped := by
  rw [State.endFrameInProgress_eq, State.askSlot, State.openFrame_spm, h]
  rfl

/-- Settles O38: with and without a FREE slot. -/
theorem frameStarts : Obligations.FrameStarts := by
  refine fun s hp => ⟨fun n free => ?_, fun full => ?_⟩
  · obtain ⟨t, ht, shows, becomes⟩ := arrive_as (u := (s.withEmitted []).frameTaken n)
      (f := fun s => s.endFrameInProgress.openFrame.askSlot) hp (State.frameStart_taken free) (bs := [.siu, .spm, .tsu, .tcl, .peu]) State.unchanged_by
    exact ⟨t, ht, shows.siu, shows.spm, shows.tsu, shows.tcl, shows.peu, becomes⟩
  · obtain ⟨t, ht, shows, becomes⟩ := arrive_as (u := (s.withEmitted []).frameSkipped)
      (f := fun s => s.endFrameInProgress.openFrame.askSlot) hp (State.frameStart_skipped full) (bs := [.siu, .spm, .tsu, .tcl, .peu]) State.unchanged_by
    exact ⟨t, ht, shows.siu, shows.spm, shows.tsu, shows.tcl, shows.peu, becomes⟩

/-! ### Line ends and frame ends (01 R7, R8) -/

/-- The frame in progress broken, at an arrival that leaves the intake in a state of its own. -/
def State.frameBroken (s : State) (i : IntakeState) : State :=
  { s with
    siu := { s.siu with intake := i }, tsu := { s.tsu with building := none }, spm := s.spm.removeKind .intake,
    cpi := (s.cpi.count .framesBroken).raise .intakeBroken }

theorem State.lineEnd_receiving (h : s.siu.intake = .receiving) (line : List PixelClock) : s.lineEnd line =
    if line.length = 3840 ∧ s.siu.lines < 2880 then s.acceptLine line else s.frameBroken .discarding := by
  rw [State.lineEnd, h]
  rfl

theorem State.lineEnd_ignored (h : s.siu.intake ≠ .receiving) (line : List PixelClock) : s.lineEnd line = s := by
  unfold State.lineEnd
  cases e : s.siu.intake <;> simp_all

/-- A finished line goes into the frame's slot. -/
theorem State.finish_eq {n : Nat} (h : s.spm.find .intake = some n) (y : Nat) (above mid below : List PixelClock) :
    s.finish y above mid below = s.withSpm (s.spm.draw n fun p =>
      p.addLine (finishLine (s.peu.copy.getD s.peu.profiles) (s.tsu.settled.map (·.tiles)) y above mid below)) := by
  rw [State.finish, h]
  rfl

theorem State.enhanceAccepted_other (s : State) (y : Nat) (line : List PixelClock) :
    ∃ x, s.enhanceAccepted y line = { s with peu := { s.peu with lineStore := storeLine s.peu.lineStore line }, spm := x } := by
  have finished : ∀ (t : State) y a m b, ∃ x, t.finish y a m b = { t with spm := x } := fun t y a m b => by
    unfold State.finish
    split
    · exact ⟨t.spm, rfl⟩
    · exact ⟨_, rfl⟩
  unfold State.enhanceAccepted
  dsimp only
  split
  · obtain ⟨x, e⟩ := finished (s.withPeu { s.peu with lineStore := storeLine s.peu.lineStore line }) (y - 1) _ _ _
    exact ⟨x, e⟩
  · obtain ⟨x, e⟩ := finished (s.withPeu { s.peu with lineStore := storeLine s.peu.lineStore line }) (y - 1) _ _ _
    exact ⟨x, e⟩
  · exact ⟨s.spm, rfl⟩

/-- A line accepted with one or two lines before it: the line before it is finished. -/
theorem State.enhanceAccepted_eq {n y : Nat} {line above mid : List PixelClock} (here : s.spm.find .intake = some n)
    (store : storeLine s.peu.lineStore line = [mid, line] ∧ above = mid ∨ storeLine s.peu.lineStore line = [above, mid, line]) :
    (s.enhanceAccepted y line).spm = s.spm.draw n fun p => p.addLine
      (finishLine (s.peu.copy.getD s.peu.profiles) (s.tsu.settled.map (·.tiles)) (y - 1) above mid line) := by
  have finished := fun a => State.finish_eq (s := s.withPeu { s.peu with lineStore := storeLine s.peu.lineStore line }) here (y - 1) a
    mid line
  unfold State.enhanceAccepted
  dsimp only [State.withPeu_peu]
  rcases store with ⟨two, rfl⟩ | three
  · rw [two] at finished ⊢
    exact congrArg State.spm (finished above)
  · rw [three] at finished ⊢
    exact congrArg State.spm (finished above)

/-- The line store after another line. -/
theorem storeLine_eq (store : List (List PixelClock)) (line : List PixelClock) :
    storeLine store line = (store ++ [line]).drop (store.length - 2) := by
  rw [storeLine, show store.length + 1 - 3 = store.length - 2 by omega]

/-- The state once line `y` was accepted, with the line before it finished where there was one. -/
def State.lineTaken (s : State) (line : List PixelClock) (x : Spm) : State :=
  { s with
    siu := { s.siu with lines := s.siu.lines + 1 }, tsu := s.tsu.gather s.siu.lines line,
    peu := { s.peu with lineStore := storeLine s.peu.lineStore line }, spm := x }

theorem State.acceptLine_eq (s : State) (line : List PixelClock) : ∃ x, s.acceptLine line = s.lineTaken line x ∧
    (s.peu.lineStore = [] → x = s.spm) ∧
    (∀ n above mid, s.spm.find .intake = some n → s.peu.lineStore.length ≤ 3 →
      (s.peu.lineStore = [mid] ∧ above = mid ∨ ∃ l, s.peu.lineStore = l ++ [above, mid]) →
      x = s.spm.draw n fun p => p.addLine (finishLine (s.peu.copy.getD s.peu.profiles) (s.tsu.settled.map (·.tiles))
        (s.siu.lines - 1) above mid line)) := by
  have held := (s.withTsu (s.tsu.gather s.siu.lines line)).enhanceAccepted_other s.siu.lines line
  obtain ⟨x, e⟩ := held
  refine ⟨x, by rw [State.acceptLine, e]; rfl, fun first => ?_, fun n above mid here few lines => ?_⟩
  · have := congrArg State.spm e
    simpa [State.enhanceAccepted, first, storeLine] using this.symm
  · have spm := congrArg State.spm e
    have store : storeLine s.peu.lineStore line = [mid, line] ∧ above = mid ∨ storeLine s.peu.lineStore line = [above, mid, line] := by
      rcases lines with ⟨one, rfl⟩ | ⟨l, more⟩
      · exact .inl ⟨by rw [one]; rfl, rfl⟩
      · right
        rw [storeLine_eq, more, List.length_append, List.append_assoc, List.drop_left' (by simp)]
        rfl
    exact spm.symm.trans (State.enhanceAccepted_eq (s := s.withTsu (s.tsu.gather s.siu.lines line)) here store)

/-- Settles O39: line by line. -/
theorem lineEnds : Obligations.LineEnds := by
  refine fun s line hp => ⟨fun receiving wide more store => ?_, fun receiving bad => ?_, fun other => ?_⟩
  · obtain ⟨x, accepted, first, later⟩ := (s.withEmitted []).acceptLine_eq line
    have effect : (s.withEmitted []).lineEnd line = (s.withEmitted []).lineTaken line x := by
      rw [State.lineEnd_receiving (s := s.withEmitted []) receiving, if_pos ⟨wide, more⟩, accepted]
    obtain ⟨t, ht, shows, becomes⟩ := arrive_as (f := fun s => s.lineEnd line) hp effect (bs := [.siu, .tsu, .peu, .spm]) State.unchanged_by
    refine ⟨t, ht, shows.siu, shows.tsu, shows.peu.trans (by rw [← storeLine_eq]; rfl), fun none => shows.spm.trans (first ?_),
      fun n above mid here lines => shows.spm.trans (later n above mid here ?_ lines), becomes⟩
    · exact List.eq_nil_of_length_eq_zero (by show s.peu.lineStore.length = 0; omega)
    · show s.peu.lineStore.length ≤ 3
      omega
  · have effect : (s.withEmitted []).lineEnd line = (s.withEmitted []).frameBroken .discarding := by
      rw [State.lineEnd_receiving (s := s.withEmitted []) receiving, if_neg (by show ¬ (_ ∧ s.siu.lines < 2880); omega)]
    obtain ⟨t, ht, shows, becomes⟩ := arrive_as (f := fun s => s.lineEnd line) hp effect (bs := [.siu, .tsu, .spm]) State.unchanged_by
    exact ⟨t, ht, shows.siu, shows.tsu, shows.spm, becomes⟩
  · obtain ⟨t, ht, -, becomes⟩ := arrive_as (f := fun s => s.lineEnd line) hp (State.lineEnd_ignored (s := s.withEmitted []) other line)
      (bs := []) State.unchanged_by
    exact ⟨t, ht, becomes⟩

/-- Writing to a slot's picture moves no holder. -/
theorem Spm.find_draw (p : Spm) (n : Nat) (f : Picture → Picture) (k : HolderKind) : (p.draw n f).find k = p.find k := by
  have holders : (p.draw n f).slots.map Slot.holders = p.slots.map Slot.holders := by
    refine List.ext_getElem? fun m => ?_
    simp only [Spm.draw, List.getElem?_map, List.getElem?_modify]
    cases p.slots[m]? with
    | none => rfl
    | some x => by_cases h : n = m <;> simp [h]
  have found : ∀ q : Spm, q.find k = (q.slots.map Slot.holders).findIdx? (·.has k) := fun q => by
    rw [List.findIdx?_map]
    rfl
  rw [found, found, holders]

theorem State.settle_eq {set : List TileAcc} (h : s.tsu.building = some set) : s.settle =
    (let tiles := classified s.tcl.judging set
     { s with
       tsu := { s.tsu with building := none, settled := some { frame := s.siu.frameNumber, tiles := tiles } },
       tcl := { s.tcl with
         count := textCount tiles, box := formBox tiles s.tcl.judging.quorum, boxQuorum := some s.tcl.judging.quorum } }) := by
  rw [State.settle, h]
  rfl

theorem State.boxNotice_eq (s : State) (before : Option TileBox) : s.boxNotice before =
    { s with cpi := if s.tcl.box = before then s.cpi else s.cpi.raise .pageBoxChanged } := by
  unfold State.boxNotice
  split <;> rfl

/-- The pool of a good frame: its last line finished, its slot LATEST. -/
def State.poolGood (s : State) (n : Nat) (above mid : List PixelClock) : Spm :=
  (s.spm.draw n fun p =>
    p.addLine (finishLine (s.peu.copy.getD s.peu.profiles) (s.tsu.settled.map (·.tiles)) 2879 above mid mid)).succeed n .intake .latest

/-- A good frame: its pool, its building set settled, the page box formed anew (01 R8). -/
def State.frameGood (s : State) (n : Nat) (set : List TileAcc) (above mid : List PixelClock) : State :=
  let judge := s.tcl.copy.getD s.tcl.table
  let tiles := classified judge set
  { s with
    siu := { s.siu with intake := .waiting }, spm := s.poolGood n above mid,
    tsu := { s.tsu with building := none, settled := some { frame := s.siu.frameNumber, tiles := tiles } },
    tcl := { s.tcl with count := textCount tiles, box := formBox tiles judge.quorum, boxQuorum := some judge.quorum },
    cpi := if formBox tiles judge.quorum = s.tcl.box then s.cpi.count .framesIn
      else (s.cpi.count .framesIn).raise .pageBoxChanged }

theorem State.goodFrame_eq {n : Nat} {set : List TileAcc} {l above mid : List PixelClock} (here : s.spm.find .intake = some n)
    (building : s.tsu.building = some set) (store : s.peu.lineStore = [l, above, mid]) :
    s.goodFrame = s.frameGood n set above mid := by
  have last : s.enhanceLast = s.withSpm (s.spm.draw n fun p =>
      p.addLine (finishLine (s.peu.copy.getD s.peu.profiles) (s.tsu.settled.map (·.tiles)) 2879 above mid mid)) := by
    rw [State.enhanceLast, store]
    exact State.finish_eq here 2879 above mid mid
  have latest : s.enhanceLast.moveLatest = s.withSpm (s.poolGood n above mid) := by
    rw [last, State.moveLatest, State.withSpm_spm, Spm.find_draw, here]
    rfl
  rw [State.goodFrame, latest, State.settle_eq (s := (s.withSpm (s.poolGood n above mid)).count .framesIn) (set := set) building, State.boxNotice_eq]
  rfl

theorem State.frameEnd_receiving (h : s.siu.intake = .receiving) :
    s.frameEnd = if s.siu.lines = 2880 then s.goodFrame else s.frameBroken .waiting := by
  rw [State.frameEnd, h]
  rfl

/-- Settles O40: frame by frame. -/
theorem frameEnds : Obligations.FrameEnds := by
  refine fun s hp => ⟨fun n set l above mid receiving all here building store => ?_, fun receiving few => ?_, fun skipped => ?_,
    fun idle => ?_⟩
  · have effect : (s.withEmitted []).frameEnd = (s.withEmitted []).frameGood n set above mid := 
      (State.frameEnd_receiving (s := s.withEmitted []) receiving).trans ((if_pos all).trans (State.goodFrame_eq here building store))
    obtain ⟨t, ht, shows, becomes⟩ := arrive_as hp effect (bs := [.siu, .spm, .tsu, .tcl]) State.unchanged_by
    exact ⟨t, ht, shows.siu, shows.spm, shows.tsu, shows.tcl, becomes⟩
  · have effect : (s.withEmitted []).frameEnd = (s.withEmitted []).frameBroken .waiting := 
      (State.frameEnd_receiving (s := s.withEmitted []) receiving).trans (if_neg few)
    obtain ⟨t, ht, shows, becomes⟩ := arrive_as hp effect (bs := [.siu, .tsu, .spm]) State.unchanged_by
    exact ⟨t, ht, shows.siu, shows.tsu, shows.spm, becomes⟩
  · have effect : (s.withEmitted []).frameEnd = (s.withEmitted []).setIntake .waiting := by
      unfold State.frameEnd
      rcases skipped with e | e <;> rw [State.withEmitted_siu, e]
    obtain ⟨t, ht, shows, becomes⟩ := arrive_as hp effect (bs := [.siu]) State.unchanged_by
    exact ⟨t, ht, shows.siu, becomes⟩
  · have effect : (s.withEmitted []).frameEnd = s.withEmitted [] := by
      unfold State.frameEnd
      rcases idle with e | e <;> rw [State.withEmitted_siu, e]
    obtain ⟨t, ht, -, becomes⟩ := arrive_as hp effect (bs := []) State.unchanged_by
    exact ⟨t, ht, becomes⟩

/-! ### The no-signal timer (01 R9, R10) -/

/-- The intake once the no-signal timer has expired. -/
def Siu.lost (x : Siu) : Siu := { x with intake := .noSignal, timer := none }

theorem State.signalLost_eq (s : State) : s.signalLost = if s.siu.intake = .receiving then
      { s.frameBroken .noSignal with siu := s.siu.lost, cpi := ((s.cpi.count .framesBroken).raise .intakeBroken).raise .noSignal }
    else { s with siu := s.siu.lost, cpi := s.cpi.raise .noSignal } := by
  unfold State.signalLost
  split <;> rfl

/-- The effect of NO_SIGNAL_TIMER_EXPIRY. -/
def State.noSignalExpires (s : State) : State :=
  s.expires s.siu.timer (fun x => s.withSiu { s.siu with timer := x }) s.signalLost

/-- Settles O41: along what an expiry can be. -/
theorem signalIsLost : Obligations.SignalIsLost := by
  refine fun s hp => ⟨fun d runs => ?_, fun d n late => ?_, fun stopped => ?_⟩
  · have expires : (s.withEmitted []).noSignalExpires = (s.withEmitted []).signalLost := by
      rw [State.noSignalExpires, State.withEmitted_siu, runs]
      rfl
    by_cases receiving : s.siu.intake = .receiving
    · have effect := expires.trans ((State.signalLost_eq _).trans (if_pos receiving))
      obtain ⟨t, ht, shows, becomes⟩ := arrive_as (f := State.noSignalExpires) hp effect (bs := [.siu, .tsu, .spm]) State.unchanged_by
      exact ⟨t, ht, shows.siu, fun _ => ⟨shows.tsu, shows.spm, becomes⟩, (absurd receiving ·)⟩
    · have effect := expires.trans ((State.signalLost_eq _).trans (if_neg receiving))
      obtain ⟨t, ht, shows, becomes⟩ := arrive_as (f := State.noSignalExpires) hp effect (bs := [.siu]) State.unchanged_by
      exact ⟨t, ht, shows.siu, (absurd · receiving), fun _ => becomes⟩
  · have effect : (s.withEmitted []).noSignalExpires = (s.withEmitted []).withSiu { s.siu with timer := running d n } := by
      rw [State.noSignalExpires, State.withEmitted_siu, late]
      rfl
    obtain ⟨t, ht, shows, becomes⟩ := arrive_as (f := State.noSignalExpires) hp effect (bs := [.siu]) State.unchanged_by
    exact ⟨t, ht, shows.siu, becomes⟩
  · have effect : (s.withEmitted []).noSignalExpires = s.withEmitted [] := by
      rw [State.noSignalExpires, State.withEmitted_siu, stopped]
      rfl
    obtain ⟨t, ht, -, becomes⟩ := arrive_as (f := State.noSignalExpires) hp effect (bs := []) State.unchanged_by
    exact ⟨t, ht, becomes⟩

end Intake
end Sys2Proof.Machine

namespace Sys2Proof.Machine

/-! ### A page that waits for a slot (04 R59, R60; 09 R145) -/

section Reserve
variable {s : State} {j head : Job} {rest : List Job} {r : PageRecord}

theorem State.setHead_eq (hq : s.lsc.queue = head :: rest) (j : Job) : s.setHead j = s.withQueue (j :: rest) := by
  rw [State.setHead, hq]
  rfl

/-- A head that is set to itself. -/
theorem State.setHead_same (hq : s.lsc.queue = j :: rest) : s.setHead j = s := by
  rw [State.setHead_eq hq, ← hq]
  rfl

/-- A job that is in a state already. -/
theorem Job.withState_same {x : JobState} (h : j.state = x) : { j with state := x } = j := by
  subst h
  rfl

/-- A page record is followed by its serial. -/
theorem State.followed_eq {q : Half} (serial : j.serial = some q) : s.followed j = recordWith s.lsc.lessons q := by
  rw [State.followed, serial]
  rfl

/-- The store reading a job's page into slot `n`. -/
def State.loadBegun (s : State) (j : Job) (rest : List Job) (r : PageRecord) (k n : Nat) : State :=
  { s with
    spm := s.spm.take n .load (.storedPage k r.serial) (.stored []),
    lsc := { s.lsc with
      queue := { j with state := .running } :: rest, flash := some (.read (64 + 32 * r.place) 0),
      activity := .loading n { page := 0, crc := 0xFFFFFFFF, sound := true } } }

/-- With two slots FREE the head job begins its load into the lowest. -/
theorem State.testReserve_loads {k n : Nat} (hq : s.lsc.queue = head :: rest) (holds : holdsPage s.lsc.lessons k r.serial)
    (free : s.spm.lowestFree = some n) (two : 2 ≤ s.spm.freeCount) : s.testReserve j r = s.loadBegun j rest r k n := by
  have held := Lsc.lessonOf_of_holds s.lsc holds
  unfold State.testReserve
  rw [free]
  dsimp only
  rw [if_pos two, held, State.setHead, State.withSpm_lsc, hq]
  rfl

/-- With fewer the head job waits. -/
theorem State.testReserve_waits (few : s.spm.freeCount < 2) : s.testReserve j r = s.setHead { j with state := .waitSlot } := by
  unfold State.testReserve
  split
  · exact if_neg (by omega)
  · rfl

end Reserve

/-- The pool once a slot-freed notice was taken. -/
def State.noticeTaken (s : State) : State := s.withSpm { s.spm with notices := s.spm.notices - 1 }

section Notice
variable {s : State}

theorem State.takeNotice_waiting {j : Job} {rest : List Job} {r : PageRecord} (hq : s.lsc.queue = j :: rest)
    (waits : j.state = .waitSlot) (record : s.followed j = some r) : s.takeNotice = s.noticeTaken.testReserve j r := by
  have followed : s.noticeTaken.followed j = some r := record
  unfold State.takeNotice
  simp only [State.withSpm_lsc, hq, waits]
  rw [← State.noticeTaken, followed]

/-- A notice that no job waits for, or that frees too few slots. -/
theorem State.takeNotice_idle (h : (∀ j rest, s.lsc.queue = j :: rest → j.state ≠ .waitSlot) ∨ s.spm.freeCount < 2) :
    s.takeNotice = s.noticeTaken := by
  unfold State.takeNotice
  dsimp only
  split
  · rfl
  · next j rest hq =>
    split
    · next waits _ =>
      rcases h with none | few
      · exact absurd waits (none j rest hq)
      · exact (State.testReserve_waits (s := s.noticeTaken) few).trans ((congrArg _ (Job.withState_same waits)).trans (State.setHead_same hq))
    · rfl

/-- The effect of SLOT_FREED_NOTICE. -/
def State.slotFreed (s : State) : State := if s.spm.notices = 0 then s else s.takeNotice

/-- Settles O42: by the head of the queue and the FREE count. -/
theorem slotFreedNoticeTests : Obligations.SlotFreedNoticeTests := by
  refine fun s hp given => ⟨fun j rest r q k n hq waits serial record holds free two => ?_, fun few => ?_, fun none => ?_⟩
  · obtain rfl := recordWith_serial record
    have taken : (s.withEmitted []).takeNotice = (s.withEmitted []).noticeTaken.testReserve j r :=
      State.takeNotice_waiting hq waits ((State.followed_eq serial).trans record)
    have effect : (s.withEmitted []).slotFreed = (s.withEmitted []).noticeTaken.loadBegun j rest r k n :=
      (if_neg given).trans (taken.trans (State.testReserve_loads hq holds free two))
    obtain ⟨t, ht, shows, becomes⟩ := arrive_as (f := State.slotFreed) hp effect (bs := [.spm, .lsc]) State.unchanged_by
    exact ⟨t, ht, shows.spm, shows.lsc, becomes⟩
  · have effect : (s.withEmitted []).slotFreed = (s.withEmitted []).noticeTaken :=
      (if_neg given).trans (State.takeNotice_idle (.inr few))
    obtain ⟨t, ht, shows, becomes⟩ := arrive_as (f := State.slotFreed) hp effect (bs := [.spm]) State.unchanged_by
    exact ⟨t, ht, shows.spm, shows.lsc, becomes⟩
  · have effect : (s.withEmitted []).slotFreed = (s.withEmitted []).noticeTaken :=
      (if_neg given).trans (State.takeNotice_idle (.inl none))
    obtain ⟨t, ht, shows, becomes⟩ := arrive_as (f := State.slotFreed) hp effect (bs := [.spm]) State.unchanged_by
    exact ⟨t, ht, shows.spm, becomes⟩

end Notice
end Sys2Proof.Machine

namespace Sys2Proof.Machine

/-! ### Bilinear sampling (05 R74) -/

/-- A position of a whole part and a fraction below its rounding to 1. -/
theorem splitPosition_eq {n f : Nat} (h : f < 65408) : splitPosition (65536 * n + f) = (n, (f + 128) / 256) := by
  have part : (65536 * n + f) % 65536 = f := by omega
  have whole : (65536 * n + f) / 65536 = n := by omega
  unfold splitPosition
  rw [part, whole, if_neg (by omega)]

/-- A fraction that rounds to 1 is the next position. -/
theorem splitPosition_next {n f : Nat} (low : 65408 ≤ f) (high : f < 65536) : splitPosition (65536 * n + f) = (n + 1, 0) := by
  have part : (65536 * n + f) % 65536 = f := by omega
  have whole : (65536 * n + f) / 65536 = n := by omega
  unfold splitPosition
  rw [part, whole, if_pos (by omega)]

theorem splitPosition_whole (n : Nat) : splitPosition (65536 * n) = (n, 0) := splitPosition_eq (f := 0) (by decide)

/-- A fraction of 16 bits counts as its rounding to 8 (05 R74). -/
theorem splitPosition_rounded {n f : Nat} (h : f < 65536) :
    splitPosition (65536 * n + f) = splitPosition (65536 * n + 256 * ((f + 128) / 256)) := by
  by_cases low : f < 65408
  · rw [splitPosition_eq low, splitPosition_eq (by omega)]
    congr 1
    omega
  · rw [splitPosition_next (by omega) h, show 65536 * n + 256 * ((f + 128) / 256) = 65536 * (n + 1) by omega, splitPosition_whole]

theorem splitPosition_lt (p : Nat) : (splitPosition p).2 < 256 := by
  unfold splitPosition
  dsimp only
  split <;> dsimp only <;> omega

/-- The four weights of a sample make 65536. -/
theorem weights_sum {a b : Nat} (ha : a < 256) (hb : b < 256) :
    (256 - a) * (256 - b) + a * (256 - b) + (256 - a) * b + a * b = 65536 := by
  have columns : (256 - a) + a = 256 := by omega
  have rows : (256 - b) + b = 256 := by omega
  calc _ = ((256 - a) + a) * ((256 - b) + b) := by ring
    _ = 65536 := by rw [columns, rows]

/-- A weighted mean lies between bounds of what it weighs. -/
theorem weighted_mem {w₁ w₂ w₃ w₄ v₁ v₂ v₃ v₄ lo hi : Nat} (total : w₁ + w₂ + w₃ + w₄ = 65536)
    (h₁ : lo ≤ v₁ ∧ v₁ ≤ hi) (h₂ : lo ≤ v₂ ∧ v₂ ≤ hi) (h₃ : lo ≤ v₃ ∧ v₃ ≤ hi) (h₄ : lo ≤ v₄ ∧ v₄ ≤ hi) :
    lo ≤ (v₁ * w₁ + v₂ * w₂ + v₃ * w₃ + v₄ * w₄ + 32768) / 65536 ∧
    (v₁ * w₁ + v₂ * w₂ + v₃ * w₃ + v₄ * w₄ + 32768) / 65536 ≤ hi := by
  have below : lo * 65536 ≤ v₁ * w₁ + v₂ * w₂ + v₃ * w₃ + v₄ * w₄ := by
    rw [← total, Nat.mul_add, Nat.mul_add, Nat.mul_add]
    gcongr <;> omega
  have above : v₁ * w₁ + v₂ * w₂ + v₃ * w₃ + v₄ * w₄ ≤ hi * 65536 := by
    rw [← total, Nat.mul_add, Nat.mul_add, Nat.mul_add]
    gcongr <;> omega
  omega

theorem bilinear_mem {src : Nat → Nat → Nat} {lo hi : Nat} (h : ∀ x y, lo ≤ src x y ∧ src x y ≤ hi) (lastX lastY p q : Nat) :
    lo ≤ bilinear src lastX lastY p q ∧ bilinear src lastX lastY p q ≤ hi :=
  weighted_mem (weights_sum (splitPosition_lt p) (splitPosition_lt q)) (h _ _) (h _ _) (h _ _) (h _ _)

theorem bilinear_whole (src : Nat → Nat → Nat) (lastX lastY x y : Nat) :
    bilinear src lastX lastY (65536 * x) (65536 * y) = src (min x lastX) (min y lastY) := by
  rw [bilinear, splitPosition_whole, splitPosition_whole]
  dsimp only
  omega

theorem bilinear_inside (src : Nat → Nat → Nat) {lastX lastY x y fx fy : Nat} (hfx : fx ≤ 255) (hfy : fy ≤ 255) (hx : x < lastX)
    (hy : y < lastY) : bilinear src lastX lastY (65536 * x + 256 * fx) (65536 * y + 256 * fy) =
      ((256 - fx) * (256 - fy) * src x y + fx * (256 - fy) * src (x + 1) y + (256 - fx) * fy * src x (y + 1) +
        fx * fy * src (x + 1) (y + 1) + 32768) / 65536 := by
  rw [bilinear, splitPosition_eq (by omega), splitPosition_eq (by omega), show (256 * fx + 128) / 256 = fx by omega,
    show (256 * fy + 128) / 256 = fy by omega]
  dsimp only
  rw [min_eq_left hx.le, min_eq_left hy.le, min_eq_left (Nat.succ_le_of_lt hx), min_eq_left (Nat.succ_le_of_lt hy)]
  congr 1
  ring

theorem bilinear_rounded (src : Nat → Nat → Nat) (lastX lastY : Nat) {n f : Nat} (q : Nat) (h : f < 65536) :
    bilinear src lastX lastY (65536 * n + f) q = bilinear src lastX lastY (65536 * n + 256 * ((f + 128) / 256)) q ∧
    bilinear src lastX lastY q (65536 * n + f) = bilinear src lastX lastY q (65536 * n + 256 * ((f + 128) / 256)) := by
  unfold bilinear
  rw [splitPosition_rounded h]
  exact ⟨rfl, rfl⟩

/-! ### A fitted picture (06 R97; 09 R142) -/

section Fit
variable {sw sh aw ah : Nat}

/-- A picture at least as tall as the area's shape fills its height. -/
theorem fitInto_tall (h : ah * sw ≤ aw * sh) : (fitInto sw sh aw ah).fw = sw * ah / sh ∧ (fitInto sw sh aw ah).fh = ah :=
  ⟨if_pos h, if_pos h⟩

/-- A picture at least as wide fills its width. -/
theorem fitInto_wide (hsw : 0 < sw) (hsh : 0 < sh) (h : aw * sh ≤ ah * sw) :
    (fitInto sw sh aw ah).fw = aw ∧ (fitInto sw sh aw ah).fh = sh * aw / sw := by
  by_cases both : ah * sw ≤ aw * sh
  · have same : ah * sw = aw * sh := Nat.le_antisymm both h
    obtain ⟨width, height⟩ := fitInto_tall both
    rw [width, height]
    exact ⟨by rw [Nat.mul_comm, same, Nat.mul_div_cancel _ hsh], by rw [Nat.mul_comm, ← same, Nat.mul_div_cancel _ hsw]⟩
  · exact ⟨if_neg both, if_neg both⟩

theorem fitInto_le (hsw : 0 < sw) (hsh : 0 < sh) : (fitInto sw sh aw ah).fw ≤ aw ∧ (fitInto sw sh aw ah).fh ≤ ah := by
  rcases Nat.le_total (ah * sw) (aw * sh) with tall | wide
  · obtain ⟨width, height⟩ := fitInto_tall tall
    rw [width, height]
    exact ⟨Nat.div_le_of_le_mul (by rw [Nat.mul_comm sw, Nat.mul_comm sh]; exact tall), le_rfl⟩
  · obtain ⟨width, height⟩ := fitInto_wide hsw hsh wide
    rw [width, height]
    exact ⟨le_rfl, Nat.div_le_of_le_mul (by rw [Nat.mul_comm sh, Nat.mul_comm sw]; exact wide)⟩

theorem fitInto_spec (hsw : 0 < sw) (hsh : 0 < sh) :
    let f := fitInto sw sh aw ah
    f.left + f.fw ≤ aw ∧ f.top + f.fh ≤ ah ∧ f.left = (aw - f.fw) / 2 ∧ f.top = (ah - f.fh) / 2 ∧
    (ah * sw ≤ aw * sh → f.fh = ah ∧ f.fw = sw * ah / sh) ∧ (aw * sh ≤ ah * sw → f.fw = aw ∧ f.fh = sh * aw / sw) ∧
    f.sx = sw * 65536 / f.fw ∧ f.sy = sh * 65536 / f.fh := by
  obtain ⟨width, height⟩ := fitInto_le (aw := aw) (ah := ah) hsw hsh
  have left : (fitInto sw sh aw ah).left = (aw - (fitInto sw sh aw ah).fw) / 2 := rfl
  have top : (fitInto sw sh aw ah).top = (ah - (fitInto sw sh aw ah).fh) / 2 := rfl
  exact ⟨by omega, by omega, left, top, fun h => (fitInto_tall h).symm, fitInto_wide hsw hsh, rfl, rfl⟩

end Fit

/-! ### Pictures of live frames and of stored pages -/

section Live
variable (lines : List PictureLine)

/-- Luminance of a live frame's pixel, 0 where there is none (log 44). -/
def frameLum (x y : Nat) : Nat := ((lines[y]?).map fun l => l.y.getD x 0).getD 0

/-- A chroma value of a live frame, the even (0) or the odd (1) one of a pair, 0 where there is none (log 44). -/
def frameChroma (odd x y : Nat) : Nat := ((lines[y]?).map fun l => (l.c.getD (2 * x + odd) 0).toNat).getD 0

/-- A live frame at a position, chroma at half of it (05 R74; log 42). -/
def frameSample (px py : Nat) : Ycc :=
  { y := bilinear (frameLum lines) 3839 2879 px py, cb := bilinear (frameChroma lines 0) 1919 2879 (px / 2) py,
    cr := bilinear (frameChroma lines 1) 1919 2879 (px / 2) py }

theorem sampleLive_eq : (Picture.live lines).sampleLive = frameSample lines := by
  have lum : (Picture.live lines).liveY = frameLum lines := by
    funext x y
    unfold Picture.liveY frameLum
    cases h : lines[y]? <;> simp [h]
  have cb : (Picture.live lines).liveCb = frameChroma lines 0 := by
    funext x y
    unfold Picture.liveCb frameChroma
    cases h : lines[y]? <;> simp [h]
  have cr : (Picture.live lines).liveCr = frameChroma lines 1 := by
    funext x y
    unfold Picture.liveCr frameChroma
    cases h : lines[y]? <;> simp [h]
  funext px py
  rw [Picture.sampleLive, lum, cb, cr]
  rfl

theorem range_map_get {α : Type} (g : Nat → α) {n i : Nat} (h : i < n) : ((List.range n).map g)[i]? = some (g i) := by
  simp [h]

/-- A feed line of a live frame (07 R112; log 15). -/
theorem FeedFrame.line_live {f : FeedFrame} {n : Nat} (kind : f.kind = .live n) (j : Nat) :
    let at_ := fun i : Nat => frameSample lines (f.x0 * 65536 + i * f.sx) (f.y0 * 65536 + j * f.sy)
    f.line (.live lines) j = {
      index := j,
      y := (List.range f.width).map fun i => toByte (at_ i).y,
      cb := (List.range (f.width / 2)).map fun k => toByte (at_ (2 * k)).cb,
      cr := (List.range (f.width / 2)).map fun k => toByte (at_ (2 * k)).cr } := by
  rw [FeedFrame.line, kind, ← sampleLive_eq]

theorem capturePage_get (p : Picture) (r : Rect) (k : Nat) {b : Nat} (h : b < 2048) :
    (capturePage p r k)[b]? = some (captureByte p r (2048 * (k - 1) + b)) := range_map_get _ h

theorem Fit.covers_iff (f : Fit) (x y : Nat) : f.covers x y = true ↔ f.left ≤ x ∧ x < f.left + f.fw ∧ f.top ≤ y ∧ y < f.top + f.fh := by
  simp [Fit.covers, and_assoc]

/-- A byte of a capture's image run, by the plane it lies in (08 R128; 09 R142). -/
theorem captureByte_eq (p : Picture) (r : Rect) (n : Nat) :
    (∀ x y, n = 1920 * y + x → x < 1920 → y < 1440 → captureByte p r n = captureY p r x y) ∧
    (∀ x y, n = 2764800 + 960 * y + x → x < 960 → y < 720 → captureByte p r n = captureCb p r x y) ∧
    (∀ x y, n = 3456000 + 960 * y + x → x < 960 → y < 720 → captureByte p r n = captureCr p r x y) := by
  unfold captureByte
  refine ⟨fun x y e hx hy => ?_, fun x y e hx hy => ?_, fun x y e hx hy => ?_⟩
  · rw [if_pos (by omega), show n % 1920 = x by omega, show n / 1920 = y by omega]
  · rw [if_neg (by omega), if_pos (by omega), show (n - 2764800) % 960 = x by omega, show (n - 2764800) / 960 = y by omega]
  · rw [if_neg (by omega), if_neg (by omega), show (n - 3456000) % 960 = x by omega, show (n - 3456000) / 960 = y by omega]

end Live

section Stored
variable (bytes : List Byte)

/-- A byte of a plane of a stored page, 0 where there is none (log 44). -/
def pageValue (base wide x y : Nat) : Nat := (bytes.getD (base + wide * y + x) 0).toNat

theorem storedY_eq (x y : Nat) : (Picture.stored bytes).storedY x y = BitVec.ofNat 8 (pageValue bytes 0 1920 x y) := by
  simp [Picture.storedY, Picture.byte, pageValue]

theorem storedCb_eq (x y : Nat) : (Picture.stored bytes).storedCb x y = BitVec.ofNat 8 (pageValue bytes 2764800 960 x y) := by
  simp [Picture.storedCb, Picture.byte, pageValue]

theorem storedCr_eq (x y : Nat) : (Picture.stored bytes).storedCr x y = BitVec.ofNat 8 (pageValue bytes 3456000 960 x y) := by
  simp [Picture.storedCr, Picture.byte, pageValue]

theorem pageValue_lt (base wide x y : Nat) : pageValue bytes base wide x y < 256 := BitVec.isLt _

/-- A stored page at a position, each value taken as four times itself (06 R97). -/
theorem sampleStored_eq (px py : Nat) : (Picture.stored bytes).sampleStored px py =
    { y := bilinear (fun x y => 4 * pageValue bytes 0 1920 x y) 1919 1439 px py,
      cb := bilinear (fun x y => 4 * pageValue bytes 2764800 960 x y) 959 719 (px / 2) (py / 2),
      cr := bilinear (fun x y => 4 * pageValue bytes 3456000 960 x y) 959 719 (px / 2) (py / 2) } := by
  have value : ∀ base wide x y, (BitVec.ofNat 8 (pageValue bytes base wide x y)).toNat = pageValue bytes base wide x y :=
    fun base wide x y => by rw [BitVec.toNat_ofNat, Nat.mod_eq_of_lt (pageValue_lt bytes base wide x y)]
  simp only [Picture.sampleStored, storedY_eq, storedCb_eq, storedCr_eq, value]

end Stored

/-! ### The raster's pins (06 R87, R92) -/

section Pins
variable {s : State} {i j : Nat}

theorem State.rasterPins_running (h : s.dou.raster = .running) : s.rasterPins i j =
    (if i < (rasterSize s.dou.mode).1 ∧ j < (rasterSize s.dou.mode).2 then
      (if i < s.dou.paneWidth then s.dou.left.map fun l => l.draw s.spm s.dou.paneWidth (rasterSize s.dou.mode).2 i j
      else s.dou.right.map fun l => l.draw s.spm s.dou.paneWidth (rasterSize s.dou.mode).2 (i - s.dou.paneWidth) j)
    else none).map fun p => { sync := true, tone := p } := by
  simp only [State.rasterPins, State.rasterPixel, h]

end Pins

/-- Settles O43: picture by picture. -/
theorem picturesAreSampledAndFitted : Obligations.PicturesAreSampledAndFitted := by
  refine ⟨fun src lastX lastY p q lo hi h => bilinear_mem h lastX lastY p q, bilinear_whole,
    fun src lastX lastY x y fx fy hfx hfy hx hy => bilinear_inside src hfx hfy hx hy,
    fun sw sh aw ah hsw hsh _ _ => fitInto_spec hsw hsh, fun src lastX lastY n f q hf => ?_,
    fun lines spm => ⟨fun f n j kind => ?_, fun r k b hk hb => ?_, fun n w pw ph i j live => ?_⟩,
    fun bytes spm => ⟨fun f lesson serial j kind => ?_, fun n pw ph i j page => ?_⟩, fun spm pw ph i j => ⟨rfl, rfl, rfl⟩,
    fun s i j => ⟨fun stopped => ?_, fun restarting => ?_, fun running outside => ?_, fun l running left hi hj => ⟨fun one => ?_,
      fun r two => ⟨fun near => ?_, fun far => ?_⟩⟩⟩⟩
  · obtain ⟨column, row⟩ := bilinear_rounded src lastX lastY (n := n) q hf
    exact ⟨column, row, fun high => by show 65536 * n + 256 * ((f + 128) / 256) = _; omega⟩
  · intro at_ line
    have line_eq : line = _ := FeedFrame.line_live lines kind j
    rw [line_eq]
    exact ⟨rfl, by simp, by simp, by simp, fun i hi => range_map_get _ hi, fun k hk => ⟨range_map_get _ hk, range_map_get _ hk⟩⟩
  · intro n fit covers at_ holds
    obtain ⟨luminance, blue, red⟩ := captureByte_eq (.live lines) r n
    have byte : (capturePage (.live lines) r k)[b]? = some (captureByte (.live lines) r n) := capturePage_get _ _ _ hb
    have value : ∀ x y, captureSample (.live lines) r fit x y = at_ x y := fun x y => by rw [captureSample, sampleLive_eq]; rfl
    refine ⟨by simp [capturePage], fun x y hx e hy => ?_, fun x y hx hy e => ?_, fun x y hx hy e => ?_⟩
    · have plane := byte.trans (congrArg some (luminance x y e hx hy))
      exact ⟨fun h => plane.trans (congrArg some ((if_pos ((fit.covers_iff x y).mpr h)).trans (by rw [value]; rfl))),
        fun h => plane.trans (congrArg some (if_neg (fun c => h ((fit.covers_iff x y).mp c))))⟩
    · have plane := byte.trans (congrArg some (blue x y e hx hy))
      exact ⟨fun h => plane.trans (congrArg some ((if_pos ((fit.covers_iff _ _).mpr h)).trans (by rw [value]; rfl))),
        fun h => plane.trans (congrArg some (if_neg (fun c => h ((fit.covers_iff _ _).mp c))))⟩
    · have plane := byte.trans (congrArg some (red x y e hx hy))
      exact ⟨fun h => plane.trans (congrArg some ((if_pos ((fit.covers_iff _ _).mpr h)).trans (by rw [value]; rfl))),
        fun h => plane.trans (congrArg some (if_neg (fun c => h ((fit.covers_iff _ _).mp c))))⟩
  · rw [Latch.draw, live, sampleLive_eq]
    rfl
  · rw [FeedFrame.line, kind]
    simp only [storedY_eq, storedCb_eq, storedCr_eq]
    exact ⟨trivial, rfl, rfl, rfl⟩
  · rw [Latch.draw, page, sampleStored_eq]
    exact ⟨fun h => if_pos h, fun h => if_neg h⟩
  · rw [State.rasterPins, stopped]
    rfl
  · rw [State.rasterPins, restarting]
    exact ⟨_, rfl⟩
  · rw [State.rasterPins_running running, if_neg (by omega)]
    rfl
  · have width : s.dou.paneWidth = (rasterSize s.dou.mode).1 := by rw [Dou.paneWidth, one]; rfl
    rw [State.rasterPins_running running, if_pos ⟨hi, hj⟩, width, if_pos hi, left]
    rfl
  · have width : s.dou.paneWidth = (rasterSize s.dou.mode).1 / 2 := by rw [Dou.paneWidth, two]; rfl
    rw [State.rasterPins_running running, if_pos ⟨hi, hj⟩, width, if_pos near, left]
    rfl
  · have width : s.dou.paneWidth = (rasterSize s.dou.mode).1 / 2 := by rw [Dou.paneWidth, two]; rfl
    rw [State.rasterPins_running running, if_pos ⟨hi, hj⟩, width, if_neg (by omega), two]
    rfl

end Sys2Proof.Machine

namespace Sys2Proof.Machine

/-- An arrival at a powered part whose effect is known, with the sendings it begins. -/
theorem arrive_leaves {s u : State} {f : State → State} {bs : List Block} (hp : s.powered = true) (effect : f (s.withEmitted []) = u)
    (hu : s.unchanged u bs) : arrive s f = .next u.transmit ∧ s.becomes u.transmit u.cpi bs := by
  subst effect
  obtain ⟨t, ht, rfl, becomes⟩ := arrive_becomes f _ bs hp hu rfl
  exact ⟨ht, becomes⟩

/-! ### Transactions of the Panel port (10 R153) -/

section Panel
variable {s : State}

/-- The sendings at the end of an arrival add to the end of what it emitted. -/
theorem State.transmit_emitted (s : State) : ∃ l, s.transmit.emitted = s.emitted ++ l := by
  have room : ∃ l, s.startRoom.emitted = s.emitted ++ l := by
    unfold State.startRoom
    split
    · exact ⟨_, rfl⟩
    · exact ⟨[], (List.append_nil _).symm⟩
  obtain ⟨l, room⟩ := room
  unfold State.transmit State.startTether
  split
  · split
    · exact ⟨l, room⟩
    · exact ⟨l ++ [_], by rw [← List.append_assoc, ← room]; rfl⟩
  · exact ⟨l, room⟩

theorem State.transmit_head {e : Emission} (h : s.emitted = [e]) : s.transmit.emitted.head? = some e := by
  obtain ⟨l, emitted⟩ := s.transmit_emitted
  rw [emitted, h]
  rfl

/-- A READ transaction gives the first bytes of what the port has, before anything is sent. -/
theorem panelRead_works (hp : s.powered = true) (rest : List Byte) :
    ∃ t, exec (.panelReadTransaction (0x02 :: rest)) s = .next t ∧
      t.emitted.head? = some (.panelDataOut (s.cpi.panel.dataOut.take rest.length)) ∧
      s.becomes t (if s.cpi.panel.owed.isSome ∧ s.cpi.panel.dataOut.length ≤ rest.length
        then { s.cpi with panel := s.cpi.panel.replyLeaves } else s.cpi) [] := by
  by_cases whole : s.cpi.panel.owed.isSome ∧ s.cpi.panel.dataOut.length ≤ rest.length
  · have read : (s.withEmitted []).panelRead rest.length = ((s.withEmitted []).emit
        (.panelDataOut (s.cpi.panel.dataOut.take rest.length))).changePort .panel PortState.replyLeaves := if_pos whole
    obtain ⟨ht, becomes⟩ := arrive_leaves (f := fun s => s.transact (readTransaction (0x02 :: rest))) (bs := []) hp read State.unchanged_by
    exact ⟨_, ht, State.transmit_head rfl, by rw [if_pos whole]; exact becomes⟩
  · have read : (s.withEmitted []).panelRead rest.length = (s.withEmitted []).emit
        (.panelDataOut (s.cpi.panel.dataOut.take rest.length)) := if_neg whole
    obtain ⟨ht, becomes⟩ := arrive_leaves (f := fun s => s.transact (readTransaction (0x02 :: rest))) (bs := []) hp read State.unchanged_by
    exact ⟨_, ht, State.transmit_head rfl, by rw [if_neg whole]; exact becomes⟩

/-- A body that is no command's is read as none. -/
theorem readBody_of_decode {p : Port} {body : List Byte} (h : decodeBody p body = none) : readBody p body = none := by
  rw [decodeBody, Option.map_eq_none_iff] at h
  exact h

theorem State.takeBody_none {p : Port} {body : List Byte} (h : decodeBody p body = none) (s : State) : s.takeBody p body = s := by
  rw [State.takeBody, readBody_of_decode h]

theorem State.takeBody_command (s : State) (kind : Byte) (h : CmdHeader) (args : List Byte) :
    s.takeBody h.port (commandBody kind h args) = s.hand kind h (workOf kind h args) := by
  rw [State.takeBody, readBody_commandBody]

theorem Cpi.panelDataOut_idle {c : Cpi} (h : c.panel.owed = none) (n : Nat) : c.panelDataOut n = List.replicate n 0 := by
  rw [Cpi.panelDataOut, h]

/-- The data-out line is driven, and that is part of what the arrival emits. -/
theorem State.driven_mem (idle : s.cpi.panel.owed = none) (u : State) (n : Nat) :
    Emission.panelDataOut (List.replicate n 0) ∈ (u.driven .panel s.cpi n).transmit.emitted := by
  refine State.mem_transmit _ ?_
  rw [State.driven_emitted, Cpi.panelDataOut_idle idle]
  simp

theorem dataOut_length {p : PortState} {r : Reply} (h : p.owed = some r) : p.dataOut.length = r.bytes.length + 3 := by
  simp [PortState.dataOut, h, halfBytes]

theorem readTransaction_other {sent : List Byte} (notCommand : sent.head? ≠ some 0x01) (notRead : sent.head? ≠ some 0x02) :
    readTransaction sent = .ignored := by
  cases sent with
  | nil => rfl
  | cons b rest => exact (if_neg fun e => notCommand (congrArg some e)).trans (if_neg fun e => notRead (congrArg some e))

/-- Settles O14: transaction by transaction. -/
theorem panelRead' : Obligations.PanelRead := by
  refine ⟨fun s rest hp => ?_, fun c kind h args s hc hk panel => ⟨?_, fun hp idle => ?_⟩, fun s body hp none => ?_,
    fun s sent hp notCommand notRead => ?_⟩
  · obtain ⟨t, ht, head, becomes⟩ := panelRead_works hp rest
    refine ⟨t, ht, fun idle => ⟨?_, ?_⟩, fun r owed => ⟨?_, fun whole => ?_, fun part => ?_⟩⟩
    · rw [head, PortState.dataOut, idle]
    · rwa [idle, if_neg (by simp)] at becomes
    · rw [head, PortState.dataOut, owed]
    · rwa [if_pos ⟨by rw [owed]; rfl, by rw [dataOut_length owed]; exact whole⟩] at becomes
    · rwa [if_neg fun e => by rw [dataOut_length owed] at e; omega] at becomes
  · rw [exec_command s hc hk]
    rw [command]
    refine congrArg (a₁ := fun s => s.transact (readTransaction (0x01 :: commandBody kind h args))) (arrive s) (funext fun s => ?_)
    have heard : ¬ (h.port = .room ∧ s.cpi.roomRx ≠ .hunting) := by rw [panel]; exact fun e => nomatch e.1
    have taken := s.takeBody_command kind h args
    rw [panel] at taken
    rw [if_neg heard, panel, ← taken]
    rfl
  · rw [exec_command s hc hk]
    have takes : s.takes h.port := ⟨hp, by rw [panel]; exact idle, by rw [panel]; exact fun e => nomatch e⟩
    have taken := command_taken kind args (workOf kind h args) takes
    rw [panel] at taken
    exact ⟨_, taken, State.driven_mem idle _ _⟩
  · have effect : (s.withEmitted []).transact (readTransaction (0x01 :: body)) =
        (s.withEmitted []).driven .panel s.cpi (body.length + 1) :=
      congrArg (State.driven · .panel s.cpi (body.length + 1)) (State.takeBody_none none _)
    obtain ⟨ht, becomes⟩ := arrive_leaves (f := fun s => s.transact (readTransaction (0x01 :: body))) (bs := []) hp effect
      State.unchanged_by
    exact ⟨_, ht, becomes, fun idle => State.driven_mem idle _ _⟩
  · have effect : (s.withEmitted []).transact (readTransaction sent) = s.withEmitted [] := by
      rw [readTransaction_other notCommand notRead]
      rfl
    obtain ⟨ht, becomes⟩ := arrive_leaves (f := fun s => s.transact (readTransaction sent)) (bs := []) hp effect State.unchanged_by
    exact ⟨_, ht, becomes⟩

end Panel
end Sys2Proof.Machine

namespace Sys2Proof.Machine

/-! ### The Room receiver (10 R154) -/

/-- A two-byte length is read back. -/
theorem half_ofNat {n : Nat} (h : n < 65536) : half (BitVec.ofNat 8 n) (BitVec.ofNat 8 (n / 256)) = n := by
  simp only [half, BitVec.toNat_ofNat]
  omega

theorem byteSum_append (a b : List Byte) : byteSum (a ++ b) = byteSum a + byteSum b := by
  have from_start : ∀ (l : List Byte) (x : Byte), l.foldl (· + ·) x = x + byteSum l := fun l => by
    unfold byteSum
    induction l with
    | nil => simp
    | cons y l ih =>
      intro x
      rw [List.foldl_cons, List.foldl_cons, ih, ih (0 + y)]
      ring
  unfold byteSum
  rw [List.foldl_append, from_start]
  rfl

/-- A frame's bytes make the sum 0 with their checksum alone. -/
theorem checksumHolds_iff (covered : List Byte) (x : Byte) : checksumHolds (covered ++ [x]) = true ↔ x = -byteSum covered := by
  rw [checksumHolds, beq_iff_eq, byteSum_append, show byteSum [x] = x by simp [byteSum]]
  exact add_eq_zero_iff_eq_neg'

section Frame
variable {lo hi : Byte}

/-- A frame of a good length goes on until its checksum byte. -/
theorem takeAll_frame (good : ¬ (half lo hi = 0 ∨ 2048 < half lo hi)) (m : List Byte) (h : m.length ≤ half lo hi) :
    (RoomReceiver.taking []).takeAll (lo :: hi :: m) = (.taking (lo :: hi :: m), []) := by
  induction m using List.reverseRecOn with
  | nil => simp [RoomReceiver.takeAll, RoomReceiver.take, judgeFrame, good]
  | append_singleton m b ih =>
    rw [List.length_append, List.length_singleton] at h
    have more : ¬ half lo hi < (m ++ [b]).length := by rw [List.length_append, List.length_singleton]; omega
    rw [show lo :: hi :: (m ++ [b]) = (lo :: hi :: m) ++ [b] from rfl, RoomReceiver.takeAll_append, ih (by omega)]
    simp only [RoomReceiver.takeAll, RoomReceiver.take, List.cons_append, judgeFrame, if_neg good, if_neg more, List.append_nil]

/-- With the checksum byte the frame is judged, and the receiver hunts again. -/
theorem takeAll_checksum (good : ¬ (half lo hi = 0 ∨ 2048 < half lo hi)) {m : List Byte} (h : m.length = half lo hi) (x : Byte) :
    (RoomReceiver.taking []).takeAll (lo :: hi :: m ++ [x]) =
      (.hunting, if x = -byteSum (lo :: hi :: m) then [m] else []) := by
  have whole : half lo hi < (m ++ [x]).length := by rw [List.length_append, List.length_singleton]; omega
  have sum := checksumHolds_iff (lo :: hi :: m) x
  simp only [List.cons_append] at sum
  rw [RoomReceiver.takeAll_append, takeAll_frame good m h.le]
  simp only [RoomReceiver.takeAll, RoomReceiver.take, List.cons_append, judgeFrame, if_neg good, if_pos whole, List.append_nil,
    List.dropLast_concat, List.nil_append]
  simp only [sum]

end Frame

/-- What a wrapped body is made of. -/
theorem roomWrap_eq (body : List Byte) : roomWrap body =
    0xC3 :: (BitVec.ofNat 8 body.length :: BitVec.ofNat 8 (body.length / 256) :: body ++
      [-byteSum (BitVec.ofNat 8 body.length :: BitVec.ofNat 8 (body.length / 256) :: body)]) := rfl

theorem takeAll_start (l : List Byte) : RoomReceiver.hunting.takeAll (0xC3 :: l) = (RoomReceiver.taking []).takeAll l := rfl

/-- A wrapped body is taken, and no other byte in the place of its checksum makes one. -/
theorem takeAll_roomWrap {body : List Byte} (some : 1 ≤ body.length) (few : body.length ≤ 2048) :
    RoomReceiver.hunting.takeAll (roomWrap body).dropLast = (.taking (roomWrap body).dropLast.tail, []) ∧
    RoomReceiver.hunting.takeAll (roomWrap body) = (.hunting, [body]) ∧
    ∀ x : Byte, Option.some x ≠ (roomWrap body).getLast? →
      RoomReceiver.hunting.takeAll ((roomWrap body).dropLast ++ [x]) = (.hunting, []) := by
  have length := half_ofNat (n := body.length) (by omega)
  have good : ¬ (half (BitVec.ofNat 8 body.length) (BitVec.ofNat 8 (body.length / 256)) = 0 ∨
      2048 < half (BitVec.ofNat 8 body.length) (BitVec.ofNat 8 (body.length / 256))) := by rw [length]; omega
  have wrapped := roomWrap_eq body
  generalize hlo : BitVec.ofNat 8 body.length = lo at *
  generalize hhi : BitVec.ofNat 8 (body.length / 256) = hi at *
  have front : (roomWrap body).dropLast = 0xC3 :: (lo :: hi :: body) := by
    rw [wrapped, ← List.cons_append, List.dropLast_concat]
  have last : (roomWrap body).getLast? = Option.some (-byteSum (lo :: hi :: body)) := by
    rw [wrapped, ← List.cons_append, List.getLast?_concat]
  refine ⟨?_, ?_, fun x other => ?_⟩
  · rw [front, takeAll_start, takeAll_frame good body length.ge]
    rfl
  · rw [wrapped, takeAll_start, takeAll_checksum good length.symm, if_pos rfl]
  · rw [last] at other
    rw [front, List.cons_append, takeAll_start, takeAll_checksum good length.symm, if_neg fun e => other (congrArg Option.some e)]

/-- A bad length drops the frame, and the hunt resumes behind the start byte. -/
theorem takeAll_badLength {lo hi : Byte} (bad : half lo hi = 0 ∨ 2048 < half lo hi) :
    RoomReceiver.hunting.takeAll [0xC3, lo, hi] = RoomReceiver.hunting.takeAll [lo, hi] := by
  have dropped : (RoomReceiver.taking []).takeAll [lo, hi] = (huntIn [lo, hi], []) := by
    simp [RoomReceiver.takeAll, RoomReceiver.take, judgeFrame, bad]
  rw [takeAll_start, dropped]
  by_cases start : lo = 0xC3
  · simp [RoomReceiver.takeAll, RoomReceiver.take, huntIn, start, judgeFrame]
  · simp only [RoomReceiver.takeAll, RoomReceiver.take, huntIn, if_neg start, List.append_nil]

/-! ### Bodies as commands (10 R156, R162) -/

/-- A kind that no row of the table names is an unknown command (10 R156). -/
theorem commandOf_other {kind : Byte} {h : CmdHeader} {args : List Byte} (other : kind.toNat = 0 ∨ 59 < kind.toNat) :
    commandOf kind h args = .unknownCommand kind h args := by
  unfold commandOf
  split <;> first | omega | rfl

/-- A command's kind, header and arguments spell that command. -/
theorem commandOf_asCommand {c : Instr} {kind : Byte} {h : CmdHeader} {args : List Byte} (hc : asCommand c = some (kind, h, args))
    (hk : namedCommand c = true ∨ kind = 0 ∨ 59 < kind.toNat) : commandOf kind h args = c := by
  cases c <;> simp only [asCommand, Option.some.injEq, Prod.mk.injEq, reduceCtorEq] at hc
  case unknownCommand k g l =>
    obtain ⟨rfl, rfl, rfl⟩ := hc
    have other : k.toNat = 0 ∨ 59 < k.toNat := by
      rcases hk with hk | rfl | hk
      · exact nomatch hk
      · exact .inl rfl
      · exact .inr hk
    exact commandOf_other other
  all_goals (obtain ⟨rfl, rfl, rfl⟩ := hc; rfl)

/-- The command of a kind is a command of that kind, header and arguments; one that no row names is unknown. -/
theorem asCommand_commandOf (kind : Byte) (h : CmdHeader) (args : List Byte) :
    asCommand (commandOf kind h args) = some (kind, h, args) ∧
    (namedCommand (commandOf kind h args) = true ∨ kind = 0 ∨ 59 < kind.toNat) := by
  by_cases named : 1 ≤ kind.toNat ∧ kind.toNat ≤ 59
  · obtain ⟨low, high⟩ := named
    obtain ⟨n, hn⟩ : ∃ n, kind.toNat = n := ⟨_, rfl⟩
    obtain rfl : kind = BitVec.ofNat 8 n := by rw [← hn, BitVec.ofNat_toNat, BitVec.setWidth_eq]
    rw [hn] at low high
    clear hn
    interval_cases n <;> exact ⟨rfl, .inl rfl⟩
  · rw [commandOf_other (by omega)]
    exact ⟨rfl, .inr ((show kind.toNat = 0 ∨ 59 < kind.toNat by omega).imp_left BitVec.eq_of_toNat_eq)⟩

/-- A body that spells a command is read as its kind, header and arguments, and does what that kind does. -/
theorem exec_decoded {p : Port} {body : List Byte} {c : Instr} (h : decodeBody p body = some c) :
    ∃ kind header args, readBody p body = some (kind, header, args) ∧ header.port = p ∧
      ∀ s, exec c s = command kind header args s (workOf kind header args) := by
  obtain ⟨⟨kind, header, args⟩, read, rfl⟩ := Option.map_eq_some_iff.mp h
  obtain ⟨spelt, named⟩ := asCommand_commandOf kind header args
  refine ⟨kind, header, args, read, ?_, fun s => exec_command s spelt named⟩
  unfold readBody at read
  split at read
  · split at read
    · obtain ⟨-, rfl, -⟩ := Prod.mk.inj (Option.some.inj read) |>.imp id Prod.mk.inj
      rfl
    · exact nomatch read
  · exact nomatch read

/-- Arrivals with the same effect are the same. -/
theorem arrive_congr {s : State} {f g : State → State} (h : f (s.withEmitted []) = g (s.withEmitted [])) : arrive s f = arrive s g := by
  unfold arrive
  rw [h]

/-- A command from a port that is heard does what the taking of its body does, on the ports without a data-out line. -/
theorem exec_takeBody {p : Port} {body : List Byte} {c : Instr} (h : decodeBody p body = some c) (line : p ≠ .panel) {s : State}
    (heard : p = .room → s.cpi.roomRx = .hunting) : exec c s = arrive s fun s => s.takeBody p body := by
  obtain ⟨kind, header, args, read, rfl, works⟩ := exec_decoded h
  have bare : ∀ u : State, ∀ d n, u.driven header.port d n = u := fun u d n => by
    cases e : header.port
    · exact absurd e line
    · rfl
    · rfl
  have free : ¬ (header.port = .room ∧ (s.withEmitted []).cpi.roomRx ≠ .hunting) := fun e => e.2 (heard e.1)
  rw [works]
  exact arrive_congr ((if_neg free).trans ((bare _ _ _).trans (by rw [State.takeBody, read])))

/-! ### Packets from the bridge (10 R155) -/

/-- The bytes of one packet are read by their header words. -/
theorem readPacket_bytes (flags kind lo hi : Byte) {words : List Byte} (h : words.length = 2 * half lo hi) :
    ∃ cut, readPacket ([flags, kind, lo, hi] ++ words) =
      some { kind := kind, cut := cut, payload := if flags &&& 2 ≠ 0 then words.dropLast else words } := by
  have odd : flags.getLsbD 1 = true ↔ flags &&& 2 ≠ 0 := by revert flags; decide
  refine ⟨flags.getLsbD 0, (if_pos h).trans ?_⟩
  by_cases bit : flags.getLsbD 1 = true
  · rw [if_pos bit, if_pos (odd.mp bit)]
    rfl
  · rw [if_neg bit, if_neg fun e => bit (odd.mpr e)]
    rfl

/-- A packet from the bridge arrives as what its owner makes of it. -/
theorem exec_packet {header words : List Byte} {x : TetherPacket} (h : readPacket (header ++ words) = some x) (s : State) :
    exec (.tetherPacketDiscarded header words) s = arrive s fun s => s.takePacket x :=
  arrive_congr (f := fun s => s.receive (header ++ words)) (by rw [State.receive, h]; rfl)

section Packet
variable {x : TetherPacket} {s : State}

theorem State.takePacket_command (kind : x.kind = 1) : s.takePacket x = s.takeBody .tether x.payload := by
  rw [State.takePacket, kind]
  rfl

theorem State.takePacket_offer (kind : x.kind = 8) : s.takePacket x = (Config.offer.read x.payload).elim s s.offerArrives := by
  rw [State.takePacket, kind]
  rfl

theorem State.takePacket_note (kind : x.kind = 9) : s.takePacket x = (Config.note.read x.payload).elim s s.noteArrives := by
  rw [State.takePacket, kind]
  rfl

theorem State.takePacket_hold (kind : x.kind = 10) : s.takePacket x = (Config.hold.read x.payload).elim s s.takeHold := by
  rw [State.takePacket, kind]
  rfl

/-- A kind that names no owner, or that goes from the part alone, has no effect (log 63). -/
theorem State.takePacket_other (kind : x.kind ∉ [(1 : Byte), 8, 9, 10]) : s.takePacket x = s := by
  simp only [List.mem_cons, List.not_mem_nil, or_false, not_or] at kind
  obtain ⟨h1, h8, h9, h10⟩ := kind
  unfold State.takePacket packetOwner
  rw [if_neg h1]
  split
  · rfl
  · next e => split at e <;> exact nomatch e
  · rw [State.takeFeedPacket, if_neg h8, if_neg h9, if_neg h10]

end Packet

/-- An arrival without an effect. -/
theorem arrive_nothing {s : State} {f : State → State} (hp : s.powered = true) (effect : f (s.withEmitted []) = s.withEmitted []) :
    ∃ t, arrive s f = .next t ∧ s.becomes t s.cpi [] := by
  obtain ⟨ht, becomes⟩ := arrive_leaves (bs := []) hp effect State.unchanged_by
  exact ⟨_, ht, becomes⟩

/-- Settles O15: byte by byte on the Room line, and packet by packet on the tether link. -/
theorem roomInputTakenAndDropped : Obligations.RoomInputTakenAndDropped := by
  refine ⟨fun body => takeAll_roomWrap, fun lo hi bad => ⟨takeAll_badLength bad, fun other => ?_⟩, fun c kind h args hc hk => ?_,
    fun s hp => ⟨fun bytes none => ?_, fun body c hunting some few decoded => ?_, fun c kind h args hc room swallowed => ?_,
      fun flags kind lo hi words length => ?_, ?_⟩⟩
  · simp only [RoomReceiver.takeAll, RoomReceiver.take, if_neg other, List.append_nil]
  · rw [decodeBody, readBody_commandBody]
    exact congrArg some (commandOf_asCommand hc hk)
  · have effect : (s.withEmitted []).hear bytes =
        (s.withEmitted []).withCpi { s.cpi with roomRx := (s.cpi.roomRx.takeAll bytes).1 } := by
      rw [State.hear, State.withEmitted_cpi, none]
      rfl
    obtain ⟨ht, becomes⟩ := arrive_leaves (f := fun s => s.hear bytes) (bs := []) hp effect State.unchanged_by
    exact ⟨_, ht, becomes⟩
  · have taken := (takeAll_roomWrap some few).2.1
    rw [exec_takeBody decoded (by decide) fun _ => hunting]
    refine arrive_congr (f := fun s => s.hear (roomWrap body)) ?_
    rw [State.hear, State.withEmitted_cpi, hunting, taken, ← hunting]
    rfl
  · obtain ⟨f, command⟩ := exec_asCommand hc
    rw [command]
    have frame : h.port = .room ∧ (s.withEmitted []).cpi.roomRx ≠ .hunting := ⟨room, swallowed⟩
    refine arrive_congr (g := fun s => s.hear (roomWrap (commandBody kind h args))) ?_
    exact if_pos frame
  · obtain ⟨cut, read⟩ := readPacket_bytes flags kind lo hi length
    have packet := exec_packet read s
    refine ⟨fun k none => ?_, fun c k decoded => ?_, fun o k offer => ?_, fun p k note => ?_, fun d k hold => ?_, fun k none => ?_,
      fun k none => ?_, fun k none => ?_, fun k => ?_⟩
    · rw [packet]
      exact arrive_nothing hp ((State.takePacket_command k).trans (State.takeBody_none none _))
    · rw [packet, exec_takeBody decoded (by decide) fun e => nomatch e]
      exact arrive_congr (State.takePacket_command k)
    · rw [packet]
      exact arrive_congr ((State.takePacket_offer k).trans (by rw [offer]; rfl))
    · rw [packet]
      exact arrive_congr ((State.takePacket_note k).trans (by rw [note]; rfl))
    · rw [packet]
      exact arrive_congr (g := fun s => s.takeHold d) ((State.takePacket_hold k).trans (by rw [hold]; rfl))
    · rw [packet]
      exact arrive_nothing hp ((State.takePacket_offer k).trans (by rw [none]; rfl))
    · rw [packet]
      exact arrive_nothing hp ((State.takePacket_note k).trans (by rw [none]; rfl))
    · rw [packet]
      exact arrive_nothing hp ((State.takePacket_hold k).trans (by rw [none]; rfl))
    · rw [packet]
      exact arrive_nothing hp (State.takePacket_other k)
  · have packet := fun (kind : Byte) (payload : List Byte) (fits : payload.length ≤ 131070) => exec_packet
      (header := (tetherWrap kind false payload).take 4) (words := (tetherWrap kind false payload).drop 4)
      (by rw [List.take_append_drop]; exact readPacket_tetherWrap kind false payload fits) s
    refine ⟨fun body c fits decoded => ?_, fun o => ?_, fun p => ?_, fun d => ?_⟩
    · exact (packet 1 body fits).trans ((arrive_congr (State.takePacket_command rfl)).trans
        (exec_takeBody decoded (by decide) fun e => nomatch e).symm)
    · refine (packet 8 _ (Config.offer.fits o)).trans (arrive_congr ((State.takePacket_offer rfl).trans ?_))
      rw [Config.offer.readsBack]
      rfl
    · refine (packet 9 _ (Config.note.fits p)).trans (arrive_congr ((State.takePacket_note rfl).trans ?_))
      rw [Config.note.readsBack]
      rfl
    · refine (packet 10 _ (Config.hold.fits d)).trans (arrive_congr (g := fun s => s.takeHold d) ((State.takePacket_hold rfl).trans ?_))
      rw [Config.hold.readsBack]
      rfl

end Sys2Proof.Machine

namespace Sys2Proof.Machine

/-! ### What a free transmitter does (10 R158, R159) -/

section Transmitters
variable {s : State}

/-- The body that a port's choice sends. -/
def PortState.chosenBody (x : PortState) : List Byte := (x.choice.map x.body).getD []

/-- The port once its choice has begun. -/
def PortState.chosen (x : PortState) : PortState := (x.choice.map x.begun).getD x

/-- A free transmitter takes the owed reply, else the oldest record, else a notice. -/
theorem PortState.sends_choice (x : PortState) : x.sends x.chosen x.choice x.chosenBody := by
  refine ⟨fun r owed => ?_, fun r rest owed records => ?_, fun owed records flags => ?_, fun owed records flags => ?_⟩
  · have choice : x.choice = some .reply := by simp [PortState.choice, owed]
    simp [PortState.chosen, PortState.chosenBody, choice, PortState.body, PortState.begun, owed]
  · have choice : x.choice = some .completion := by simp [PortState.choice, owed, records]
    simp [PortState.chosen, PortState.chosenBody, choice, PortState.body, PortState.begun, records]
  · have choice : x.choice = some .notice := by simp [PortState.choice, owed, records]; exact flags
    simp [PortState.chosen, PortState.chosenBody, choice, PortState.body, PortState.begun]
  · have choice : x.choice = none := (x.choice_eq_none).mpr ⟨owed, records, flags⟩
    simp [PortState.chosen, choice]

/-- What there is to send. -/
theorem PortState.has_iff (x : PortState) : (x.owed ≠ none ∨ x.completions ≠ [] ∨ x.flags ≠ 0) ↔ x.choice ≠ none := by
  have nothing := x.choice_eq_none
  tauto

/-- A free Room transmitter. -/
theorem State.startRoom_free (free : s.cpi.roomTx = none) :
    s.startRoom.cpi.room = s.cpi.room.chosen ∧ s.startRoom.cpi.roomTx = s.cpi.room.choice ∧
    (s.startRoom.cpi.roomTx.isSome = true → Emission.roomFrame (roomWrap s.cpi.room.chosenBody) ∈ s.startRoom.emitted) := by
  unfold State.startRoom PortState.chosen PortState.chosenBody
  rw [free]
  cases choice : s.cpi.room.choice with
  | none => exact ⟨rfl, free, fun some => by simp [free] at some⟩
  | some k => exact ⟨rfl, rfl, fun _ => by simp [State.emit]⟩

/-- The start of a packet on the tether link leaves the Room transmitter. -/
theorem State.startTether_room (s : State) : s.startTether.cpi.room = s.cpi.room ∧ s.startTether.cpi.roomTx = s.cpi.roomTx ∧
    ∀ e ∈ s.emitted, e ∈ s.startTether.emitted := by
  unfold State.startTether
  split
  · split
    · exact ⟨rfl, rfl, fun _ => id⟩
    · exact ⟨rfl, rfl, fun e he => by simp [State.emit, he]⟩
  · exact ⟨rfl, rfl, fun _ => id⟩

/-- The start of a Room frame leaves the tether link. -/
theorem State.startRoom_tether (s : State) : s.startRoom.cpi.tether = s.cpi.tether ∧ s.startRoom.cpi.tetherTx = s.cpi.tetherTx ∧
    s.startRoom.cpi.lastSide = s.cpi.lastSide ∧ s.startRoom.flc = s.flc := by
  unfold State.startRoom
  split <;> exact ⟨rfl, rfl, rfl, rfl⟩

/-- A free link whose turn is the port's, or that has nothing else to carry, takes what the port chooses. -/
theorem State.startTether_free (free : s.cpi.tetherTx = none)
    (turn : (s.flc.ready = true ∧ s.cpi.lastSide = some .cpi) → s.cpi.tether.choice = none) :
    s.startTether.cpi.tether = s.cpi.tether.chosen ∧ s.startTether.cpi.tetherTx = s.cpi.tether.choice ∧
    ∀ j, s.startTether.cpi.tetherTx = some j → s.startTether.cpi.lastSide = some .cpi ∧
      Emission.tetherCommand (tetherWrap j.packetKind false s.cpi.tether.chosenBody) ∈ s.startTether.emitted := by
  unfold State.startTether PortState.chosen PortState.chosenBody
  rw [free]
  cases choice : s.cpi.tether.choice with
  | none => exact ⟨rfl, free, fun j some => by rw [free] at some; exact nomatch some⟩
  | some k =>
    have port : ¬ (s.flc.ready && s.cpi.lastSide == some .cpi) = true := fun e => by
      rw [Bool.and_eq_true, beq_iff_eq] at e
      rw [turn e] at choice
      exact nomatch choice
    dsimp only
    rw [if_neg port]
    exact ⟨rfl, rfl, fun j some => by obtain rfl := Option.some.inj some; exact ⟨rfl, by simp [State.emit]⟩⟩

/-- A free link that is the feed link controller's turn stays for it. -/
theorem State.startTether_keeps (ready : s.flc.ready = true) (side : s.cpi.lastSide = some .cpi) : s.startTether = s := by
  unfold State.startTether
  split
  · rw [if_pos (by rw [ready, side]; rfl)]
  · rfl

/-- The sendings that follow an arrival, on the Room line. -/
theorem State.transmit_room (free : s.cpi.roomTx = none) : s.cpi.room.sends s.transmit.cpi.room s.transmit.cpi.roomTx s.cpi.room.chosenBody ∧
    (s.transmit.cpi.roomTx.isSome = true → Emission.roomFrame (roomWrap s.cpi.room.chosenBody) ∈ s.transmit.emitted) := by
  obtain ⟨room, tx, frame⟩ := State.startRoom_free free
  obtain ⟨room', tx', stays⟩ := s.startRoom.startTether_room
  rw [State.transmit, room', tx', room]
  exact ⟨tx ▸ s.cpi.room.sends_choice, fun some => stays _ (frame some)⟩

/-- The sendings that follow an arrival, on the tether link. -/
theorem State.transmit_tether (free : s.cpi.tetherTx = none)
    (turn : (s.flc.ready = true ∧ s.cpi.lastSide = some .cpi) → s.cpi.tether.choice = none) :
    s.cpi.tether.sends s.transmit.cpi.tether s.transmit.cpi.tetherTx s.cpi.tether.chosenBody ∧
    s.transmit.cpi.tetherTx = s.cpi.tether.choice ∧
    ∀ j, s.transmit.cpi.tetherTx = some j → s.transmit.cpi.lastSide = some .cpi ∧
      Emission.tetherCommand (tetherWrap j.packetKind false s.cpi.tether.chosenBody) ∈ s.transmit.emitted := by
  obtain ⟨tether, tx, side, flc⟩ := s.startRoom_tether
  obtain ⟨begun, tx', rides⟩ := State.startTether_free (s := s.startRoom) (tx.trans free) (by rw [tether, side, flc]; exact turn)
  rw [tether] at begun tx' rides
  refine ⟨?_, tx', rides⟩
  rw [State.transmit, begun, tx']
  exact s.cpi.tether.sends_choice

/-- A link that is kept for the feed link controller. -/
theorem State.transmit_keeps (ready : s.flc.ready = true) (side : s.cpi.lastSide = some .cpi) :
    s.transmit.cpi.tether = s.cpi.tether ∧ s.transmit.cpi.tetherTx = s.cpi.tetherTx ∧ s.transmit.cpi.lastSide = s.cpi.lastSide := by
  obtain ⟨tether, tx, side', flc⟩ := s.startRoom_tether
  rw [State.transmit, State.startTether_keeps (s := s.startRoom) (by rw [flc]; exact ready) (side'.trans side)]
  exact ⟨tether, tx, side'⟩

end Transmitters

/-! ### The turns of the tether link (10 R155) -/

section Turns
variable {s : State}

/-- What has been sent leaves its port. -/
theorem PortState.sentOne_ended (x : PortState) (k : Sending) : x.sentOne (x.ended k) k := by cases k <;> rfl

/-- Packets of the feed link controller, sent one after the other. -/
def State.linked (s : State) (l : List FeedPacket) : State :=
  { s with
    cpi := { s.cpi with lastSide := if l = [] then s.cpi.lastSide else some .flc },
    emitted := s.emitted ++ l.map fun p => .feedPacket p p.bytes }

theorem State.linked_nil (s : State) : s.linked [] = s := by
  unfold State.linked
  rw [if_pos rfl, List.map_nil, List.append_nil]

theorem State.linked_append (s : State) (l : List FeedPacket) (p : FeedPacket) : (s.linked l).sendPacket p = s.linked (l ++ [p]) := by
  unfold State.linked State.sendPacket State.emit
  simp
  rfl

/-- What is carried are packets of the feed link controller. -/
theorem State.linked_sentFeed (nothing : s.emitted = []) (l : List FeedPacket) : (s.linked l).sentFeed l := by
  unfold State.sentFeed State.linked
  rw [nothing]
  simp [List.filter_map, Function.comp_def, Emission.ofFeed]

/-- With a link that is free for the feed link controller, all pages go where the port has nothing to send. -/
theorem State.sendPages_all (free : s.cpi.tetherTx = none) (idle : s.cpi.tether.choice = none) (l : List AgreementPage) :
    s.sendPages l = (s.linked (l.map .page)).withFlc { s.flc with pages := [] } := by
  induction l generalizing s with
  | nil => rw [List.map_nil, State.linked_nil]; rfl
  | cons a l ih =>
    have takes : s.cpi.linkTakesFeed = true := by simp [Cpi.linkTakesFeed, free, idle]
    rw [State.sendPages, if_pos takes, ih (s := s.sendPacket (.page a)) free idle]
    unfold State.linked State.sendPacket State.emit State.withFlc
    simp

/-- A link that the port waits for carries one page and no more. -/
theorem State.sendPages_one (free : s.cpi.tetherTx = none) (side : s.cpi.lastSide = some .cpi) (waits : s.cpi.tether.choice ≠ none)
    (a : AgreementPage) (rest : List AgreementPage) :
    s.sendPages (a :: rest) = (s.linked [.page a]).withFlc { s.flc with pages := rest } := by
  have takes : s.cpi.linkTakesFeed = true := by simp [Cpi.linkTakesFeed, free, side]
  have busy : ¬ (s.sendPacket (.page a)).cpi.linkTakesFeed = true := by
    simp [Cpi.linkTakesFeed, State.sendPacket, State.emit, waits]
  rw [State.sendPages, if_pos takes]
  cases rest with
  | nil => rfl
  | cons b rest =>
    rw [State.sendPages, if_neg busy]
    rfl

/-- Without a FRAME_END that waits, or without a link for it, none goes. -/
theorem State.sendCutEnd_waits (h : s.flc.cutReady = false ∨ s.cpi.linkTakesFeed = false) : s.sendCutEnd = s := by
  unfold State.sendCutEnd
  split
  · rfl
  · refine if_neg fun e => ?_
    rw [Bool.and_eq_true] at e
    rcases h with h | h
    · exact nomatch h.symm.trans e.1
    · exact nomatch h.symm.trans e.2

/-- FRAME_START, where nothing of the frame has gone. -/
def FeedFrame.startPackets (f : FeedFrame) : List FeedPacket := if f.sent = 0 then [FeedPacket.frameStart f.kind f.width f.height] else []

theorem State.sendStart_eq (s : State) (f : FeedFrame) : s.sendStart f = s.linked f.startPackets := by
  unfold State.sendStart FeedFrame.startPackets
  split
  · rw [← List.nil_append [FeedPacket.frameStart _ _ _], ← State.linked_append, State.linked_nil]
    rfl
  · exact s.linked_nil.symm

/-- The packets of a cut: FRAME_START where nothing had gone, then FRAME_END with CUT. -/
def FeedFrame.cutPackets (f : FeedFrame) : List FeedPacket := f.startPackets ++ [.frameEnd true]

/-- FRAME_END with CUT goes, and a live frame's flight ends there (07 R116). -/
theorem State.sendCutEnd_live {f : FeedFrame} {n : Nat} (frame : s.flc.frame = some f) (cut : f.cut = true) (live : f.kind = .live n)
    (hold : s.flc.hold = none) (takes : s.cpi.linkTakesFeed = true) : s.sendCutEnd =
      (s.linked f.cutPackets).withFlc { s.flc with frame := none, buffer := [], allowanceTimer := none } := by
  have ready : s.flc.cutReady = true := by rw [Flc.cutReady, frame]; simp [cut, hold]
  unfold State.sendCutEnd
  rw [frame]
  dsimp only
  rw [if_pos (by rw [ready, takes]; rfl), live, State.sendStart_eq, State.linked_append]
  rfl

theorem State.linked_linked (s : State) (a b : List FeedPacket) : (s.linked a).linked b = s.linked (a ++ b) := by
  induction b using List.reverseRecOn with
  | nil => rw [State.linked_nil, List.append_nil]
  | append_singleton b p ih => rw [← State.linked_append, ih, State.linked_append, List.append_assoc]

/-- The link once a command-channel packet has gone: what was sent has left the port. -/
def State.linkLeft (s : State) (p : PortState) : State := s.withCpi { s.cpi with tether := p, tetherTx := none }

end Turns

/-- The effect of TETHER_PACKET_SENT. -/
theorem State.tetherSent_eq {s : State} {k : Sending} (tx : s.cpi.tetherTx = some k) :
    s.tetherSent = (s.linkLeft (s.cpi.tether.ended k)).serveFeed := by
  rw [State.tetherSent, tx]
  rfl

theorem Flc.withPages_same {f : Flc} {l : List AgreementPage} (h : f.pages = l) : { f with pages := l } = f := by
  subst h
  rfl

section Served
variable {s : State} {p : PortState} {l : List FeedPacket} {f : Flc}

/-- After it, the port begins its next packet unless a packet of the feed link controller is ready for its turn. -/
theorem State.linkLeft_begins (turn : l = [] → f.ready = true → p.choice = none) :
    let t := (((s.linkLeft p).linked l).withFlc f).transmit
    p.sends t.cpi.tether t.cpi.tetherTx p.chosenBody ∧ t.cpi.tetherTx = p.choice ∧
      ∀ j, t.cpi.tetherTx = some j →
        t.cpi.lastSide = some .cpi ∧ Emission.tetherCommand (tetherWrap j.packetKind false p.chosenBody) ∈ t.emitted := by
  refine State.transmit_tether (s := ((s.linkLeft p).linked l).withFlc f) rfl fun ready => ?_
  by_cases h : l = []
  · exact turn h ready.1
  · have last : (if l = [] then s.cpi.lastSide else some .flc) = some LinkSide.cpi := ready.2
    rw [if_neg h] at last
    exact nomatch last

/-- Nothing of the feed link controller waits for the link. -/
theorem State.serveFeed_nothing (pages : s.flc.pages = []) (cut : s.flc.cutReady = false) : s.serveFeed = (s.linked []).withFlc s.flc := by
  have same := Flc.withPages_same pages
  rw [State.serveFeed, State.servePages, pages, State.sendPages, same, State.linked_nil]
  exact State.sendCutEnd_waits (.inl cut)

/-- Of several pages one goes, where the port waits too. -/
theorem State.serveFeed_one {a : AgreementPage} {rest : List AgreementPage} (free : s.cpi.tetherTx = none)
    (side : s.cpi.lastSide = some .cpi) (waits : s.cpi.tether.choice ≠ none) (pages : s.flc.pages = a :: rest) :
    s.serveFeed = (s.linked [.page a]).withFlc { s.flc with pages := rest } := by
  rw [State.serveFeed, State.servePages, pages, State.sendPages_one free side waits]
  refine State.sendCutEnd_waits (.inr ?_)
  have busy : s.cpi.tether.choice.isNone = false := Option.isNone_eq_false_iff.mpr (Option.isSome_iff_ne_none.mpr waits)
  show (s.cpi.tetherTx.isNone && (s.cpi.tether.choice.isNone || some LinkSide.flc == some LinkSide.cpi)) = false
  rw [busy, Bool.false_or, show (some LinkSide.flc == some LinkSide.cpi) = false from rfl, Bool.and_false]

/-- All pages go where the port has nothing to send. -/
theorem State.serveFeed_pages (free : s.cpi.tetherTx = none) (idle : s.cpi.tether.choice = none) (cut : s.flc.cutReady = false) :
    s.serveFeed = (s.linked (s.flc.pages.map .page)).withFlc { s.flc with pages := [] } := by
  rw [State.serveFeed, State.servePages, State.sendPages_all free idle]
  exact State.sendCutEnd_waits (.inl cut)

/-- The pages go, and then the link takes a FRAME_END with CUT. -/
theorem State.serveFeed_turn (free : s.cpi.tetherTx = none) (side : s.cpi.lastSide = some .cpi)
    (turn : s.flc.pages = [] ∨ s.cpi.tether.choice = none) :
    s.serveFeed = ((s.linked (s.flc.pages.map .page)).withFlc { s.flc with pages := [] }).sendCutEnd ∧
    ((s.linked (s.flc.pages.map .page)).withFlc { s.flc with pages := [] }).cpi.linkTakesFeed = true := by
  rcases turn with none | idle
  · have same : s.servePages = (s.linked (s.flc.pages.map .page)).withFlc { s.flc with pages := [] } := by
      rw [State.servePages, none, List.map_nil, State.linked_nil]
      rfl
    exact ⟨congrArg _ same, by simp [Cpi.linkTakesFeed, State.linked, State.withFlc, free, side, none]⟩
  · exact ⟨congrArg _ (State.sendPages_all free idle _), by simp [Cpi.linkTakesFeed, State.linked, State.withFlc, free, idle]⟩

/-- The pages go, and a FRAME_END with CUT behind them. -/
theorem State.serveFeed_cut {g : FeedFrame} {n : Nat} (free : s.cpi.tetherTx = none) (side : s.cpi.lastSide = some .cpi)
    (turn : s.flc.pages = [] ∨ s.cpi.tether.choice = none) (frame : s.flc.frame = some g) (cut : g.cut = true)
    (live : g.kind = .live n) (hold : s.flc.hold = none) :
    s.serveFeed = (s.linked (s.flc.pages.map .page ++ g.cutPackets)).withFlc
      { s.flc with pages := [], frame := none, buffer := [], allowanceTimer := none } := by
  obtain ⟨serves, takes⟩ := State.serveFeed_turn free side turn
  rw [serves, ← State.linked_linked]
  exact State.sendCutEnd_live (s := (s.linked (s.flc.pages.map .page)).withFlc { s.flc with pages := [] }) frame cut live hold takes

end Served

/-- What the end of a packet leaves: packets of the feed link controller, its flight, and the port's next packet. -/
theorem tetherSent_leaves {s : State} {k : Sending} {l : List FeedPacket} {f : Flc} {bs : List Block} (tx : s.cpi.tetherTx = some k)
    (served : ((s.withEmitted []).linkLeft (s.cpi.tether.ended k)).serveFeed =
      (((s.withEmitted []).linkLeft (s.cpi.tether.ended k)).linked l).withFlc f)
    (hf : .flc ∈ bs ∨ f = s.flc) :
    let t := (s.withEmitted []).tetherSent.transmit
    let p := s.cpi.tether.ended k
    s.becomes t { s.cpi with tether := p } bs ∧ t.flc = f ∧ t.sentFeed l ∧
    ((l = [] → f.ready = true → p.choice = none) → p.sends t.cpi.tether t.cpi.tetherTx p.chosenBody ∧ t.cpi.tetherTx = p.choice ∧
      ∀ j, t.cpi.tetherTx = some j →
        t.cpi.lastSide = some .cpi ∧ Emission.tetherCommand (tetherWrap j.packetKind false p.chosenBody) ∈ t.emitted) ∧
    (l = [] → f.ready = true → s.cpi.lastSide = some .cpi →
      t.cpi.tetherTx = none ∧ t.cpi.tether = p ∧ t.cpi.lastSide = some .cpi) := by
  have effect := (State.tetherSent_eq (s := s.withEmitted []) tx).trans served
  dsimp only
  rw [effect]
  have hu : s.unchanged ((((s.withEmitted []).linkLeft (s.cpi.tether.ended k)).linked l).withFlc f) bs := State.unchanged_by (flc := hf)
  refine ⟨⟨by simpa [State.unchanged] using hu, State.transmit_sends _⟩, by simp,
    (State.transmit_sentFeed _ _).mpr (State.linked_sentFeed rfl l), State.linkLeft_begins, fun none ready side => ?_⟩
  subst none
  obtain ⟨tether, tx', last⟩ := State.transmit_keeps
    (s := (((s.withEmitted []).linkLeft (s.cpi.tether.ended k)).linked []).withFlc f) ready side
  exact ⟨tx', tether, last.trans side⟩

/-- Settles O13: line by line, along what waits for the tether link. -/
theorem sendingEnds : Obligations.SendingEnds := by
  refine ⟨fun s k hp tx => ?_, fun s k hp tx side => ⟨_, s.cpi.tether.ended k, (s.cpi.tether.ended k).chosenBody,
    arrive_powered State.tetherSent hp, s.cpi.tether.sentOne_ended k, ?_⟩⟩
  · have effect : (s.withEmitted []).roomSent =
        (s.withEmitted []).withCpi { s.cpi with room := s.cpi.room.ended k, roomTx := none } := by
      rw [State.roomSent, State.withEmitted_cpi, tx]
    obtain ⟨ht, becomes⟩ := arrive_leaves (f := State.roomSent) (bs := []) hp effect State.unchanged_by
    obtain ⟨sends, frame⟩ := State.transmit_room (s := (s.withEmitted []).withCpi
      { s.cpi with room := s.cpi.room.ended k, roomTx := none }) rfl
    exact ⟨_, s.cpi.room.ended k, _, ht, s.cpi.room.sentOne_ended k, becomes, sends, frame⟩
  · have has := (s.cpi.tether.ended k).has_iff
    have free : ((s.withEmitted []).linkLeft (s.cpi.tether.ended k)).cpi.tetherTx = none := rfl
    intro c waiting begins start
    have idle : ¬ waiting → (s.cpi.tether.ended k).choice = none := fun none => not_not.mp (mt has.mpr none)
    refine ⟨fun pages cut => ?_, fun a rest pages waits => ?_, fun cut none => ?_, fun f n frame cut live hold turn => ?_⟩
    · obtain ⟨becomes, -, sent, next, keeps⟩ := tetherSent_leaves (bs := []) tx (State.serveFeed_nothing pages cut) (.inr rfl)
      refine ⟨becomes, sent, fun ready _ => ?_, fun turn => ?_⟩
      · exact keeps rfl (by show (s.flc.ready) = true; simp [Flc.ready, ready]) side
      · obtain ⟨sends, -, rides⟩ := next fun _ ready => turn.elim
          (fun line => absurd (show s.flc.ready = true from ready) (by simp [Flc.ready, pages, cut, line])) idle
        exact ⟨sends, rides⟩
    · obtain ⟨becomes, flc, sent, next, -⟩ := tetherSent_leaves (bs := [.flc]) tx (State.serveFeed_one free side (has.mp waits) pages)
        (.inl (by decide))
      obtain ⟨sends, -, rides⟩ := next fun e => nomatch e
      exact ⟨becomes, flc, sent, sends, rides⟩
    · obtain ⟨becomes, flc, sent, next, -⟩ := tetherSent_leaves (bs := [.flc]) tx (State.serveFeed_pages free (idle none) cut)
        (.inl (by decide))
      exact ⟨becomes, flc, sent, (next fun _ _ => idle none).2.1.trans (idle none)⟩
    · obtain ⟨becomes, flc, sent, next, -⟩ := tetherSent_leaves (bs := [.flc]) tx
        (State.serveFeed_cut free side (turn.imp_right idle) frame cut live hold) (.inl (by decide))
      obtain ⟨sends, -, rides⟩ := next fun e => nomatch (List.append_eq_nil_iff.mp (List.append_eq_nil_iff.mp e).2).2
      refine ⟨becomes, flc, ?_, sends, rides⟩
      rw [List.append_assoc]
      exact sent

end Sys2Proof.Machine

namespace Sys2Proof.Machine

/-! ### Agreement pages on their way (10 R155) -/

section Pages
variable {s u : State} {new : List AgreementPage}

/-- Pages given to the link: some go, the others wait while the link does not take them. -/
theorem State.sendPages_eq (s : State) (l : List AgreementPage) : ∃ gone rest, l = gone ++ rest ∧
    s.sendPages l = (s.linked (gone.map .page)).withFlc { s.flc with pages := rest } ∧
    (rest ≠ [] → (s.linked (gone.map .page)).cpi.linkTakesFeed = false) ∧
    (s.cpi.linkTakesFeed = true → l ≠ [] → gone ≠ []) ∧ (s.cpi.tetherTx ≠ none → gone = []) := by
  induction l generalizing s with
  | nil =>
    refine ⟨[], [], rfl, ?_, (absurd rfl ·), fun _ h => absurd rfl h, fun _ => rfl⟩
    rw [List.map_nil, State.linked_nil]
    rfl
  | cons a l ih =>
    by_cases takes : s.cpi.linkTakesFeed = true
    · obtain ⟨gone, rest, all, sent, wait, -, -⟩ := ih (s.sendPacket (.page a))
      have first : ∀ x : List FeedPacket, (s.sendPacket (.page a)).linked x = s.linked (.page a :: x) := fun x => by
        rw [show s.sendPacket (.page a) = s.linked [.page a] by rw [← List.nil_append [FeedPacket.page a], ← State.linked_append,
          State.linked_nil], State.linked_linked]
        rfl
      refine ⟨a :: gone, rest, by rw [all]; rfl, ?_, fun h => ?_, (fun _ _ e => nomatch e), fun busy => ?_⟩
      · rw [State.sendPages, if_pos takes, sent, first]
        rfl
      · rw [List.map_cons, ← first]
        exact wait h
      · rw [((Cpi.linkTakesFeed_iff _).mp takes).1] at busy
        exact absurd rfl busy
    · refine ⟨[], a :: l, rfl, ?_, fun _ => ?_, fun h => absurd h takes, fun _ => rfl⟩
      · rw [State.sendPages, if_neg takes, List.map_nil, State.linked_nil]
      · rw [List.map_nil, State.linked_nil]
        exact Bool.eq_false_iff.mpr takes

/-- With a link that stays idle nothing of the feed link controller's pages waits. -/
theorem State.idle_takes (idle : s.transmit.cpi.tetherTx = none) (wait : s.cpi.linkTakesFeed = false) : False := by
  obtain ⟨tether, tx, side, flc⟩ := s.startRoom_tether
  have takes : s.startRoom.cpi.linkTakesFeed = false := by
    rw [Cpi.linkTakesFeed, tether, tx, side]
    exact wait
  have free : s.startRoom.cpi.tetherTx = none := by
    unfold State.transmit State.startTether at idle
    split at idle
    · next h _ => exact h
    · exact idle
  have busy : s.startRoom.cpi.tether.choice ≠ none ∧ s.startRoom.cpi.lastSide ≠ some .cpi := by
    rw [Cpi.linkTakesFeed, free, Option.isNone_none, Bool.true_and, Bool.or_eq_false_iff] at takes
    exact ⟨Option.isSome_iff_ne_none.mp (Option.isNone_eq_false_iff.mp takes.1), by simpa using takes.2⟩
  have next := (State.startTether_free free fun turn => absurd turn.2 busy.2).2.1
  exact busy.1 (next.symm.trans idle)

/-- What a state that hands its pages to the link becomes. -/
theorem State.servePages_gives (emitted : u.emitted = []) (pages : u.flc.pages = s.flc.pages ++ new)
    (tx : u.cpi.tetherTx = s.cpi.tetherTx) (side : u.cpi.lastSide = s.cpi.lastSide) :
    s.givesPages u.servePages.transmit new ∧
    u.servePages.transmit.flc = { u.flc with pages := u.servePages.transmit.flc.pages } := by
  obtain ⟨gone, rest, all, sent, wait, some, none⟩ := u.sendPages_eq u.flc.pages
  have serves : u.servePages = (u.linked (gone.map .page)).withFlc { u.flc with pages := rest } := sent
  have left : u.servePages.transmit.flc = { u.flc with pages := rest } := by rw [State.transmit_flc, serves]; rfl
  refine ⟨⟨gone, ?_, ?_, fun busy => ?_, fun free cpi waits => ?_, fun idle => ?_⟩, by rw [left]⟩
  · rw [State.transmit_sentFeed, serves]
    exact State.linked_sentFeed emitted _
  · rw [left, ← pages, all]
  · exact none (by rw [tx]; exact busy)
  · refine some ((Cpi.linkTakesFeed_iff _).mpr ⟨tx.trans free, .inl (side.trans cpi)⟩) ?_
    rw [pages]
    exact waits
  · rw [left]
    by_contra more
    have blocked := wait more
    rw [serves] at idle
    exact State.idle_takes (s := (u.linked (gone.map .page)).withFlc { u.flc with pages := rest }) idle blocked

/-- An arrival that gives agreement pages to the link, with its pool and its store shown. -/
theorem arrive_gives_shows {f : State → State} {bs : List Block} (hp : s.powered = true) (effect : f (s.withEmitted []) = u.servePages)
    (emitted : u.emitted = []) (hu : s.unchanged u bs) (flc : .flc ∈ bs) (pages : u.flc.pages = s.flc.pages ++ new)
    (tx : u.cpi.tetherTx = s.cpi.tetherTx) (side : u.cpi.lastSide = s.cpi.lastSide) :
    ∃ t, arrive s f = .next t ∧ s.givesPages t new ∧ t.flc = { u.flc with pages := t.flc.pages } ∧ t.spm = u.spm ∧ t.lsc = u.lsc ∧
      s.becomes t u.cpi bs := by
  obtain ⟨gone, rest, all, sent, -⟩ := u.sendPages_eq u.flc.pages
  have serves : u.servePages = (u.linked (gone.map .page)).withFlc { u.flc with pages := rest } := sent
  obtain ⟨siu, tsu, tcl, peu, spm, vwc, dou, -, lsc, powered, freeCount, pending⟩ := hu
  have hu' : s.unchanged u.servePages bs := by
    rw [serves]
    exact ⟨siu, tsu, tcl, peu, spm, vwc, dou, .inl flc, lsc, powered, freeCount, pending⟩
  obtain ⟨ht, becomes⟩ := arrive_leaves hp effect hu'
  obtain ⟨gives, left⟩ := State.servePages_gives emitted pages tx side
  refine ⟨_, ht, gives, left, ?_, ?_, becomes.1, ?_⟩
  · rw [State.transmit_spm, serves]
    rfl
  · rw [State.transmit_lsc, serves]
    rfl
  · have after := becomes.2
    rw [serves] at after ⊢
    exact after

/-- An arrival that gives agreement pages to the link. -/
theorem arrive_gives {f : State → State} {bs : List Block} (hp : s.powered = true) (effect : f (s.withEmitted []) = u.servePages)
    (emitted : u.emitted = []) (hu : s.unchanged u bs) (flc : .flc ∈ bs) (pages : u.flc.pages = s.flc.pages ++ new)
    (tx : u.cpi.tetherTx = s.cpi.tetherTx) (side : u.cpi.lastSide = s.cpi.lastSide) :
    ∃ t, arrive s f = .next t ∧ s.givesPages t new ∧ t.flc = { u.flc with pages := t.flc.pages } ∧ s.becomes t u.cpi bs := by
  obtain ⟨t, ht, gives, left, -, -, becomes⟩ := arrive_gives_shows hp effect emitted hu flc pages tx side
  exact ⟨t, ht, gives, left, becomes⟩

end Pages
end Sys2Proof.Machine

namespace Sys2Proof.Machine

/-! ### The resolution of an agreement (07 R107) -/

/-- The highest format that an offer names. -/
theorem BaseOffer.highest_eq {o : BaseOffer} {f : Nat} (hf : f < 8) (bit : o.formats.getLsbD f = true)
    (top : ∀ g, f < g → o.formats.getLsbD g = false) : BaseOffer.highest o = some f := by
  unfold BaseOffer.highest
  generalize o.formats.getLsbD = bits at *
  interval_cases f <;> simp [bit, top]

theorem BaseOffer.highest_none {o : BaseOffer} (none : o.formats = 0) : BaseOffer.highest o = Option.none := by
  unfold BaseOffer.highest
  rw [none]
  rfl

theorem Flc.rateOf_eq (f : Flc) (format : Nat) :
    f.rateOf format = f.rateLimit.elim (feedFormat format).2.2 fun r => min (feedFormat format).2.2 r := by
  unfold Flc.rateOf
  cases f.rateLimit <;> rfl

section Resolve
variable {s : State} {o : BaseOffer}

/-- The flow of an agreement that is resolved to a format. -/
def Flc.risen (f : Flc) (format : Nat) : Flc :=
  { f with
    agreement := .feedUp, restartCount := 0, pageTimer := none, due := true, intervalTimer := none,
    result := some { format := format, rate := (f.rateLimit.elim (feedFormat format).2.2 fun r => min (feedFormat format).2.2 r),
                     crop := f.cropAgreed, exporting := f.exportAgreed } }

theorem State.resolve_up {f : Nat} (partner : s.flc.partner = some o) (hf : f < 8) (bit : o.formats.getLsbD f = true)
    (top : ∀ g, f < g → o.formats.getLsbD g = false) : s.resolve = (s.withFlc (s.flc.risen f)).raise .feedUp := by
  rw [State.resolve, partner, Option.bind_some, BaseOffer.highest_eq hf bit top]
  dsimp only
  rw [State.feedUp, Flc.rateOf_eq]
  rfl

/-- The base offer that says that no format is common. -/
def Flc.refusal (f : Flc) : BaseOffer := f.offer true .refused

/-- The flow of an agreement without a common format. -/
def Flc.fallen (f : Flc) : Flc :=
  { f with agreement := .feedDown, pageTimer := none, result := none, pages := f.pages ++ [.base f.refusal] }

theorem State.resolve_down (partner : s.flc.partner = some o) (none : o.formats = 0) :
    s.resolve = (s.withFlc s.flc.fallen).raise .noCommonFormat := by
  rw [State.resolve, partner, Option.bind_some, BaseOffer.highest_none none]
  rfl

end Resolve

/-! ### The base exchange (07 R104) -/

theorem not_isEmpty_tail {α : Type} (l : List α) : (!l.tail.isEmpty) = decide (1 < l.length) := by
  rcases l with _ | ⟨a, _ | ⟨b, l⟩⟩ <;> simp

section Base
variable {s : State} {o : BaseOffer}

/-- The part's base offer that acknowledges. -/
def State.ownOffer (s : State) : BaseOffer :=
  { formats := 0xFF, nextPage := !s.flc.latched.isEmpty, ack := true, fault := .noFault, restart := false }

/-- The first note page. -/
def Flc.firstNote (f : Flc) : NotePage :=
  let pages := f.latched.flatMap Note.pages
  let first := pages.headD { kind := .message, code := 1 }
  { nextPage := decide (1 < pages.length), ack := true, kind := first.kind, ack2 := false, toggle := true, code := first.code }

/-- The flow of a note exchange once its first page was sent. -/
def State.noting (s : State) : Flc :=
  { s.flc with
    bridgeToggle := false, expectRate := false, agreement := .noteExchange, pageTimer := s.pageTimerAnew,
    unsent := (s.flc.latched.flatMap Note.pages).tail, lastPage := some s.flc.firstNote,
    pages := s.flc.pages ++ [.note s.flc.firstNote] }

/-- With notes on either side the first note page goes. -/
theorem State.baseComplete_notes (partner : s.flc.partner = some o) (notes : ¬ (s.flc.latched = [] ∧ o.nextPage = false)) :
    s.baseComplete = s.withFlc s.noting := by
  have more : (!s.flc.latched.isEmpty || (s.flc.partner.map (·.nextPage)).getD false) = true := by
    rw [partner]
    simp only [Option.map_some, Option.getD_some, Bool.or_eq_true, Bool.not_eq_true', List.isEmpty_eq_false_iff]
    by_contra none
    rw [not_or, not_not, Bool.not_eq_true] at none
    exact notes none
  have page : s.flc.freshExchange.buildPage false = s.flc.firstNote := by
    rw [Flc.buildPage, not_isEmpty_tail]
    rfl
  rw [State.baseComplete, if_pos more]
  have built : (s.withFlc { s.flc.freshExchange with agreement := .noteExchange }).flc.buildPage false = s.flc.firstNote := page
  rw [State.sendNote, built]
  rfl

/-- Without any the agreement is resolved. -/
theorem State.baseComplete_quiet (partner : s.flc.partner = some o) (quiet : s.flc.latched = [] ∧ o.nextPage = false) :
    s.baseComplete = s.resolve := by
  have none : ¬ (!s.flc.latched.isEmpty || (s.flc.partner.map (·.nextPage)).getD false) = true := by
    rw [partner, quiet.1]
    simp [quiet.2]
  rw [State.baseComplete, if_neg none]

/-- What an offer that acknowledges is answered with. -/
def State.acknowledged (s : State) : List AgreementPage := if s.flc.agreement = .ackSeen then [] else [.base s.ownOffer]

/-- The flow with an offer stored and answered. -/
def State.partnered (s : State) (o : BaseOffer) (sent : List AgreementPage) (timer : Option Timer) : State :=
  s.withFlc { s.flc with partner := some o, pages := s.flc.pages ++ sent, pageTimer := timer }

theorem State.baseOffer_ack (clean : o.fault = .noFault) (during : s.flc.agreement ∈ [Agreement.offering, .ackSeen, .noteExchange])
    (ack : o.ack = true) : ∃ timer, s.baseOffer o = (s.partnered o s.acknowledged timer).baseComplete := by
  have take : s.takeOffer o = (s.partnered o [.base s.ownOffer] s.pageTimerAnew).baseComplete := if_pos ack
  simp only [List.mem_cons, List.not_mem_nil, or_false] at during
  unfold State.baseOffer State.acknowledged
  rcases during with e | e | e
  · exact ⟨s.pageTimerAnew, by rw [e]; exact (if_pos clean).trans take⟩
  · refine ⟨s.flc.pageTimer, ?_⟩
    rw [e, if_pos rfl, State.partnered, List.append_nil]
    exact (if_pos clean).trans (if_pos ack)
  · exact ⟨s.pageTimerAnew, by rw [e]; exact (if_pos clean).trans take⟩

/-- The flow of an offer that does not acknowledge. -/
def State.ackWaits (s : State) (o : BaseOffer) : Flc :=
  { s.flc with
    partner := some o, unsent := s.flc.latched.flatMap Note.pages, lastPage := none, bridgeToggle := false, expectRate := false,
    agreement := .ackSeen, pageTimer := s.pageTimerAnew, pages := s.flc.pages ++ [.base s.ownOffer] }

theorem State.baseOffer_noAck (clean : o.fault = .noFault) (during : s.flc.agreement ∈ [Agreement.offering, .ackSeen, .noteExchange])
    (ack : o.ack = false) : s.baseOffer o = s.withFlc (s.ackWaits o) := by
  have no : ¬ o.ack = true := by rw [ack]; exact Bool.false_ne_true
  have take : s.takeOffer o = s.withFlc (s.ackWaits o) := if_neg no
  simp only [List.mem_cons, List.not_mem_nil, or_false] at during
  unfold State.baseOffer
  rcases during with e | e | e
  · rw [e]; exact (if_pos clean).trans take
  · rw [e]; exact (if_pos clean).trans ((if_neg no).trans take)
  · rw [e]; exact (if_pos clean).trans take

/-- The effect of BASE_OFFER after the hand-over. -/
theorem State.offerArrives_started (started : s.flc.started = true) (o : BaseOffer) : s.offerArrives o = (s.baseOffer o).servePages :=
  if_pos started

end Base

/-- Settles O44: along the offer's acknowledge flag and the notes of either side. -/
theorem baseOffersAnswered : Obligations.BaseOffersAnswered := by
  intro s o hp started clean during own pages first note held fresh sent quiet
  have effect := State.offerArrives_started (s := s.withEmitted []) started o
  refine ⟨fun ack => ?_, fun ack notes => ?_, fun f ack none hf bit top => ?_, fun ack none formats => ?_⟩
  · have answer := State.baseOffer_noAck (s := s.withEmitted []) clean during ack
    obtain ⟨t, ht, gives, flc, becomes⟩ := arrive_gives (new := [.base own]) hp (effect.trans (congrArg _ answer)) rfl
      (bs := [.flc]) State.unchanged_by (by decide) rfl rfl rfl
    exact ⟨t, ht, gives, flc, becomes⟩
  all_goals obtain ⟨timer, answer⟩ := State.baseOffer_ack (s := s.withEmitted []) clean during ack
  · have complete := answer.trans (State.baseComplete_notes (s := (s.withEmitted []).partnered o _ timer) rfl notes)
    obtain ⟨t, ht, gives, flc, becomes⟩ := arrive_gives (new := sent ++ [AgreementPage.note note]) hp (effect.trans (congrArg _ complete)) rfl
      (bs := [.flc]) State.unchanged_by (by decide) (List.append_assoc s.flc.pages sent [.note note]) rfl rfl
    exact ⟨t, ht, gives, flc, becomes⟩
  · have complete := (answer.trans (State.baseComplete_quiet (s := (s.withEmitted []).partnered o _ timer) rfl none)).trans
      (State.resolve_up (o := o) rfl hf bit top)
    obtain ⟨t, ht, gives, flc, becomes⟩ := arrive_gives (new := sent) hp (effect.trans (congrArg _ complete)) rfl
      (bs := [.flc]) State.unchanged_by (by decide) rfl rfl rfl
    exact ⟨t, ht, gives, flc, becomes⟩
  · have complete := (answer.trans (State.baseComplete_quiet (s := (s.withEmitted []).partnered o _ timer) rfl none)).trans
      (State.resolve_down (o := o) rfl formats)
    obtain ⟨t, ht, gives, flc, becomes⟩ := arrive_gives (new := sent ++ [AgreementPage.base s.flc.refusal]) hp (effect.trans (congrArg _ complete)) rfl
      (bs := [.flc]) State.unchanged_by (by decide) (List.append_assoc s.flc.pages sent _) rfl rfl
    exact ⟨t, _, ht, gives, rfl, flc, becomes⟩

end Sys2Proof.Machine

namespace Sys2Proof.Machine

/-! ### What a bridge page says (07 R106) -/

section Note
variable (f : Flc)

/-- The flow with what a page agrees to: further rate limits, the crop, the sending of pages. -/
def Flc.learns (f : Flc) (rates : List Nat) (crop exporting : Bool) : Flc :=
  { f with
    rateLimit := (f.rateLimit.toList ++ rates).min?, cropAgreed := f.cropAgreed || crop,
    exportAgreed := f.exportAgreed || exporting }

theorem toList_min? (a : Option Nat) : a.toList.min? = a := by cases a <;> rfl

theorem min?_toList_append (a : List Nat) (r : List Nat) (h : r.length ≤ 1) : (a.min?.toList ++ r).min? = (a ++ r).min? := by
  match r, h with
  | [], _ => rw [List.append_nil, List.append_nil, toList_min?]
  | [x], _ =>
    cases a with
    | nil => rfl
    | cons y a => rw [List.cons_append, List.min?_cons', List.min?_cons', List.foldl_append]; rfl

theorem Flc.learns_nothing : f.learns [] false false = f := by
  rw [Flc.learns, List.append_nil, toList_min?, Bool.or_false, Bool.or_false]

theorem Flc.learns_rate (r : Nat) : f.learns [r] false false = f.limitRate r := by
  rw [Flc.learns, Bool.or_false, Bool.or_false, Flc.limitRate]
  cases f.rateLimit <;> rfl

theorem Flc.learns_crop : f.learns [] true false = { f with cropAgreed := true } := by
  rw [Flc.learns, List.append_nil, toList_min?, Bool.or_false, Bool.or_true]

theorem Flc.learns_exporting : f.learns [] false true = { f with exportAgreed := true } := by
  rw [Flc.learns, List.append_nil, toList_min?, Bool.or_false, Bool.or_true]

/-- What is learnt twice. -/
theorem Flc.learns_learns (a b : List Nat) (c c' x x' : Bool) (h : b.length ≤ 1) :
    (f.learns a c x).learns b c' x' = f.learns (a ++ b) (c || c') (x || x') := by
  rw [Flc.learns, Flc.learns, Flc.learns, min?_toList_append _ _ h, List.append_assoc, Bool.or_assoc, Bool.or_assoc]

theorem plain_beq_message : (NoteKind.plain == NoteKind.message) = false := rfl

theorem message_beq_plain : (NoteKind.message == NoteKind.plain) = false := rfl

theorem code_eq_iff (c : BitVec 11) {n : Nat} (h : n < 2048) : (c.toNat == n) = decide (c = BitVec.ofNat 11 n) := by
  rw [Bool.eq_iff_iff]
  simp only [beq_iff_eq, decide_eq_true_eq, BitVec.toNat_eq, BitVec.toNat_ofNat]
  omega

/-- Whether the bridge's answer agrees to the part's page before it, and that page says this. -/
def Flc.agrees (f : Flc) (ack2 : Bool) (kind : NoteKind) (code : Nat) : Bool := ack2 && (match f.lastPage with
  | some q => q.kind == kind && (kind == .plain || q.code.toNat == code)
  | none => false)

/-- The rate that the bridge's answer agrees to. -/
def Flc.agreedRate (f : Flc) (ack2 : Bool) : List Nat :=
  if f.agrees ack2 .plain 0 then f.lastPage.toList.map fun q => q.code.toNat else []

/-- What the bridge's answer to the part's page before it brings about. -/
theorem Flc.hear_eq (ack2 : Bool) :
    f.hear ack2 = f.learns (f.agreedRate ack2) (f.agrees ack2 .message 3) (f.agrees ack2 .message 4) := by
  unfold Flc.hear Flc.agreedRate Flc.agrees
  cases f.lastPage with
  | none => simp [Flc.learns_nothing]
  | some q =>
    cases ack2 with
    | false => simp [Flc.learns_nothing]
    | true =>
      unfold Flc.agree
      cases kind : q.kind with
      | plain => simp [kind, plain_beq_message, Flc.learns_rate]
      | message =>
        simp only [code_eq_iff q.code (show 3 < 2048 by decide), code_eq_iff q.code (show 4 < 2048 by decide)]
        by_cases three : q.code = 3#11
        · simp [kind, message_beq_plain, three, Flc.learns_crop]
        · by_cases four : q.code = 4#11
          · simp [kind, message_beq_plain, four, Flc.learns_exporting]
          · simp [kind, message_beq_plain, three, four, Flc.learns_nothing]

/-- Whether a page is a message of a code. -/
def pageTells (p : NotePage) (code : Nat) : Bool := p.kind == .message && p.code.toNat == code

/-- Whether a page is the rate that the message before it announced. -/
def Flc.rates (f : Flc) (p : NotePage) : Bool :=
  p.kind == .plain && f.expectRate && decide (1 ≤ p.code.toNat) && decide (p.code.toNat ≤ 60)

/-- The rate that a page gives. -/
def Flc.givenRate (f : Flc) (p : NotePage) : List Nat := if f.rates p then [p.code.toNat] else []

theorem Flc.givenRate_length (p : NotePage) : (f.givenRate p).length ≤ 1 := by
  unfold Flc.givenRate
  split <;> simp

/-- Whether the part's answer agrees to a page. -/
def Flc.answers (f : Flc) (p : NotePage) : Bool :=
  pageTells p 1 || pageTells p 2 || pageTells p 3 || pageTells p 4 || f.rates p

/-- What the contents of a new bridge page bring about, and whether the part's answer agrees to them. -/
theorem Flc.takeNote_eq (p : NotePage) : f.takeNote p =
    ({ f with expectRate := pageTells p 2 }.learns (f.givenRate p) (pageTells p 3) (pageTells p 4), f.answers p) := by
  unfold Flc.takeNote Flc.answers Flc.givenRate Flc.rates pageTells
  cases kind : p.kind with
  | message =>
    simp only [code_eq_iff p.code (show 1 < 2048 by decide), code_eq_iff p.code (show 2 < 2048 by decide),
      code_eq_iff p.code (show 3 < 2048 by decide), code_eq_iff p.code (show 4 < 2048 by decide)]
    by_cases one : p.code = 1#11
    · simp [message_beq_plain, one, Flc.learns_nothing]
    by_cases two : p.code = 2#11
    · simp [message_beq_plain, two, Flc.learns_nothing]
    by_cases three : p.code = 3#11
    · simp [message_beq_plain, three, Flc.learns_crop]
    by_cases four : p.code = 4#11
    · simp [message_beq_plain, four, Flc.learns_exporting]
    · simp [message_beq_plain, one, two, three, four, Flc.learns_nothing]
  | plain =>
    by_cases rate : f.expectRate ∧ 1 ≤ p.code.toNat ∧ p.code.toNat ≤ 60
    · obtain ⟨expect, low, high⟩ := rate
      simp [plain_beq_message, expect, low, high, Flc.learns_rate]
    · have none : (f.expectRate && decide (1 ≤ p.code.toNat) && decide (p.code.toNat ≤ 60)) = false := by
        rw [← Bool.not_eq_true]
        simpa [and_assoc] using rate
      simp only [if_neg rate]
      simp [plain_beq_message, none, Flc.learns_nothing]

/-- The flow once a new bridge page was heard and taken. -/
def Flc.noted (f : Flc) (p : NotePage) : Flc :=
  { f with
    rateLimit := (f.rateLimit.toList ++ f.agreedRate p.ack2 ++ f.givenRate p).min?,
    cropAgreed := f.cropAgreed || f.agrees p.ack2 .message 3 || pageTells p 3,
    exportAgreed := f.exportAgreed || f.agrees p.ack2 .message 4 || pageTells p 4, expectRate := pageTells p 2, bridgeToggle := p.toggle }

theorem Flc.noted_eq (p : NotePage) :
    { ((f.hear p.ack2).takeNote p).1 with bridgeToggle := p.toggle } = f.noted p ∧ ((f.hear p.ack2).takeNote p).2 = f.answers p := by
  have given : (f.hear p.ack2).givenRate p = f.givenRate p := by rw [Flc.hear_eq]; rfl
  have both : ((f.hear p.ack2).takeNote p).1 = { f with expectRate := pageTells p 2 }.learns (f.agreedRate p.ack2 ++ f.givenRate p)
      (f.agrees p.ack2 .message 3 || pageTells p 3) (f.agrees p.ack2 .message 4 || pageTells p 4) := by
    rw [Flc.takeNote_eq, given, Flc.hear_eq]
    exact Flc.learns_learns { f with expectRate := pageTells p 2 } _ _ _ _ _ _ (f.givenRate_length p)
  constructor
  · rw [both, Flc.learns, ← List.append_assoc, ← Bool.or_assoc, ← Bool.or_assoc]
    rfl
  · rw [Flc.takeNote_eq, Flc.hear_eq]
    rfl

/-- The part's answer to a new bridge page. -/
def Flc.answer (f : Flc) (p : NotePage) : NotePage :=
  let next := f.unsent.headD { kind := .message, code := 1 }
  { nextPage := decide (1 < f.unsent.length), ack := true, kind := next.kind, ack2 := f.answers p,
    toggle := (f.lastPage.elim true fun q => !q.toggle), code := next.code }

/-- The flow once it was answered. -/
def Flc.answered (f : Flc) (p : NotePage) : Flc :=
  { f.noted p with unsent := f.unsent.tail, lastPage := some (f.answer p), pages := f.pages ++ [.note (f.answer p)] }

theorem Flc.buildPage_noted (p : NotePage) : (f.noted p).buildPage (f.answers p) = f.answer p := by
  have toggle : (match f.lastPage with
      | none => true
      | some q => !q.toggle) = f.lastPage.elim true fun q => !q.toggle := by cases f.lastPage <;> rfl
  have last : (f.noted p).lastPage = f.lastPage := rfl
  rw [Flc.buildPage, not_isEmpty_tail, last, Flc.answer, ← toggle] <;> rfl

end Note

section Exchange
variable {s : State} {p : NotePage}

/-- A new page of the bridge: its answer, and the resolution where neither side has more. -/
theorem State.newNote_eq (s : State) (p : NotePage) : s.newNote p =
    if !p.nextPage && !(s.flc.answer p).nextPage then (s.withFlc (s.flc.answered p)).resolve
    else (s.withFlc (s.flc.answered p)).startPageTimer := by
  obtain ⟨noted, agrees⟩ := s.flc.noted_eq p
  unfold State.newNote
  dsimp only
  rw [noted, agrees]
  have page : ((s.withFlc (s.flc.noted p)).flc.buildPage (s.flc.answers p)) = s.flc.answer p := s.flc.buildPage_noted p
  rw [State.sendNote, page]
  rfl

theorem State.notePage_new (noting : s.flc.agreement = .noteExchange) (new : p.toggle ≠ s.flc.bridgeToggle) :
    s.notePage p = s.newNote p := by
  rw [State.notePage, noting]
  exact if_neg new

theorem State.notePage_again {q : NotePage} (noting : s.flc.agreement = .noteExchange) (same : p.toggle = s.flc.bridgeToggle)
    (last : s.flc.lastPage = some q) : s.notePage p = (s.queuePage (.note q)).startPageTimer := by
  rw [State.notePage, noting]
  refine (if_pos same).trans ?_
  rw [State.repeatNote, last]

theorem State.notePage_other (other : s.flc.agreement ≠ .noteExchange) : s.notePage p = s := by
  unfold State.notePage
  cases e : s.flc.agreement <;> first | rfl | exact absurd e other

/-- The effect of NOTE_PAGE after the hand-over. -/
theorem State.noteArrives_started (started : s.flc.started = true) (p : NotePage) : s.noteArrives p = (s.notePage p).servePages :=
  if_pos started

end Exchange

/-- Settles O45: along the exchange, the toggle of the page, and whether either side has more. -/
theorem notePagesAnswered : Obligations.NotePagesAnswered := by
  intro s p hp started mine tells rate limits next answer crop exporting taken
  have effect := State.noteArrives_started (s := s.withEmitted []) started p
  have mine_eq : s.flc.answer p = answer := rfl
  refine ⟨fun other => ?_, fun q noting same last => ?_, fun noting new more => ?_, fun o f noting new last quiet partner hf bit top => ?_,
    fun o noting new last quiet partner none => ?_⟩
  · have stays := State.notePage_other (s := s.withEmitted []) (p := p) other
    exact arrive_gives (u := s.withEmitted []) hp (effect.trans (congrArg _ stays)) rfl State.unchanged_by (by decide) (List.append_nil _).symm rfl rfl
  · have again := State.notePage_again (s := s.withEmitted []) noting same last
    exact arrive_gives (u := ((s.withEmitted []).queuePage (.note q)).startPageTimer) hp (effect.trans (congrArg _ again)) rfl
      State.unchanged_by (by decide) rfl rfl rfl
  all_goals have taken_eq := (State.notePage_new (s := s.withEmitted []) noting new).trans (State.newNote_eq _ p)
  · have goes : ¬ (!p.nextPage && !(s.flc.answer p).nextPage) = true := by
      rw [mine_eq]
      rcases more with e | e <;> simp [e]
    exact arrive_gives (u := ((s.withEmitted []).withFlc (s.flc.answered p)).startPageTimer) hp
      (effect.trans (congrArg _ (taken_eq.trans (if_neg goes)))) rfl State.unchanged_by (by decide) rfl rfl rfl
  all_goals have ends : (!p.nextPage && !(s.flc.answer p).nextPage) = true := by rw [mine_eq, last, quiet]; rfl
  · have resolved := (taken_eq.trans (if_pos ends)).trans (State.resolve_up (o := o) partner hf bit top)
    obtain ⟨t, ht, gives, flc, becomes⟩ := arrive_gives (new := [.note answer]) hp (effect.trans (congrArg _ resolved)) rfl
      (bs := [.flc]) State.unchanged_by (by decide) rfl rfl rfl
    exact ⟨t, ht, gives, flc, becomes⟩
  · have resolved := (taken_eq.trans (if_pos ends)).trans
      (State.resolve_down (s := (s.withEmitted []).withFlc (s.flc.answered p)) (o := o) partner none)
    obtain ⟨t, ht, gives, flc, becomes⟩ := arrive_gives
      (u := ((s.withEmitted []).withFlc (s.flc.answered p).fallen).raise .noCommonFormat)
      (new := [.note answer, .base (s.flc.answered p).refusal]) hp (effect.trans (congrArg _ resolved)) rfl
      (bs := [.flc]) State.unchanged_by (by decide) (List.append_assoc s.flc.pages [.note answer] [.base (s.flc.answered p).refusal]) rfl rfl
    exact ⟨t, _, ht, gives, rfl, flc, becomes⟩

end Sys2Proof.Machine

namespace Sys2Proof.Machine

/-! ### Timers of the feed (07 R108, R110; log 3, log 58) -/

section Expiries
variable {s : State} {timer : Option Timer} {put : Option Timer → State} {effect : State} {d n : Nat}

theorem State.expires_now (h : timer = running d 0) : s.expires timer put effect = effect := by
  subst h
  rfl

theorem State.expires_late (h : timer = running d (n + 1)) : s.expires timer put effect = put (running d n) := by
  subst h
  rfl

theorem State.expires_stopped (h : timer = none) : s.expires timer put effect = s := by
  subst h
  rfl

end Expiries

/-- An arrival that sends packets of the feed link controller. -/
theorem arrive_sends {s u : State} {f : State → State} {bs : List Block} {l : List FeedPacket} (hp : s.powered = true)
    (effect : f (s.withEmitted []) = u.linked l) (nothing : u.emitted = []) (hu : s.unchanged u bs) :
    ∃ t, arrive s f = .next t ∧ u.Shows t ∧ t.sentFeed l ∧ s.becomes t u.cpi bs := by
  obtain ⟨ht, becomes⟩ := arrive_leaves hp effect (bs := bs) hu
  refine ⟨_, ht, by constructor <;> simp <;> rfl, ?_, becomes⟩
  rw [State.transmit_sentFeed]
  exact State.linked_sentFeed nothing l

/-- An arrival that sends nothing of the feed link controller. -/
theorem arrive_silent {s u : State} {f : State → State} {bs : List Block} (hp : s.powered = true) (effect : f (s.withEmitted []) = u)
    (hu : s.unchanged u bs) (nothing : u.emitted = []) :
    ∃ t, arrive s f = .next t ∧ u.Shows t ∧ t.sentFeed [] ∧ s.becomes t u.cpi bs :=
  arrive_sends hp (effect.trans u.linked_nil.symm) nothing hu

section Timers
variable {s : State}

/-- The flow of an agreement that begins again. -/
def State.againOffering (s : State) : Flc :=
  let own : BaseOffer := { formats := 0xFF, nextPage := !s.flc.notes.isEmpty, ack := false, fault := .noFault, restart := false }
  { s.flc with
    agreement := .offering, restartCount := s.flc.restartCount + 1, partner := none, result := none,
    latched := s.flc.notes, unsent := s.flc.notes.flatMap Note.pages, lastPage := none, bridgeToggle := false,
    expectRate := false, rateLimit := none, cropAgreed := false, exportAgreed := false, pageTimer := s.pageTimerAnew,
    pages := s.flc.pages ++ [.base own] }

theorem State.pageExpired_again (h : s.flc.restartCount < 7) : s.pageExpired = s.withFlc s.againOffering := by
  rw [State.pageExpired]
  exact if_pos (by omega)

/-- The flow of a feed that has failed. -/
def Flc.failed (f : Flc) : Flc := { f with agreement := .feedFailed, restartCount := 8, pageTimer := none, result := none }

theorem State.pageExpired_fails (h : s.flc.restartCount = 7) : s.pageExpired = (s.withFlc s.flc.failed).raise .feedFailed := by
  rw [State.pageExpired]
  refine (if_neg (by omega)).trans ?_
  rw [Flc.failed, h]
  rfl

/-- The effect of PAGE_TIMER_EXPIRY. -/
def State.pageTimerExpires (s : State) : State :=
  s.expires s.flc.pageTimer (fun x => s.withFlc { s.flc with pageTimer := x }) s.pageExpired.servePages

/-- The effect of INTERVAL_TIMER_EXPIRY. -/
def State.intervalTimerExpires (s : State) : State :=
  s.expires s.flc.intervalTimer (fun x => s.withFlc { s.flc with intervalTimer := x }) s.intervalExpired

theorem State.intervalTimerExpires_now {d : Nat} (now : s.flc.intervalTimer = running d 0) : s.intervalTimerExpires = s.intervalExpired :=
  State.expires_now now

theorem State.intervalExpired_idle (none : s.flc.frame = none) :
    s.intervalExpired = s.withFlc { s.flc with due := true, intervalTimer := Option.none } := by
  rw [State.intervalExpired, none]

theorem State.intervalExpired_passed {f : FeedFrame} {d n : Nat} (frame : s.flc.frame = some f) (timer : s.flc.intervalTimer = running d n) :
    s.intervalExpired = (s.withFlc { s.flc with
      due := true, intervalTimer := running d (s.pending.count .intervalTimerExpiry) }).count .feedFramesPassedOver := by
  rw [State.intervalExpired, frame, timer]
  rfl

/-- Settles O46: timer by timer, along what an expiry can be. -/
theorem feedTimersExpire : Obligations.FeedTimersExpire := by
  intro s hp own
  refine ⟨fun d now few => ?_, fun d now seven => ?_, fun d now => ⟨fun none => ?_, fun f frame => ?_⟩, fun d n late => ?_,
    fun d n late => ?_, fun c stopped => ?_⟩
  · have effect : (s.withEmitted []).pageTimerExpires = ((s.withEmitted []).withFlc s.againOffering).servePages :=
      (State.expires_now now).trans (congrArg _ (State.pageExpired_again few))
    obtain ⟨t, ht, gives, flc, becomes⟩ := arrive_gives (f := State.pageTimerExpires) (new := [.base own]) hp effect rfl (bs := [.flc])
      State.unchanged_by (by decide) rfl rfl rfl
    exact ⟨t, ht, gives, flc, becomes⟩
  · have effect : (s.withEmitted []).pageTimerExpires = (((s.withEmitted []).withFlc s.flc.failed).raise .feedFailed).servePages :=
      (State.expires_now now).trans (congrArg _ (State.pageExpired_fails seven))
    obtain ⟨t, ht, gives, flc, becomes⟩ := arrive_gives (f := State.pageTimerExpires) (new := []) hp effect rfl (bs := [.flc])
      State.unchanged_by (by decide) (List.append_nil _).symm rfl rfl
    exact ⟨t, ht, gives, flc, becomes⟩
  · have effect : (s.withEmitted []).intervalTimerExpires = _ := (State.intervalTimerExpires_now (s := s.withEmitted []) now).trans (State.intervalExpired_idle (s := s.withEmitted []) none)
    obtain ⟨t, ht, shows, becomes⟩ := arrive_as (f := State.intervalTimerExpires) hp effect (bs := [.flc]) State.unchanged_by
    exact ⟨t, ht, shows.flc, becomes⟩
  · have effect : (s.withEmitted []).intervalTimerExpires = _ := (State.intervalTimerExpires_now (s := s.withEmitted []) now).trans (State.intervalExpired_passed (s := s.withEmitted []) frame now)
    obtain ⟨t, ht, shows, becomes⟩ := arrive_as (f := State.intervalTimerExpires) hp effect (bs := [.flc]) State.unchanged_by
    exact ⟨t, ht, shows.flc, becomes⟩
  · have effect : (s.withEmitted []).pageTimerExpires = (s.withEmitted []).withFlc { s.flc with pageTimer := running d n } :=
      State.expires_late late
    obtain ⟨t, ht, shows, sent, becomes⟩ := arrive_silent hp effect (bs := [.flc]) State.unchanged_by rfl
    exact ⟨t, ht, shows.flc, sent, becomes⟩
  · have effect : (s.withEmitted []).intervalTimerExpires = (s.withEmitted []).withFlc { s.flc with intervalTimer := running d n } :=
      State.expires_late late
    obtain ⟨t, ht, shows, sent, becomes⟩ := arrive_silent hp effect (bs := [.flc]) State.unchanged_by rfl
    exact ⟨t, ht, shows.flc, sent, becomes⟩
  · rcases stopped with ⟨rfl, none⟩ | ⟨rfl, none⟩
    · have effect : (s.withEmitted []).pageTimerExpires = s.withEmitted [] := State.expires_stopped none
      obtain ⟨t, ht, -, sent, becomes⟩ := arrive_silent hp effect (bs := []) State.unchanged_by rfl
      exact ⟨t, ht, sent, becomes⟩
    · have effect : (s.withEmitted []).intervalTimerExpires = s.withEmitted [] := State.expires_stopped none
      obtain ⟨t, ht, -, sent, becomes⟩ := arrive_silent hp effect (bs := []) State.unchanged_by rfl
      exact ⟨t, ht, sent, becomes⟩

end Timers
end Sys2Proof.Machine

namespace Sys2Proof.Machine

/-! ### Holds and cuts (07 R115, R116) -/

section Holds
variable {s : State} {f : FeedFrame} {c : Instr}

/-- The flow once a hold has ended. -/
def Flc.unheld (f : Flc) : Flc := { f with hold := none }

/-- The flow once a FRAME_END with CUT of a live frame has gone. -/
def Flc.flown (f : Flc) : Flc := { f with frame := none, buffer := [], allowanceTimer := none }

/-- The flow once the frame in flight is cut. -/
def Flc.withCut (f : Flc) (g : FeedFrame) : Flc := { f with buffer := [], frame := some { g with cut := true }, allowanceTimer := none }

/-- No FRAME_END with CUT waits without a cut frame. -/
theorem Flc.cutReady_uncut {f : Flc} (h : ∀ g, f.frame = some g → g.cut = false) : f.cutReady = false := by
  unfold Flc.cutReady
  split
  · rfl
  · next g frame => rw [h g frame]; rfl

/-- Nor in a hold. -/
theorem Flc.cutReady_held {f : Flc} (h : f.hold ≠ none) : f.cutReady = false := by
  unfold Flc.cutReady
  split
  · rfl
  · rw [Option.isNone_eq_false_iff.mpr (Option.isSome_iff_ne_none.mpr h), Bool.and_false]

/-- What a link is not free for waits. -/
theorem Cpi.linkTakesFeed_false {c : Cpi} (h : ¬ c.linkFree) : c.linkTakesFeed = false :=
  Bool.eq_false_iff.mpr (mt (Cpi.linkTakesFeed_iff c).mp h)

theorem State.releaseHold_waits (h : s.flc.unheld.cutReady = false ∨ s.cpi.linkTakesFeed = false) :
    s.releaseHold = s.withFlc s.flc.unheld :=
  State.sendCutEnd_waits (s := s.withFlc s.flc.unheld) h

theorem State.releaseHold_live {n : Nat} (frame : s.flc.frame = some f) (cut : f.cut = true) (live : f.kind = .live n)
    (takes : s.cpi.linkTakesFeed = true) : s.releaseHold = (s.withFlc s.flc.unheld.flown).linked f.cutPackets :=
  State.sendCutEnd_live (s := s.withFlc s.flc.unheld) frame cut live rfl takes

/-- The state once the frame in flight is cut, before its FRAME_END goes. -/
def State.frameCut (s : State) (f : FeedFrame) : State :=
  { s with flc := s.flc.withCut f, spm := s.spm.removeKind .feed, cpi := s.cpi.count .feedFramesCut }

theorem State.cutFrame_eq (frame : s.flc.frame = some f) : s.cutFrame = (s.frameCut f).sendCutEnd := by
  rw [State.cutFrame, frame]
  rfl

/-- The effect of ALLOWANCE_TIMER_EXPIRY. -/
def State.allowanceExpires (s : State) : State :=
  s.expires s.flc.allowanceTimer (fun x => s.withFlc { s.flc with allowanceTimer := x }) s.cutFrame

/-- The effect of HOLD_TIMER_EXPIRY. -/
def State.holdExpires (s : State) : State :=
  s.expires s.flc.hold (fun x => s.withFlc { s.flc with hold := x }) s.releaseHold

theorem State.allowanceExpires_now {r : Nat} (now : s.flc.allowanceTimer = running r 0) : s.allowanceExpires = s.cutFrame :=
  State.expires_now now

theorem State.holdExpires_now {d : Nat} (now : s.flc.hold = running d 0) : s.holdExpires = s.releaseHold :=
  State.expires_now now

/-- What the end of a hold does, whatever ends it. -/
theorem releases {g : State → State} (hp : s.powered = true) (effect : g (s.withEmitted []) = (s.withEmitted []).releaseHold) :
    ((∀ f, s.flc.frame = some f → f.cut = false) → ∃ t, arrive s g = .next t ∧ t.sentFeed [] ∧
      t.flc = s.flc.unheld ∧ s.becomes t s.cpi [.flc]) ∧
    (∀ f, s.flc.frame = some f → f.cut = true → ¬ s.cpi.linkFree → ∃ t, arrive s g = .next t ∧ t.sentFeed [] ∧
      t.flc = s.flc.unheld ∧ s.becomes t s.cpi [.flc]) ∧
    (∀ f n, s.flc.frame = some f → f.cut = true → f.kind = .live n → s.cpi.linkFree → ∃ t, arrive s g = .next t ∧
      t.sentFeed f.cutPackets ∧ t.flc = s.flc.unheld.flown ∧ s.becomes t s.cpi [.flc]) := by
  refine ⟨fun uncut => ?_, fun f _ _ busy => ?_, fun f n frame cut live free => ?_⟩
  · have waits := effect.trans (State.releaseHold_waits (s := s.withEmitted []) (.inl (Flc.cutReady_uncut uncut)))
    obtain ⟨t, ht, shows, sent, becomes⟩ := arrive_silent hp waits (bs := [.flc]) State.unchanged_by rfl
    exact ⟨t, ht, sent, shows.flc, becomes⟩
  · have waits := effect.trans (State.releaseHold_waits (s := s.withEmitted []) (.inr (Cpi.linkTakesFeed_false busy)))
    obtain ⟨t, ht, shows, sent, becomes⟩ := arrive_silent hp waits (bs := [.flc]) State.unchanged_by rfl
    exact ⟨t, ht, sent, shows.flc, becomes⟩
  · have goes := effect.trans (State.releaseHold_live (s := s.withEmitted []) frame cut live ((Cpi.linkTakesFeed_iff _).mpr free))
    obtain ⟨t, ht, shows, sent, becomes⟩ := arrive_sends hp goes rfl (bs := [.flc]) State.unchanged_by
    exact ⟨t, ht, sent, shows.flc, becomes⟩

/-- Settles O47: what ends a hold, what a cut does, and what an expiry can be. -/
theorem holdsAndCuts : Obligations.HoldsAndCuts := by
  intro s hp start counted released
  refine ⟨fun d some => ?_, releases (g := fun s => s.takeHold 0) hp (if_pos rfl),
    fun d now => releases (g := State.holdExpires) hp (State.holdExpires_now (s := s.withEmitted []) now),
    fun f r now frame blocked => ?_, fun f r n now frame hold live free => ?_, fun d n late => ?_, fun d n late => ?_,
    fun c stopped => ?_⟩
  · have effect : (s.withEmitted []).takeHold d = (s.withEmitted []).withFlc
        { s.flc with hold := running (max 16 d.toNat) (s.pending.count .holdTimerExpiry) } := if_neg some
    obtain ⟨t, ht, shows, sent, becomes⟩ := arrive_silent (f := fun s => s.takeHold d) hp effect (bs := [.flc]) State.unchanged_by rfl
    exact ⟨t, ht, sent, shows.flc, becomes⟩
  · have waits : ((s.withEmitted []).frameCut f).sendCutEnd = (s.withEmitted []).frameCut f :=
      State.sendCutEnd_waits (blocked.imp Flc.cutReady_held Cpi.linkTakesFeed_false)
    have effect := ((State.allowanceExpires_now (s := s.withEmitted []) now).trans
      (State.cutFrame_eq (s := s.withEmitted []) frame)).trans waits
    obtain ⟨t, ht, shows, sent, becomes⟩ := arrive_silent (f := State.allowanceExpires) hp effect (bs := [.flc, .spm])
      State.unchanged_by rfl
    exact ⟨t, ht, sent, shows.flc, shows.spm, becomes⟩
  · have goes := State.sendCutEnd_live (s := (s.withEmitted []).frameCut f) (f := { f with cut := true }) rfl rfl live hold
      ((Cpi.linkTakesFeed_iff _).mpr free)
    have effect := ((State.allowanceExpires_now (s := s.withEmitted []) now).trans
      (State.cutFrame_eq (s := s.withEmitted []) frame)).trans goes
    obtain ⟨t, ht, shows, sent, becomes⟩ := arrive_sends (f := State.allowanceExpires) (l := f.cutPackets)
      (u := ((s.withEmitted []).frameCut f).withFlc (s.flc.withCut f).flown) hp effect rfl (bs := [.flc, .spm]) State.unchanged_by
    exact ⟨t, ht, sent, shows.flc, shows.spm, becomes⟩
  · have effect : (s.withEmitted []).holdExpires = (s.withEmitted []).withFlc { s.flc with hold := running d n } :=
      State.expires_late late
    obtain ⟨t, ht, shows, sent, becomes⟩ := arrive_silent hp effect (bs := [.flc]) State.unchanged_by rfl
    exact ⟨t, ht, shows.flc, sent, becomes⟩
  · have effect : (s.withEmitted []).allowanceExpires = (s.withEmitted []).withFlc { s.flc with allowanceTimer := running d n } :=
      State.expires_late late
    obtain ⟨t, ht, shows, sent, becomes⟩ := arrive_silent hp effect (bs := [.flc]) State.unchanged_by rfl
    exact ⟨t, ht, shows.flc, sent, becomes⟩
  · rcases stopped with ⟨rfl, none⟩ | ⟨rfl, none⟩
    · have effect : (s.withEmitted []).holdExpires = s.withEmitted [] := State.expires_stopped none
      obtain ⟨t, ht, -, sent, becomes⟩ := arrive_silent hp effect (bs := []) State.unchanged_by rfl
      exact ⟨t, ht, sent, becomes⟩
    · have effect : (s.withEmitted []).allowanceExpires = s.withEmitted [] := State.expires_stopped none
      obtain ⟨t, ht, -, sent, becomes⟩ := arrive_silent hp effect (bs := []) State.unchanged_by rfl
      exact ⟨t, ht, sent, becomes⟩

end Holds
end Sys2Proof.Machine

namespace Sys2Proof.Machine

/-! ### Feed frames (07 R111 to R113) -/

section FeedFrames
variable {s : State} {r : AgreementResult}

theorem Spm.latestFrame_live {p : Spm} {n f : Nat} (here : p.find .latest = some n) (live : (p.slot n).content = .liveFrame f) :
    p.latestFrame = some f := by
  rw [Spm.latestFrame, here]
  dsimp only
  rw [live]

/-- The frame that LATEST names, read back. -/
theorem Spm.live_of_latestFrame {p : Spm} {n f : Nat} (here : p.find .latest = some n) (h : p.latestFrame = some f) :
    (p.slot n).content = .liveFrame f := by
  rw [Spm.latestFrame, here] at h
  dsimp only at h
  split at h
  · next live => rw [live, Option.some.inj h]
  · exact nomatch h

/-- A LATEST frame newer than the last fed. -/
theorem State.newerFrame_some {n f : Nat} (here : s.spm.find .latest = some n) (live : (s.spm.slot n).content = .liveFrame f)
    (newer : s.flc.lastFed < f) : s.newerFrame = some (n, f) := by
  rw [State.newerFrame, here, Spm.latestFrame_live here live]
  exact if_pos newer

/-- No such frame. -/
theorem State.newerFrame_none
    (old : ∀ n f, s.spm.find .latest = some n → (s.spm.slot n).content = .liveFrame f → f ≤ s.flc.lastFed) : s.newerFrame = none := by
  unfold State.newerFrame
  split
  · next n f here frame => exact if_neg (Nat.not_lt.mpr (old n f here (Spm.live_of_latestFrame here frame)))
  · rfl

/-- What has to hold for a feed frame to start (07 R111). -/
structure State.StartsDue (s : State) (r : AgreementResult) : Prop where
  up : s.flc.agreement = .feedUp
  result : s.flc.result = some r
  idle : s.flc.frame = none
  due : s.flc.due = true

theorem State.startFeedFrame_exported {e : ExportFrame} (h : s.StartsDue r) (waits : s.flc.exportFrame = some e) :
    s.startFeedFrame = s.withFlc (s.launch r (exportedFrame s.flc.marks e)) := by
  simp only [State.startFeedFrame, h.up, h.result, h.idle, h.due, waits]

theorem State.startFeedFrame_live {n f : Nat} (h : s.StartsDue r) (none : s.flc.exportFrame = none) (newer : s.newerFrame = some (n, f)) :
    s.startFeedFrame =
      (s.withFlc { s.launch r (liveFrame r s.flc.marks s.vwc.window n f) with lastFed := f }).withSpm (s.spm.place n .feed) := by
  simp only [State.startFeedFrame, h.up, h.result, h.idle, h.due, none, newer]

theorem State.startFeedFrame_none (h : s.StartsDue r) (none : s.flc.exportFrame = none) (old : s.newerFrame = Option.none) :
    s.startFeedFrame = s := by
  simp only [State.startFeedFrame, h.up, h.result, h.idle, h.due, none, old]

/-- Settles O48: an EXPORT frame, a live frame, or none. -/
theorem feedFramesStart : Obligations.FeedFramesStart := by
  intro s r hp up result idle due
  have h : (s.withEmitted []).StartsDue r := ⟨up, result, idle, due⟩
  refine ⟨fun e waits => ?_, fun n f none here live newer => ?_, fun none old => ?_⟩
  · obtain ⟨t, ht, shows, becomes⟩ := arrive_as hp (State.startFeedFrame_exported h waits) (bs := [.flc]) State.unchanged_by
    exact ⟨t, ht, shows.flc, becomes⟩
  · have newest := State.newerFrame_some (s := s.withEmitted []) here live newer
    obtain ⟨t, ht, shows, becomes⟩ := arrive_as hp (State.startFeedFrame_live h none newest) (bs := [.flc, .spm]) State.unchanged_by
    exact ⟨t, ht, shows.flc, shows.spm, becomes⟩
  · have effect := State.startFeedFrame_none h none (State.newerFrame_none (s := s.withEmitted []) old)
    obtain ⟨t, ht, -, becomes⟩ := arrive_as hp effect (bs := []) State.unchanged_by
    exact ⟨t, ht, becomes⟩

end FeedFrames

/-! ### Feed lines (07 R113, R114) -/

section FeedLines
variable {s : State} {f : FeedFrame}

/-- The CUT bit is that of a FRAME_END with CUT. -/
theorem FeedPacket.cut_iff (p : FeedPacket) : p.cut = true ↔ p = .frameEnd true := by
  cases p <;> simp [FeedPacket.cut]

/-- The two low bits of a packet's first byte. -/
theorem headerBits (spare : BitVec 6) (odd cut : Bool) :
    (spare ++ BitVec.ofBool odd ++ BitVec.ofBool cut).getLsbD 0 = cut ∧ (spare ++ BitVec.ofBool odd ++ BitVec.ofBool cut).getLsbD 1 = odd := by
  simp only [BitVec.getLsbD_append]
  simp

theorem FeedFrame.afterProduced_eq (f : FeedFrame) (occupancy : Nat) : f.afterProduced occupancy =
    { f with
      produced := f.produced + 1, stopped := decide (f.marks.high ≤ occupancy),
      sending := f.sending || decide (f.marks.start ≤ occupancy ∨ f.produced + 1 = f.height) } := by
  rw [FeedFrame.afterProduced, Bool.decide_or, Bool.or_assoc]

/-- The state after a line is produced. -/
def State.lineMade (s : State) (f : FeedFrame) : State :=
  { s with
    flc := { s.flc with
      buffer := s.flc.buffer ++ [f.line (s.spm.slot f.slot).picture f.produced],
      frame := some (f.afterProduced (s.flc.buffer.length + 1)) },
    spm := if f.produced + 1 = f.height then s.spm.removeKind .feed else s.spm }

theorem State.produceLine_makes (frame : s.flc.frame = some f) (cut : f.cut = false) (flows : f.stopped = false)
    (more : f.produced < f.height) : s.produceLine = s.lineMade f := by
  have produces : f.produces = true := by simp [FeedFrame.produces, cut, flows, more]
  rw [State.produceLine, frame]
  dsimp only
  rw [if_pos produces, State.lineMade]
  split <;> rfl

theorem State.produceLine_stopped (frame : s.flc.frame = some f) (h : f.stopped = true ∨ f.height ≤ f.produced) :
    s.produceLine = s := by
  have idles : ¬ f.produces = true := by
    rcases h with stopped | all
    · simp [FeedFrame.produces, stopped]
    · simp [FeedFrame.produces, Nat.not_lt.mpr all]
  rw [State.produceLine, frame]
  exact if_neg idles

/-- The effect of FEED_LINE_SENT. -/
def State.lineMaySend (s : State) : State := if s.cpi.tetherTx.isNone then s.lineGoes else s

theorem State.lineGoes_goes {l : FeedLine} {rest : List FeedLine} (frame : s.flc.frame = some f) (cut : f.cut = false)
    (held : s.flc.buffer = l :: rest) (sending : f.sending = true) (hold : s.flc.hold = none) : s.lineGoes = s.sendLine f l rest := by
  have ready : s.flc.lineReady = true := by rw [Flc.lineReady, frame]; simp [sending, cut, held, hold]
  rw [State.lineGoes, frame, held]
  exact if_pos ready

/-- No line leaves the buffer in a hold, from an empty buffer, or before sending has begun. -/
theorem State.lineGoes_stays (frame : s.flc.frame = some f) (h : s.flc.hold ≠ none ∨ s.flc.buffer = [] ∨ f.sending = false) :
    s.lineGoes = s := by
  have waits : ¬ s.flc.lineReady = true := by
    rw [Flc.lineReady, frame]
    rcases h with hold | empty | idle
    · simp [hold]
    · simp [empty]
    · simp [idle]
  unfold State.lineGoes
  split
  · exact if_neg waits
  · rfl

/-- The flow once the oldest line has gone. -/
def Flc.lineGone (x : Flc) (f : FeedFrame) (rest : List FeedLine) : Flc :=
  { x with buffer := rest, frame := some (f.afterSent rest.length) }

theorem State.sendLine_more {l : FeedLine} {rest : List FeedLine} (more : f.sent + 1 ≠ f.height) :
    s.sendLine f l rest = (s.withFlc (s.flc.lineGone f rest)).linked (f.startPackets ++ [.feedLine l]) := by
  rw [State.sendLine, if_neg more, State.sendStart_eq, ← State.linked_append]
  rfl

/-- Counting and sending do not disturb each other. -/
theorem State.count_linked (s : State) (l : List FeedPacket) (k : Counter) : (s.linked l).count k = (s.count k).linked l := by
  have counted := s.cpi.count_withSide k (if l = [] then s.cpi.lastSide else some .flc)
  have side : (s.cpi.count k).lastSide = s.cpi.lastSide := (Cpi.Noted.same.count k).keeps.lastSide
  unfold State.count State.linked State.withCpi
  dsimp only
  rw [side]
  exact congrArg (fun c => { s with cpi := c, emitted := s.emitted ++ l.map fun p => Emission.feedPacket p p.bytes }) counted

theorem State.sendLine_last {l : FeedLine} {rest : List FeedLine} (last : f.sent + 1 = f.height) :
    s.sendLine f l rest =
      (((s.withFlc s.flc.flown).count .feedFramesSent).linked (f.startPackets ++ [.feedLine l, .frameEnd false])).endKind f.kind
        .noReason := by
  rw [State.sendLine, if_pos last, State.sendStart_eq, ← State.count_linked, show f.startPackets ++ [FeedPacket.feedLine l, .frameEnd false] =
    f.startPackets ++ [.feedLine l] ++ [.frameEnd false] by simp, ← State.linked_append, ← State.linked_append]
  rfl

/-- Settles O49: a packet's header, then production and sending. -/
theorem feedLinesProducedAndSent : Obligations.FeedLinesProducedAndSent := by
  refine ⟨fun p => ?_, fun s f hp frame cut => ⟨fun flows more => ?_, fun stops => ?_, fun l rest held sending hold free =>
    ⟨fun more => ?_, fun n last live => ?_⟩, fun stays => ?_⟩⟩
  · have bits := headerBits Config.spareHeaderBits (decide (p.payload.length % 2 = 1)) p.cut
    refine ⟨_, p.payload, if decide (p.payload.length % 2 = 1) then [Config.oddPadding] else [], ?_, ?_, bits.2, ?_⟩
    · cases p with
      | page a => cases a <;> rfl
      | frameStart _ _ _ => rfl
      | feedLine _ => rfl
      | frameEnd _ => rfl
    · rw [bits.1]
      exact p.cut_iff
    · by_cases odd : p.payload.length % 2 = 1
      · simp [odd]
      · simp [odd]; omega
  · have effect := State.produceLine_makes (s := s.withEmitted []) frame cut flows more
    obtain ⟨t, ht, shows, sent, becomes⟩ := arrive_silent hp effect (bs := [.flc, .spm]) State.unchanged_by rfl
    have flc := shows.flc
    rw [State.lineMade, FeedFrame.afterProduced_eq] at flc
    exact ⟨t, ht, sent, flc, shows.spm, becomes⟩
  · have effect := State.produceLine_stopped (s := s.withEmitted []) frame stops
    obtain ⟨t, ht, -, becomes⟩ := arrive_as hp effect (bs := []) State.unchanged_by
    exact ⟨t, ht, becomes⟩
  · have effect : (s.withEmitted []).lineMaySend = _ := ((if_pos (by rw [State.withEmitted_cpi, free]; rfl)).trans
      (State.lineGoes_goes (s := s.withEmitted []) frame cut held sending hold)).trans (State.sendLine_more more)
    obtain ⟨t, ht, shows, sent, becomes⟩ := arrive_sends hp effect rfl (bs := [.flc]) State.unchanged_by
    exact ⟨t, ht, sent, shows.flc, becomes⟩
  · have ends : (s.withEmitted []).sendLine f l rest = (((s.withEmitted []).withFlc s.flc.flown).count .feedFramesSent).linked
        (f.startPackets ++ [.feedLine l, .frameEnd false]) := by
      rw [State.sendLine_last last, live]
      rfl
    have effect : (s.withEmitted []).lineMaySend = _ := ((if_pos (by rw [State.withEmitted_cpi, free]; rfl)).trans
      (State.lineGoes_goes (s := s.withEmitted []) frame cut held sending hold)).trans ends
    obtain ⟨t, ht, shows, sent, becomes⟩ := arrive_sends hp effect rfl (bs := [.flc]) State.unchanged_by
    exact ⟨t, ht, sent, shows.flc, becomes⟩
  · have effect : (s.withEmitted []).lineMaySend = s.withEmitted [] := by
      rw [State.lineMaySend, State.lineGoes_stays (s := s.withEmitted []) frame stays, ite_self]
    obtain ⟨t, ht, -, sent, becomes⟩ := arrive_silent hp effect (bs := []) State.unchanged_by rfl
    exact ⟨t, ht, sent, becomes⟩

end FeedLines
end Sys2Proof.Machine

namespace Sys2Proof.Machine

/-! ### The end of an EXPORT frame's sending (07 R118; 09 R149) -/

section Exports
variable {s : State} {j : Job} {e : ExportFrame} {f : FeedFrame}

/-- The state once the sending of the EXPORT frame of the only job has ended. -/
def State.exportEnded (s : State) (j : Job) (r : Reason) : State :=
  { s with
    flc := { s.flc with exportFrame := none }, spm := s.spm.removeKind .exported, lsc := { s.lsc with queue := [] },
    cpi := s.cpi.given j.port (j.record (j.ending r) r s.siu.frameNumber) }

theorem State.endExport_none (none : s.flc.exportFrame = none) (r : Reason) : s.endExport r = s := by
  rw [State.endExport, none]

theorem State.endExport_only (held : s.flc.exportFrame = some e) (queue : s.lsc.queue = [j]) (r : Reason) :
    s.endExport r = s.exportEnded j r := by
  rw [State.endExport, held]
  dsimp only
  rw [State.endHead, State.finishHead, State.withSpm_lsc, State.withFlc_lsc, queue]
  rfl

/-- Ending an EXPORT frame's sending and carrying packets do not disturb each other. -/
theorem State.exportEnded_linked (s : State) (l : List FeedPacket) (j : Job) (r : Reason) :
    (s.linked l).exportEnded j r = (s.exportEnded j r).linked l := by
  unfold State.exportEnded State.linked
  cases j.port <;> rfl

/-- The record of an EXPORT names the lesson of its command. -/
theorem Job.record_export {l p : Nat} (task : j.task = .exportPage l p) (ending : Ending) (r : Reason) (frame : Nat) :
    j.record ending r frame = { marker := j.marker, kind := 36, ending := ending, reason := r, lesson := some l, serial := j.serial, frame := frame } := by
  rw [Job.record, task]
  rfl

/-- An EXPORT frame in flight and the only job, whose frame it is. -/
structure State.Exporting (s : State) (f : FeedFrame) (e : ExportFrame) (j : Job) : Prop where
  frame : s.flc.frame = some f
  kind : f.kind = .exported e.lesson e.serial
  held : s.flc.exportFrame = some e
  queue : s.lsc.queue = [j]

/-- Its last line goes, and with it the job. -/
theorem State.sendLine_exported {l : FeedLine} {rest : List FeedLine} (h : s.Exporting f e j) (last : f.sent + 1 = f.height) :
    s.sendLine f l rest = (((s.withFlc s.flc.flown).count .feedFramesSent).exportEnded j .noReason).linked
      (f.startPackets ++ [.feedLine l, .frameEnd false]) := by
  rw [State.sendLine_last last, h.kind, State.endKind, ← State.exportEnded_linked]
  exact State.endExport_only (by exact h.held) (by exact h.queue) _

/-- Its FRAME_END with CUT goes, and with it the job. -/
theorem State.sendCutEnd_exported (h : s.Exporting f e j) (cut : f.cut = true) (hold : s.flc.hold = none)
    (takes : s.cpi.linkTakesFeed = true) : s.sendCutEnd = ((s.withFlc s.flc.flown).exportEnded j .feedCut).linked f.cutPackets := by
  have ready : s.flc.cutReady = true := by rw [Flc.cutReady, h.frame]; simp [cut, hold]
  have goes : s.sendCutEnd = ((s.withFlc s.flc.flown).linked f.cutPackets).endKind f.kind .feedCut := by
    unfold State.sendCutEnd
    rw [h.frame]
    dsimp only
    rw [if_pos (by rw [ready, takes]; rfl), State.sendStart_eq, State.linked_append]
    rfl
  rw [goes, h.kind, State.endKind, ← State.exportEnded_linked]
  exact State.endExport_only (by exact h.held) (by exact h.queue) _

end Exports

/-! ### Leaving FEED_UP (07 R117) -/

section Leaving
variable {s : State} {x : Option Job} {o : BaseOffer}

/-- The EXPORT frame that the feed holds, if it holds one, is that of the only job. -/
structure State.HoldsExport (s : State) (x : Option Job) : Prop where
  none : x = none → s.flc.exportFrame = none
  some : ∀ j, x = some j → s.flc.agreement = .feedUp ∧ s.flc.exportFrame ≠ Option.none ∧ s.lsc.queue = [j] ∧ ∃ l p, j.task = .exportPage l p

/-- The flow after FEED_UP, its agreement state aside. -/
def Flc.parted (f : Flc) : Flc :=
  { f with result := none, frame := none, buffer := [], intervalTimer := none, allowanceTimer := none, due := false,
           exportFrame := none }

/-- What leaving FEED_UP counts. -/
def State.cutCounted (s : State) : Cpi :=
  match s.flc.frame with
  | Option.some f => if s.flc.agreement = .feedUp ∧ f.cut = false then s.cpi.count .feedFramesCut else s.cpi
  | Option.none => s.cpi

/-- The CPI after FEED_UP. -/
def State.cpiLeft (s : State) (x : Option Job) : Cpi :=
  match x with
  | Option.none => s.cutCounted
  | Option.some j => s.cutCounted.given j.port
      { marker := j.marker, kind := 36, ending := .failed, reason := .feedLost, lesson := j.task.lesson, serial := j.serial,
        frame := s.siu.frameNumber }

/-- The pool after FEED_UP. -/
def State.poolLeft (s : State) (x : Option Job) : Spm :=
  let unfed := if s.flc.agreement = .feedUp then s.spm.removeKind .feed else s.spm
  if x = Option.none then unfed else unfed.removeKind .exported

/-- The state after FEED_UP, where that was its agreement state, and itself otherwise. -/
def State.parted (s : State) (x : Option Job) : State :=
  { s with
    flc := if s.flc.agreement = .feedUp then s.flc.parted else s.flc, spm := s.poolLeft x,
    lsc := if x = Option.none then s.lsc else { s.lsc with queue := [] }, cpi := s.cpiLeft x }

theorem State.cpiLeft_noted (s : State) (x : Option Job) : s.cpi.Noted (s.cpiLeft x) := by
  have counted : s.cpi.Noted s.cutCounted := by
    unfold State.cutCounted
    split
    · split
      · exact .count _ .same
      · exact .same
    · exact .same
  unfold State.cpiLeft
  split
  · exact counted
  · exact .give _ _ counted

theorem State.countDropped_eq (up : s.flc.agreement = .feedUp) : s.countDropped = s.withCpi s.cutCounted := by
  unfold State.countDropped State.cutCounted
  cases s.flc.frame with
  | none => rfl
  | some f => cases cut : f.cut <;> simp [up, cut]; rfl

/-- Leaving FEED_UP. -/
theorem State.leaveUp_eq (h : s.HoldsExport x) (up : s.flc.agreement = .feedUp) (a : Agreement) :
    s.leaveUp a = (s.parted x).withFlc { s.flc.parted with agreement := a } := by
  unfold State.leaveUp State.parted State.poolLeft State.cpiLeft
  rw [State.countDropped_eq up, if_pos up, if_pos up]
  show State.endExport (((s.withCpi s.cutCounted).withFlc (s.flc.left a)).withSpm (s.spm.removeKind .feed)) .feedLost = _
  cases x with
  | none =>
    refine (State.endExport_none (by exact h.none rfl) _).trans ?_
    unfold Flc.left Flc.parted
    rw [h.none rfl]
    rfl
  | some j =>
    obtain ⟨-, held, queue, l, p, task⟩ := h.some j rfl
    obtain ⟨e, held⟩ := Option.ne_none_iff_exists'.mp held
    refine (State.endExport_only (by exact held) (by exact queue) _).trans ?_
    rw [State.exportEnded, Job.record, show j.task.code = 36 by rw [task]; rfl]
    rfl

/-- Without FEED_UP there is nothing to leave. -/
theorem State.parted_other (h : s.HoldsExport x) (other : s.flc.agreement ≠ .feedUp) : s.parted x = s := by
  cases x with
  | some j => exact absurd (h.some j rfl).1 other
  | none =>
    unfold State.parted State.poolLeft State.cpiLeft State.cutCounted
    rw [if_neg other, if_neg other]
    cases s.flc.frame with
    | none => rfl
    | some f => simp [other]

/-- A base offer with a fault (07 R109). -/
theorem State.feedFault_eq (h : s.HoldsExport x) : s.feedFault =
    ((s.parted x).withFlc { (s.parted x).flc with agreement := .feedDown, pageTimer := Option.none, result := Option.none }).raise
      .feedDown := by
  unfold State.feedFault
  by_cases up : s.flc.agreement = .feedUp
  · rw [if_pos up, State.leaveUp_eq h up, State.parted, if_pos up]
    rfl
  · rw [if_neg up, State.parted_other h up]

theorem State.baseOffer_faulty (fault : o.fault ≠ .noFault)
    (taken : s.flc.agreement ∈ [Agreement.offering, .ackSeen, .noteExchange, .feedUp]) : s.baseOffer o = s.feedFault := by
  simp only [List.mem_cons, List.not_mem_nil, or_false] at taken
  unfold State.baseOffer
  rcases taken with e | e | e | e <;> rw [e] <;> exact if_neg fault

/-- A base offer that is discarded. -/
theorem State.baseOffer_discarded (h : s.flc.agreement ∈ [Agreement.feedDown, .feedFailed] ∨
    (s.flc.agreement = .feedUp ∧ o.fault = .noFault ∧ o.restart = false)) : s.baseOffer o = s := by
  simp only [List.mem_cons, List.not_mem_nil, or_false] at h
  unfold State.baseOffer
  rcases h with (e | e) | ⟨up, clean, stays⟩
  · rw [e]
  · rw [e]
  · rw [up]
    dsimp only
    rw [if_pos clean, stays]
    rfl

/-- The state in which a remote restart takes the bridge's offer (07 R109). -/
def State.remade (s : State) (x : Option Job) : State :=
  { s.parted x with
    flc := { s.flc.parted.freshAgreement with agreement := .ackSeen }, cpi := (s.cpiLeft x).raise .feedRemoteRestart }

theorem State.baseOffer_restart (h : s.HoldsExport x) (up : s.flc.agreement = .feedUp) (clean : o.fault = .noFault)
    (restart : o.restart = true) : s.baseOffer o = (s.remade x).takeOffer o := by
  unfold State.baseOffer
  rw [up]
  dsimp only
  rw [if_pos clean, if_pos restart, State.remoteRestart, State.leaveUp_eq h up]
  rfl

/-- FEED_RESTART (07 R119). -/
theorem State.restartFeed_eq (h : s.HoldsExport x) : s.restartFeed =
    ((s.parted x).withFlc { (s.parted x).flc with hold := Option.none, buffer := [], restartCount := 0 }).beginAgreement := by
  unfold State.restartFeed
  by_cases up : s.flc.agreement = .feedUp
  · rw [if_pos up, State.leaveUp_eq h up, State.parted, if_pos up]
    rfl
  · rw [if_neg up, State.parted_other h up]

end Leaving
end Sys2Proof.Machine

namespace Sys2Proof.Machine

/-! ### Commands after which the link carries what the feed link controller has waiting (07 R119, R120) -/

section Restarts
variable {s u : State}

/-- What the Panel's data-out line shows during the transaction does not touch the sendings after it. -/
theorem State.transmit_driven_cpi (u : State) (p : Port) (c : Cpi) (n : Nat) : (u.driven p c n).transmit.cpi = u.transmit.cpi := by
  have room : ∀ e, (u.emit e).startRoom.cpi = u.startRoom.cpi ∧ (u.emit e).startRoom.flc = u.startRoom.flc := fun e => by
    unfold State.startRoom
    cases tx : u.cpi.roomTx <;> cases choice : u.cpi.room.choice <;> simp [State.emit, tx, choice]
  have tether : ∀ v w : State, v.cpi = w.cpi → v.flc = w.flc → v.startTether.cpi = w.startTether.cpi := fun v w cpi flc => by
    unfold State.startTether
    rw [cpi, flc]
    cases w.cpi.tetherTx <;> cases w.cpi.tether.choice <;> dsimp only
    · exact cpi
    · split
      · exact cpi
      · simp [State.emit]
    · exact cpi
    · exact cpi
  cases p with
  | panel => exact tether _ _ (room _).1 (room _).2
  | room => rfl
  | tether => rfl

theorem State.sentFeed_driven (u : State) (p : Port) (c : Cpi) (n : Nat) (l : List FeedPacket) :
    (u.driven p c n).sentFeed l ↔ u.sentFeed l := by
  cases p with
  | panel => simp [State.sentFeed, State.driven, State.emit, Emission.ofFeed]
  | room => rfl
  | tether => rfl

/-- A reply that is owed does not touch the link. -/
theorem State.owe_link (u : State) (p : Port) (r : Reply) :
    (u.owe p r).cpi.tetherTx = u.cpi.tetherTx ∧ (u.owe p r).cpi.lastSide = u.cpi.lastSide := by
  cases p <;> exact ⟨rfl, rfl⟩

/-- A state that hands its pages to the link. -/
theorem State.servePages_served (emitted : u.emitted = []) :
    u.servePages.transmit.servedPages u.cpi.tetherTx u.cpi.lastSide u.flc.pages := by
  have gives := (State.servePages_gives (s := u) (new := []) emitted (List.append_nil _).symm rfl rfl).1
  rw [State.givesPages, List.append_nil] at gives
  exact gives

/-- FEED_RESTART or RESTART carried out: the page it sends and its reply take their turns. -/
theorem command_gives {h : CmdHeader} {kind : Byte} {args : List Byte} {f : State → State × Answer} {bs : List Block}
    (ht : s.takes h.port) (hk : kind = 32 ∨ kind = 59) (hf : f (s.withEmitted []) = (u, done false)) (emitted : u.emitted = [])
    (frame : u.flc.frame = none) (hu : s.unchanged u bs) (flc : .flc ∈ bs) :
    ∃ t, command kind h args s f = .next t ∧ t.servedPages u.cpi.tetherTx u.cpi.lastSide u.flc.pages ∧
      (u.withFlc { u.flc with pages := t.flc.pages }).Shows t ∧ s.answers t u.cpi kind h (done false) bs := by
  let v := u.owe h.port ((done false).reply kind h u.vwc.gen)
  obtain ⟨gone, rest, -, sent, -⟩ := v.sendPages_eq v.flc.pages
  have serves : v.servePages = (v.linked (gone.map .page)).withFlc { v.flc with pages := rest } := sent
  have uncut : v.servePages.flc.cutReady = false := Flc.cutReady_uncut fun g hg => by
    rw [serves] at hg
    exact nomatch frame.symm.trans hg
  have taken := command_taken kind args f ht
  have follows : v.afterRestart kind (done false) = v.servePages :=
    (if_pos ⟨rfl, hk⟩).trans (State.sendCutEnd_waits (s := v.servePages) (.inl uncut))
  rw [hf] at taken
  dsimp only at taken
  rw [follows] at taken
  obtain ⟨tx, side⟩ := u.owe_link h.port ((done false).reply kind h u.vwc.gen)
  obtain ⟨gone', goes, all, busy, waits, idle⟩ := State.servePages_served (u := v) emitted
  have link := v.servePages.transmit_driven_cpi h.port s.cpi (args.length + 7)
  have pages : (v.servePages.driven h.port s.cpi (args.length + 7)).transmit.flc.pages = rest := by
    rw [State.transmit_flc, State.driven_flc, serves]
    rfl
  refine ⟨_, taken, ⟨gone', ?_, ?_, fun e => busy (tx ▸ e), fun free turn => waits (tx.trans free) (side.trans turn), ?_⟩, ?_, ?_, ?_⟩
  · rw [State.transmit_sentFeed, State.sentFeed_driven]
    exact (State.transmit_sentFeed _ _).mp goes
  · rw [State.transmit_flc, State.driven_flc]
    rw [State.transmit_flc] at all
    exact all
  · rw [link, State.transmit_flc, State.driven_flc]
    rw [State.transmit_flc] at idle
    exact idle
  · rw [pages, serves]
    constructor <;> simp [-Flc.mk.injEq] <;> rfl
  · obtain ⟨siu, tsu, tcl, peu, spm, vwc, dou, -, lsc, powered, freeCount, pending⟩ := hu
    have held : s.unchanged v.servePages bs := by
      rw [serves]
      exact ⟨siu, tsu, tcl, peu, spm, vwc, dou, .inl flc, lsc, powered, freeCount, pending⟩
    simpa [State.unchanged] using held
  · have after := State.transmit_sends (v.servePages.driven h.port s.cpi (args.length + 7))
    rw [State.driven_cpi, serves] at after
    rw [State.transmit_vwc, State.driven_vwc, serves]
    exact after

end Restarts
end Sys2Proof.Machine

namespace Sys2Proof.Machine

/-! ### What leaves FEED_UP (07 R109, R117, R119) -/

section Leaves
variable {s : State} {x : Option Job}

/-- What the pages of a state after FEED_UP, its link and what it emitted are: as before. -/
theorem State.parted_link (s : State) (x : Option Job) :
    (s.parted x).flc.pages = s.flc.pages ∧ (s.cpiLeft x).tetherTx = s.cpi.tetherTx ∧ (s.cpiLeft x).lastSide = s.cpi.lastSide := by
  refine ⟨?_, (s.cpiLeft_noted x).keeps.tetherTx, (s.cpiLeft_noted x).keeps.lastSide⟩
  unfold State.parted
  dsimp only
  split <;> rfl

/-- No frame is in flight afterwards. -/
theorem State.parted_frame (h : s.flc.frame ≠ none → s.flc.agreement = .feedUp) : (s.parted x).flc.frame = none := by
  unfold State.parted
  dsimp only
  split
  · rfl
  · next other => exact not_not.mp (mt h other)

theorem State.unchanged_parted {u : State} {all : List Block} (hall : all = [.flc, .spm, .lsc])
    (siu : u.siu = s.siu := by rfl) (tsu : u.tsu = s.tsu := by rfl) (tcl : u.tcl = s.tcl := by rfl) (peu : u.peu = s.peu := by rfl)
    (vwc : u.vwc = s.vwc := by rfl) (dou : u.dou = s.dou := by rfl) (powered : u.powered = s.powered := by rfl)
    (freeCount : u.freeCount = s.freeCount := by rfl) (pending : u.pending = s.pending := by rfl) : s.unchanged u all := by
  subst hall
  exact ⟨.inr siu, .inr tsu, .inr tcl, .inr peu, .inl (by decide), .inr vwc, .inr dou, .inl (by decide), .inl (by decide), powered,
    freeCount, pending⟩

/-- Entry to OFFERING, by what the note list is. -/
theorem State.beginAgreement_eq {notes : List Note} (h : s.flc.notes = notes) : s.beginAgreement = s.withFlc { s.flc with
    agreement := .offering, partner := none, result := none, latched := notes, unsent := notes.flatMap Note.pages, lastPage := none,
    bridgeToggle := false, expectRate := false, rateLimit := none, cropAgreed := false, exportAgreed := false,
    pageTimer := s.pageTimerAnew,
    pages := s.flc.pages ++
      [.base { formats := 0xFF, nextPage := !notes.isEmpty, ack := false, fault := .noFault, restart := false }] } := by
  subst h
  rfl

/-- An offer with a fault ends an agreement or the feed. -/
theorem faultLeaves (hp : s.powered = true) (h : s.HoldsExport x) {o : BaseOffer} (started : s.flc.started = true)
    (fault : o.fault ≠ .noFault) (taken : s.flc.agreement ∈ [Agreement.offering, .ackSeen, .noteExchange, .feedUp]) :
    ∃ t, exec (.baseOffer o) s = .next t ∧ s.givesPages t [] ∧
      t.flc = { (s.parted x).flc with agreement := .feedDown, pageTimer := none, result := none, pages := t.flc.pages } ∧
      t.spm = s.poolLeft x ∧ t.lsc = (s.parted x).lsc ∧ s.becomes t ((s.cpiLeft x).raise .feedDown) [.flc, .spm, .lsc] := by
  have h' : (s.withEmitted []).HoldsExport x := ⟨h.none, h.some⟩
  obtain ⟨pages, tx, side⟩ := s.parted_link x
  have effect := (State.offerArrives_started (s := s.withEmitted []) started o).trans
    (congrArg State.servePages ((State.baseOffer_faulty (s := s.withEmitted []) fault taken).trans (State.feedFault_eq h')))
  obtain ⟨t, ht, gives, flc, spm, lsc, becomes⟩ := arrive_gives_shows (f := fun s => s.offerArrives o) (new := []) hp effect rfl
    (State.unchanged_parted rfl) (by decide) (pages.trans (List.append_nil _).symm) tx side
  exact ⟨t, ht, gives, flc, spm, lsc, becomes⟩

/-- FEED_RESTART begins the agreement anew from every state. -/
theorem feedRestartLeaves (h : s.HoldsExport x) {g : CmdHeader} (takes : s.takes g.port) (started : s.flc.started = true)
    (free : s.flc.frame ≠ none → s.flc.agreement = .feedUp) :
    ∃ t, exec (.feedRestart g []) s = .next t ∧
      s.givesPages t [.base { formats := 0xFF, nextPage := !s.flc.notes.isEmpty, ack := false, fault := .noFault, restart := false }] ∧
      t.flc = { (s.parted x).flc with
        result := none, latched := s.flc.notes, unsent := s.flc.notes.flatMap Note.pages, lastPage := none, bridgeToggle := false,
        expectRate := false, rateLimit := none, cropAgreed := false, exportAgreed := false, pageTimer := s.pageTimerAnew,
        agreement := .offering, partner := none, restartCount := 0, hold := none, buffer := [], pages := t.flc.pages } ∧
      t.spm = s.poolLeft x ∧ t.lsc = (s.parted x).lsc ∧ s.answers t (s.cpiLeft x) 32 g (done false) [.flc, .spm, .lsc] := by
  have h' : (s.withEmitted []).HoldsExport x := ⟨h.none, h.some⟩
  obtain ⟨pages, tx, side⟩ := s.parted_link x
  have notes : (s.parted x).flc.notes = s.flc.notes := by
    unfold State.parted
    dsimp only
    split <;> rfl
  have effect : workFeedRestart g [] (s.withEmitted []) = ((s.withEmitted []).restartFeed, done false) := if_pos started
  rw [State.restartFeed_eq h'] at effect
  replace effect := effect.trans (congrArg (fun v => (v, done false)) (State.beginAgreement_eq (notes := s.flc.notes) (by exact notes)))
  obtain ⟨t, ht, gives, shows, answers⟩ := command_gives (kind := 32) (args := []) (bs := [.flc, .spm, .lsc]) takes (.inl rfl) effect
    rfl (State.parted_frame (s := s) (x := x) free) (State.unchanged_parted rfl) (by decide)
  refine ⟨t, ht, ?_, shows.flc, shows.spm, shows.lsc, answers⟩
  have served : t.servedPages (s.cpiLeft x).tetherTx (s.cpiLeft x).lastSide ((s.parted x).flc.pages ++ _) := gives
  rw [pages, tx, side] at served
  exact served

/-- The flow of a remote restart once it holds the bridge's offer. -/
def State.offered (s : State) (o : BaseOffer) : Flc :=
  { s.flc.parted with
    partner := some o, latched := s.flc.notes, unsent := s.flc.notes.flatMap Note.pages, lastPage := none, bridgeToggle := false,
    expectRate := false, rateLimit := none, cropAgreed := false, exportAgreed := false, pageTimer := s.pageTimerAnew }

/-- A remote restart goes on as any agreement does. -/
theorem remoteRestarts (hp : s.powered = true) (h : s.HoldsExport x) {o : BaseOffer} (started : s.flc.started = true)
    (up : s.flc.agreement = .feedUp) (clean : o.fault = .noFault) (restart : o.restart = true) :
    let own : BaseOffer := { formats := 0xFF, nextPage := !s.flc.notes.isEmpty, ack := true, fault := .noFault, restart := false }
    let pages := s.flc.notes.flatMap Note.pages
    let first := pages.headD { kind := .message, code := 1 }
    let note : NotePage :=
      { nextPage := decide (1 < pages.length), ack := true, kind := first.kind, ack2 := false, toggle := true, code := first.code }
    let quiet := s.flc.notes = [] ∧ o.nextPage = false
    let restarted := (s.cpiLeft x).raise .feedRemoteRestart
    let goes := fun (t : State) (new : List AgreementPage) (flc : Flc) (c : Cpi) => exec (.baseOffer o) s = .next t ∧
      s.givesPages t (.base own :: new) ∧ t.flc = { flc with pages := t.flc.pages } ∧ t.spm = s.poolLeft x ∧ t.lsc = (s.parted x).lsc ∧
      s.becomes t c [.flc, .spm, .lsc]
    (o.ack = false → ∃ t, goes t [] { s.offered o with agreement := .ackSeen } restarted) ∧
    (o.ack = true → ¬ quiet → ∃ t, goes t [.note note]
      { s.offered o with agreement := .noteExchange, unsent := pages.tail, lastPage := some note } restarted) ∧
    (∀ f, o.ack = true → quiet → f < 8 → o.formats.getLsbD f = true → (∀ g, f < g → o.formats.getLsbD g = false) →
      ∃ t, goes t []
        { s.offered o with
          agreement := .feedUp, restartCount := 0, pageTimer := none, due := true,
          result := some { format := f, rate := (feedFormat f).2.2, crop := false, exporting := false } }
        (restarted.raise .feedUp)) ∧
    (o.ack = true → quiet → o.formats = 0 → ∃ t last, last.fault = .refused ∧
      goes t [.base last] { s.offered o with agreement := .feedDown, pageTimer := none } (restarted.raise .noCommonFormat)) := by
  have h' : (s.withEmitted []).HoldsExport x := ⟨h.none, h.some⟩
  obtain ⟨-, tx, side⟩ := s.parted_link x
  have effect := (State.offerArrives_started (s := s.withEmitted []) started o).trans
    (congrArg State.servePages (State.baseOffer_restart (s := s.withEmitted []) h' up clean restart))
  let v := (s.withEmitted []).remade x
  intro own pages first note quiet restarted goes
  refine ⟨fun ack => ?_, fun ack notes => ?_, fun f ack none hf bit top => ?_, fun ack none formats => ?_⟩
  · have answer : v.takeOffer o = v.withFlc (v.ackWaits o) := if_neg (by rw [ack]; exact Bool.false_ne_true)
    obtain ⟨t, ht, gives, flc, spm, lsc, becomes⟩ := arrive_gives_shows (f := fun s => s.offerArrives o) (new := [.base own]) hp
      (effect.trans (congrArg _ answer)) rfl (State.unchanged_parted rfl) (by decide) rfl tx side
    exact ⟨t, ht, gives, flc, spm, lsc, becomes⟩
  all_goals have answer : v.takeOffer o = (v.partnered o [.base v.ownOffer] v.pageTimerAnew).baseComplete := if_pos ack
  · have complete := answer.trans (State.baseComplete_notes (s := v.partnered o _ _) rfl notes)
    obtain ⟨t, ht, gives, flc, spm, lsc, becomes⟩ := arrive_gives_shows (f := fun s => s.offerArrives o)
      (new := [.base own, .note note]) hp (effect.trans (congrArg _ complete)) rfl (State.unchanged_parted rfl) (by decide)
      (List.append_assoc s.flc.pages [.base own] [.note note]) tx side
    exact ⟨t, ht, gives, flc, spm, lsc, becomes⟩
  · have complete := (answer.trans (State.baseComplete_quiet (s := v.partnered o _ _) rfl none)).trans (State.resolve_up (o := o) rfl hf bit top)
    obtain ⟨t, ht, gives, flc, spm, lsc, becomes⟩ := arrive_gives_shows (f := fun s => s.offerArrives o) (new := [.base own]) hp
      (effect.trans (congrArg _ complete)) rfl (State.unchanged_parted rfl) (by decide) rfl tx side
    exact ⟨t, ht, gives, flc, spm, lsc, becomes⟩
  · have complete := (answer.trans (State.baseComplete_quiet (s := v.partnered o _ _) rfl none)).trans (State.resolve_down (o := o) rfl formats)
    obtain ⟨t, ht, gives, flc, spm, lsc, becomes⟩ := arrive_gives_shows (f := fun s => s.offerArrives o)
      (new := [.base own, .base v.flc.refusal]) hp (effect.trans (congrArg _ complete)) rfl (State.unchanged_parted rfl) (by decide)
      (List.append_assoc s.flc.pages [.base own] _) tx side
    exact ⟨t, _, rfl, ht, gives, flc, spm, lsc, becomes⟩

end Leaves
end Sys2Proof.Machine

namespace Sys2Proof.Machine

section ExportEnds
variable {s : State} {f : FeedFrame} {e : ExportFrame} {j : Job}

/-- What the end of a hold does to an EXPORT frame that is cut. -/
theorem releases_exported {g : State → State} (hp : s.powered = true) (h : s.Exporting f e j) (cut : f.cut = true) (free : s.cpi.linkFree)
    (effect : g (s.withEmitted []) = (s.withEmitted []).releaseHold) : ∃ t, arrive s g = .next t ∧ t.sentFeed f.cutPackets ∧
      t.flc = { s.flc with frame := none, buffer := [], allowanceTimer := none, exportFrame := none, hold := none } ∧
      t.spm = s.spm.removeKind .exported ∧ t.lsc = { s.lsc with queue := [] } ∧
      s.becomes t (s.cpi.given j.port (j.record (j.ending .feedCut) .feedCut s.siu.frameNumber)) [.flc, .spm, .lsc] := by
  have goes := effect.trans (State.sendCutEnd_exported (s := (s.withEmitted []).withFlc s.flc.unheld)
    ⟨h.frame, h.kind, h.held, h.queue⟩ cut rfl ((Cpi.linkTakesFeed_iff _).mpr free))
  obtain ⟨t, ht, shows, sent, becomes⟩ := arrive_sends hp goes rfl (bs := [.flc, .spm, .lsc]) (State.unchanged_parted rfl)
  exact ⟨t, ht, sent, shows.flc, shows.spm, shows.lsc, becomes⟩

/-- The end of a packet, where an EXPORT frame's FRAME_END with CUT has its turn. -/
theorem tetherSent_exported {k : Sending} (tx : s.cpi.tetherTx = some k) (side : s.cpi.lastSide = some .cpi)
    (turn : s.flc.pages = [] ∨ (s.cpi.tether.ended k).choice = none) (h : s.Exporting f e j) (cut : f.cut = true)
    (hold : s.flc.hold = none) : s.tetherSent =
      (((s.linkLeft (s.cpi.tether.ended k)).withFlc { s.flc with
        pages := [], frame := none, buffer := [], allowanceTimer := none }).exportEnded j .feedCut).linked
          (s.flc.pages.map .page ++ f.cutPackets) := by
  let left := s.linkLeft (s.cpi.tether.ended k)
  obtain ⟨serves, takes⟩ := State.serveFeed_turn (s := left) rfl side turn
  let served := (left.withFlc { s.flc with pages := [] }).linked (s.flc.pages.map .page)
  have goes : served.sendCutEnd = _ := State.sendCutEnd_exported (s := served) ⟨h.frame, h.kind, h.held, h.queue⟩ cut hold takes
  rw [State.tetherSent_eq tx, serves, ← State.linked_linked, ← State.exportEnded_linked]
  exact goes

theorem Cpi.given_idle (c : Cpi) (p : Port) (r : Completion) (tx : Option Sending) :
    ({ c with tetherTx := tx } : Cpi).given p r = { c.given p r with tetherTx := tx } := by
  cases p <;> rfl

/-- Whether the link was busy does not count among what a state leaves. -/
theorem Cpi.given_afterSending {c d : Cpi} {p : Port} {r : Completion} {tx : Option Sending}
    (h : (({ c with tetherTx := tx } : Cpi).given p r).afterSending d) : (c.given p r).afterSending d := by
  rw [Cpi.given_idle] at h
  exact h

/-- Settles O50: what leaves FEED_UP, then each way in which an EXPORT frame's sending ends. -/
theorem feedLeavesUpAndExportEnds : Obligations.FeedLeavesUpAndExportEnds := by
  refine ⟨fun s x hp none some => ?_, fun s f e j lesson position hp frame kind held queue task => ?_⟩
  · have h : s.HoldsExport x := ⟨none, some⟩
    intro up counted dropped unfed pool jobs left own pages first note anew all
    refine ⟨fun o started fault taken => faultLeaves hp h started fault taken, fun o started up' clean restart => ?_,
      fun o early => ?_, fun o started discarded => ?_, fun g takes => ⟨fun early => ?_, fun started free => feedRestartLeaves h takes started free⟩⟩
    · have remote := remoteRestarts hp h started up' clean restart
      have hleft : left = s.flc.parted := if_pos up'
      clear_value left
      subst hleft
      exact remote
    · have effect : (s.withEmitted []).offerArrives o = s.withEmitted [] := if_neg (by rw [State.withEmitted_flc, early]; exact Bool.false_ne_true)
      obtain ⟨t, ht, -, sent, becomes⟩ := arrive_silent (f := fun s => s.offerArrives o) hp effect (bs := []) State.unchanged_by rfl
      exact ⟨t, ht, sent, becomes⟩
    · have effect := (State.offerArrives_started (s := s.withEmitted []) started o).trans
        (congrArg State.servePages (State.baseOffer_discarded (s := s.withEmitted []) discarded))
      obtain ⟨t, ht, gives, flc, becomes⟩ := arrive_gives (f := fun s => s.offerArrives o) (new := []) hp effect rfl (bs := [.flc])
        State.unchanged_by (by decide) (List.append_nil _).symm rfl rfl
      exact ⟨t, ht, gives, flc, becomes⟩
    · exact command_refuses takes (if_neg (by rw [State.withEmitted_flc, early]; exact Bool.false_ne_true))
  · have h : (s.withEmitted []).Exporting f e j := ⟨frame, kind, held, queue⟩
    have record := Job.record_export task
    refine ⟨fun l rest uncut buffer sending hold free last => ?_, fun c cut free which => ?_, fun r now hold free => ?_,
      fun k cut hold tx side => ?_⟩
    · have effect : (s.withEmitted []).lineMaySend = _ := ((if_pos (by rw [State.withEmitted_cpi, free]; rfl)).trans
        (State.lineGoes_goes (s := s.withEmitted []) frame uncut buffer sending hold)).trans (State.sendLine_exported h last)
      obtain ⟨t, ht, shows, sent, becomes⟩ := arrive_sends hp effect rfl (bs := [.flc, .spm, .lsc]) (State.unchanged_parted rfl)
      rw [State.exportEnded, record] at becomes
      exact ⟨t, ht, sent, shows.flc, shows.spm, shows.lsc, becomes⟩
    · have released := fun (g : State → State) effect => releases_exported (g := g) hp ⟨frame, kind, held, queue⟩ cut free effect
      rw [record] at released
      rcases which with rfl | ⟨rfl, d, now⟩
      · exact released (fun s => s.takeHold 0) (if_pos rfl)
      · exact released State.holdExpires (State.holdExpires_now (s := s.withEmitted []) now)
    · have goes := State.sendCutEnd_exported (s := (s.withEmitted []).frameCut f) (f := { f with cut := true }) (e := e) (j := j)
        ⟨rfl, kind, held, queue⟩ rfl hold ((Cpi.linkTakesFeed_iff _).mpr free)
      have effect := ((State.allowanceExpires_now (s := s.withEmitted []) now).trans
        (State.cutFrame_eq (s := s.withEmitted []) frame)).trans goes
      obtain ⟨t, ht, shows, sent, becomes⟩ := arrive_sends (f := State.allowanceExpires) hp effect rfl (bs := [.flc, .spm, .lsc])
        (State.unchanged_parted rfl)
      rw [State.exportEnded, record] at becomes
      exact ⟨t, ht, sent, shows.flc, shows.spm, shows.lsc, becomes⟩
    · refine ⟨_, s.cpi.tether.ended k, arrive_powered State.tetherSent hp, s.cpi.tether.sentOne_ended k, fun turn => ?_⟩
      have idle := turn.imp_right fun without => not_not.mp (mt (s.cpi.tether.ended k).has_iff.mpr without)
      have effect := tetherSent_exported (s := s.withEmitted []) tx side idle h cut hold
      obtain ⟨t, ht, shows, sent, becomes⟩ := arrive_sends hp effect rfl (bs := [.flc, .spm, .lsc]) (State.unchanged_parted rfl)
      obtain rfl := Host.Outcome.next.inj (ht.symm.trans (arrive_powered State.tetherSent hp))
      rw [State.exportEnded, record] at becomes
      refine ⟨?_, shows.flc, shows.spm, shows.lsc, becomes.1, ?_⟩
      · rw [List.append_assoc]
        exact sent
      · exact Cpi.given_afterSending (c := { s.cpi with tether := s.cpi.tether.ended k }) (tx := none) becomes.2

end ExportEnds
end Sys2Proof.Machine

namespace Sys2Proof.Machine

/-! ### RESTART over the whole part (10 R161; 08 R135) -/

section Whole
variable {s : State}

/-- A head job that is a STORE with a WRITING record loses that record (08 R135). -/
theorem Lsc.abandon_store {l : Lsc} {j : Job} {k : Nat} {c : Capture} {q : Half} {r : PageRecord} (head : l.queue.head? = some j)
    (task : j.task = .store k c) (serial : j.serial = some q) (record : recordWith l.lessons q = some r) (writing : r.state = .writing) :
    l.abandon = l.withLessons (removeRecord l.lessons q) := by
  obtain ⟨rest, queue⟩ := List.head?_eq_some_iff.mp head
  have bound : j.serial.bind (recordWith l.lessons) = some r := by rw [serial]; exact record
  rw [Lsc.abandon, queue]
  dsimp only
  rw [task, bound]
  dsimp only
  rw [if_pos writing, recordWith_serial record]

/-- Without such a job the table stays. -/
theorem Lsc.abandon_other {l : Lsc} (h : ∀ (q : Half) (j : Job) (r : PageRecord) (k : Nat) (c : Capture), l.queue.head? = some j →
    j.task = .store k c → j.serial = some q → recordWith l.lessons q = some r → r.state ≠ .writing) : l.abandon = l := by
  unfold Lsc.abandon
  split
  · rfl
  · next j rest queue =>
    split
    · next k c r task bound =>
      refine if_neg fun writing => ?_
      obtain ⟨q, serial, record⟩ := Option.bind_eq_some_iff.mp bound
      exact h q j r k c (by rw [queue]; rfl) task serial record writing
    · rfl

/-- Every block after RESTART, before the catalogue write that may follow. -/
def State.restartedBlocks (s : State) : State := s.restartBlocks.rework.beginAgreement

theorem State.restart_rests (h : ¬ (s.lsc.restarted.due = true ∧ s.lsc.restarted.mode = .ready)) : s.restart = s.restartedBlocks :=
  if_neg h

theorem State.restart_writes (due : s.lsc.restarted.due = true) (ready : s.lsc.restarted.mode = .ready)
    (more : s.lsc.restarted.catSeq ≠ 0xFFFFFFFF) :
    s.restart = s.restartedBlocks.withLsc (s.lsc.restarted.startsWrite .afterRestart) := by
  have begins := s.restartedBlocks.beginWrite_some .afterRestart more
  unfold State.restartedBlocks at begins
  rw [State.restart, State.writeAfterRestart, begins]
  exact if_pos ⟨due, ready⟩

theorem State.restart_spent (due : s.lsc.restarted.due = true) (ready : s.lsc.restarted.mode = .ready)
    (spent : s.lsc.restarted.catSeq = 0xFFFFFFFF) : s.restart = s.restartedBlocks.readOnly := by
  have none := s.restartedBlocks.beginWrite_none .afterRestart spent
  unfold State.restartedBlocks at none
  rw [State.restart, State.writeAfterRestart, none]
  exact if_pos ⟨due, ready⟩

/-- What a RESTART leaves, its store and its CPI apart. -/
structure State.restartsTo (s t : State) (h : CmdHeader) : Prop where
  siu : t.siu = { intake := .waiting, frameNumber := 0, timer := none, lines := 0 }
  tsu : t.tsu = { s.tsu with building := none, settled := none }
  tcl : t.tcl = { s.tcl with copy := none, count := 0, box := none, boxQuorum := none }
  peu : t.peu = { s.peu with copy := none, source := none, lineStore := [] }
  spm : t.spm = { slots := s.spm.slots.map fun x => { x with holders := noHolders, content := .nothing }, notices := 0 }
  vwc : t.vwc = { zt := 256, zc := 256, glide := s.vwc.glide, tx := 1920, ty := 1440, freeze := none, layout := .single, page := none,
                  gen := 0, watch := none, window := windowOf s.dou.pendingMode .single 256 1920 1440 }
  dou : t.dou = { mode := s.dou.pendingMode, pendingMode := s.dou.pendingMode, raster := .restarting, blank := false, left := none,
                  right := none, stale := s.pending.count .outputFrameStart }
  flc : t.flc = { s.restartedBlocks.flc with pages := t.flc.pages }
  pages : t.servedPages none s.cpi.lastSide
    [.base { formats := 0xFF, nextPage := !s.flc.notes.isEmpty, ack := false, fault := .noFault, restart := false }]

/-- RESTART from the Panel port, by what it makes of the store. -/
theorem restart_leaves {h : CmdHeader} (takes : s.takes h.port) (panel : h.port = .panel) (mode : s.lsc.mode ≠ .starting) {l : Lsc} {c : Cpi}
    (restart : (s.withEmitted []).restart = ((s.withEmitted []).restartedBlocks.withLsc l).withCpi c) (tx : c.tetherTx = none)
    (side : c.lastSide = s.cpi.lastSide) :
    ∃ t, exec (.restart h []) s = .next t ∧ t.lsc = l ∧ s.restartsTo t h ∧
      s.answers t c 59 h (done false) [.siu, .tsu, .tcl, .peu, .spm, .vwc, .dou, .flc, .lsc] := by
  have effect : workRestart h [] (s.withEmitted []) =
      (((s.withEmitted []).restartedBlocks.withLsc l).withCpi c, done false) :=
    ((if_pos panel).trans (if_neg mode)).trans (congrArg (·, done false) restart)
  obtain ⟨t, ht, gives, shows, answers⟩ := command_gives (kind := 59) (args := [])
    (bs := [.siu, .tsu, .tcl, .peu, .spm, .vwc, .dou, .flc, .lsc]) takes (.inr rfl) effect rfl rfl State.unchanged_by (by decide)
  have served : t.servedPages c.tetherTx c.lastSide _ := gives
  rw [tx, side] at served
  exact ⟨t, ht, shows.lsc, ⟨shows.siu, shows.tsu, shows.tcl, shows.peu, shows.spm, shows.vwc, shows.dou, shows.flc, served⟩, answers⟩

/-- Settles O60: RESTART by what it finds running, and by the write that follows. -/
theorem wholePart : Obligations.WholePart := by
  refine ⟨fun s => ⟨rfl, rfl⟩, fun h s takes other => command_refuses takes (if_neg other),
    fun h s takes panel starting => command_refuses takes ((if_pos panel).trans (if_pos starting)), fun h s takes panel mode => ?_⟩
  intro port cpi emptied abandoned restarts written
  have key : ∀ base : Lsc, s.lsc.restarted = base → written base := by
    rintro _ rfl
    have leaves := fun l c (restart : (s.withEmitted []).restart = ((s.withEmitted []).restartedBlocks.withLsc l).withCpi c)
        (tx : c.tetherTx = none) (side : c.lastSide = s.cpi.lastSide) => show restarts l c by
      obtain ⟨t, ht, lsc, all, answers⟩ := restart_leaves takes panel mode restart tx side
      exact ⟨t, ht, lsc, all.siu, all.tsu, all.tcl, all.peu, all.spm, all.vwc, all.dou, all.flc, all.pages, answers⟩
    refine ⟨fun rests => ?_, fun due ready more => ?_, fun due ready spent => ?_⟩
    · refine leaves _ cpi (State.restart_rests (s := s.withEmitted []) fun e => ?_) rfl rfl
      exact rests.elim (fun clear => nomatch clear.symm.trans e.1) (fun other => other e.2)
    · exact leaves _ cpi (State.restart_writes (s := s.withEmitted []) due ready more) rfl rfl
    · exact leaves _ _ (State.restart_spent (s := s.withEmitted []) due ready spent) rfl rfl
  refine ⟨fun none => key _ ?_, fun q found => key _ ?_⟩
  · rw [Lsc.restarted, Lsc.abandon_other fun q j r k c head task serial record writing =>
      none q ⟨j, r, k, c, head, task, serial, record, writing⟩]
  · obtain ⟨j, r, k, c, head, task, serial, record, writing⟩ := found
    rw [Lsc.restarted, Lsc.abandon_store head task serial record writing]
    rfl

end Whole
end Sys2Proof.Machine

namespace Sys2Proof.Machine

/-! ### Acceptance of store job commands (09 R138) -/

section Checks
variable {s : State} {checks before after : List (Bool × Reason)} {clamped : Bool} {accept : State → State} {r : Reason}

/-- No check fails. -/
theorem firstFailure_of_all (h : ∀ x ∈ checks, x.1 = true) : firstFailure checks = none := by
  induction checks with
  | nil => rfl
  | cons x rest ih =>
    have holds : x.1 = true := h x (List.mem_cons_self ..)
    rw [firstFailure, if_pos holds]
    exact ih fun y hy => h y (List.mem_cons_of_mem _ hy)

/-- The first check that fails. -/
theorem firstFailure_some (h : ∀ x ∈ before, x.1 = true) : firstFailure (before ++ (false, r) :: after) = some r := by
  induction before with
  | nil => rfl
  | cons x rest ih =>
    have holds : x.1 = true := h x (List.mem_cons_self ..)
    rw [List.cons_append, firstFailure, if_pos holds]
    exact ih fun y hy => h y (List.mem_cons_of_mem _ hy)

theorem storeCommand_starting (mode : s.lsc.mode = .starting) : storeCommand s checks clamped accept = (s, refuse .busy) := if_pos mode

theorem storeCommand_refuses (mode : s.lsc.mode ≠ .starting) (h : ∀ x ∈ before, x.1 = true)
    (first : checks = before ++ (false, r) :: after) : storeCommand s checks clamped accept = (s, refuse r) := by
  rw [storeCommand, if_neg mode, first, firstFailure_some h]

theorem storeCommand_accepts (mode : s.lsc.mode ≠ .starting) (h : ∀ x ∈ checks, x.1 = true) :
    storeCommand s checks clamped accept = (accept s, accepted clamped .nothing) := by
  rw [storeCommand, if_neg mode, firstFailure_of_all h]

end Checks

section Table
variable (s : State) (p : Port)

theorem Lsc.writable_eq (l : Lsc) : l.writable = (decide (l.mode ≠ .readOnly), .storeReadOnly) := by
  cases mode : l.mode <;> simp [Lsc.writable, mode]

theorem Lsc.lessonUsed_eq (c : Lsc) (l : Nat) :
    c.lessonUsed l = (decide (l < 32 ∧ (c.lessons.getD l Config.emptyLesson).state ≠ .empty), .noSuchLesson) := by
  unfold Lsc.lessonUsed lessonAt
  generalize (c.lessons.getD l Config.emptyLesson).state = x
  cases x <;> simp

theorem Flc.exportReady_eq (f : Flc) :
    f.exportReady = decide (f.agreement = .feedUp ∧ f.result.map (·.exporting) = some true) := by
  unfold Flc.exportReady
  cases f.result.map (·.exporting) with
  | none => simp
  | some b => cases b <;> simp; cases f.agreement <;> rfl

theorem panel_eq : (p == .panel, Reason.notPanel) = (decide (p = .panel), .notPanel) := by
  cases p <;> rfl

/-- A page exists when its record is there and not WRITING. -/
theorem Lsc.pageExists_eq (c : Lsc) (l q : Nat) : c.pageExists l q =
    (((c.lessons.getD l Config.emptyLesson).pages[q]?).elim false fun r => decide (r.state ≠ .writing), .noSuchPage) := by
  unfold Lsc.pageExists pageAt lessonAt
  cases page : (c.lessons.getD l Config.emptyLesson).pages[q]? with
  | none => rfl
  | some r => cases state : r.state <;> simp [Option.filter, state]

/-! Table 9-2, command by command, in the words of the model's checks. -/

theorem jobChecks_store (b : Byte) : s.jobChecks p 34 [b] =
    [s.lsc.writable, s.lsc.anyOpen, s.hasRight p s.lsc.current .toSave, ((s.spm.find .latest).isSome, .noFrame),
      (decide (s.spm.pinCount < 2), .captureBusy), s.lsc.hasRoom] := by
  rw [Lsc.writable_eq]
  rfl

theorem jobChecks_recall (l q : Byte) : s.jobChecks p 35 [l, q] =
    [lessonExists l.toNat, s.hasRight p l.toNat .toShow, s.lsc.pageExists l.toNat q.toNat, s.lsc.hasRoom] := by
  rw [Lsc.pageExists_eq]
  unfold State.jobChecks
  simp only [List.getD_cons_zero, List.getD_cons_succ]
  cases (s.lsc.lessons.getD l.toNat Config.emptyLesson).pages[q.toNat]? <;> rfl

theorem jobChecks_export (l q : Byte) : s.jobChecks p 36 [l, q] =
    [lessonExists l.toNat, s.hasRight p l.toNat .toExport, s.lsc.pageExists l.toNat q.toNat,
      (!(lessonAt s.lsc.lessons l.toNat).lock, .exportLocked), (s.flc.exportReady, .feedNotReady), s.lsc.hasRoom] := by
  rw [Lsc.pageExists_eq, Flc.exportReady_eq]
  unfold State.jobChecks
  simp only [List.getD_cons_zero, List.getD_cons_succ]
  cases (s.lsc.lessons.getD l.toNat Config.emptyLesson).pages[q.toNat]? <;> rfl

theorem jobChecks_delete (l q : Byte) : s.jobChecks p 37 [l, q] =
    [s.lsc.writable, lessonExists l.toNat, s.hasRight p l.toNat .toSave, s.lsc.pageExists l.toNat q.toNat, s.lsc.lessonFree l.toNat,
      s.lsc.hasRoom] := by
  rw [Lsc.pageExists_eq, Lsc.writable_eq]
  unfold State.jobChecks
  simp only [List.getD_cons_zero, List.getD_cons_succ]
  cases (s.lsc.lessons.getD l.toNat Config.emptyLesson).pages[q.toNat]? <;> rfl

theorem jobChecks_move (l q x : Byte) : s.jobChecks p 38 [l, q, x] =
    [s.lsc.writable, lessonExists l.toNat, s.hasRight p l.toNat .toSave, s.lsc.pageExists l.toNat q.toNat, s.lsc.hasRoom] := by
  rw [Lsc.pageExists_eq, Lsc.writable_eq]
  unfold State.jobChecks
  simp only [List.getD_cons_zero, List.getD_cons_succ]
  cases (s.lsc.lessons.getD l.toNat Config.emptyLesson).pages[q.toNat]? <;> rfl

theorem jobChecks_open (l : Byte) : s.jobChecks p 39 [l] =
    [s.lsc.writable, lessonExists l.toNat, s.hasRight p l.toNat .toSave, s.lsc.hasRoom] := by
  rw [Lsc.writable_eq]
  rfl

theorem jobChecks_close : s.jobChecks p 40 [] = [s.lsc.writable, s.lsc.anyOpen, s.hasRight p s.lsc.current .toSave, s.lsc.hasRoom] := by
  rw [Lsc.writable_eq]
  rfl

theorem jobChecks_clear (l : Byte) : s.jobChecks p 41 [l] =
    [s.lsc.writable, lessonExists l.toNat, s.hasRight p l.toNat .toSave, s.lsc.lessonFree l.toNat, s.lsc.hasRoom] := by
  rw [Lsc.writable_eq]
  rfl

theorem jobChecks_name (l : Byte) (name : List Byte) : s.jobChecks p 42 (l :: name) =
    [s.lsc.writable, s.lsc.lessonUsed l.toNat, s.hasRight p l.toNat .toSave, s.lsc.hasRoom] := by
  rw [Lsc.writable_eq, Lsc.lessonUsed_eq]
  rfl

theorem jobChecks_flags (l k x : Byte) : s.jobChecks p 43 [l, k, x] =
    [(p == .panel, .notPanel), s.lsc.writable, s.lsc.lessonUsed l.toNat, s.lsc.hasRoom] := by
  rw [Lsc.writable_eq, Lsc.lessonUsed_eq, panel_eq]
  rfl

theorem jobChecks_save : s.jobChecks p 44 [] = [s.lsc.writable, s.lsc.hasRoom] := by
  rw [Lsc.writable_eq]
  rfl

end Table

/-- What a command's arguments are, by their length. -/
theorem args_of_length {n : Nat} {args : List Byte} (h : (args.length == n) = true) : args.length = n := beq_iff_eq.mp h

/-- A store job command does what its checks in the order of Table 9-2 say. -/
theorem workOf_job {kind : Byte} {args : List Byte} (s : State) (h : CmdHeader) (low : 34 ≤ kind.toNat) (high : kind.toNat ≤ 44)
    (length : lengthAllowed kind.toNat args.length = true) :
    ∃ clamped accept, workOf kind h args s = storeCommand s (s.jobChecks h.port kind.toNat args) clamped accept := by
  have range : kind = 34 ∨ kind = 35 ∨ kind = 36 ∨ kind = 37 ∨ kind = 38 ∨ kind = 39 ∨ kind = 40 ∨ kind = 41 ∨ kind = 42 ∨ kind = 43 ∨
      kind = 44 := by
    have values : kind.toNat ∈ [34, 35, 36, 37, 38, 39, 40, 41, 42, 43, 44] := by
      simp only [List.mem_cons, List.not_mem_nil, or_false]
      omega
    simp only [List.mem_cons, List.not_mem_nil, or_false] at values
    simp only [← BitVec.toNat_inj]
    exact values
  rcases range with rfl | rfl | rfl | rfl | rfl | rfl | rfl | rfl | rfl | rfl | rfl
  · obtain ⟨b, rfl⟩ := List.length_eq_one_iff.mp (args_of_length length)
    exact ⟨_, _, by rw [show (34 : Byte).toNat = 34 from rfl, jobChecks_store]; rfl⟩
  · obtain ⟨l, q, rfl⟩ := List.length_eq_two.mp (args_of_length length)
    exact ⟨_, _, by rw [show (35 : Byte).toNat = 35 from rfl, jobChecks_recall]; rfl⟩
  · obtain ⟨l, q, rfl⟩ := List.length_eq_two.mp (args_of_length length)
    exact ⟨_, _, by rw [show (36 : Byte).toNat = 36 from rfl, jobChecks_export]; rfl⟩
  · obtain ⟨l, q, rfl⟩ := List.length_eq_two.mp (args_of_length length)
    exact ⟨_, _, by rw [show (37 : Byte).toNat = 37 from rfl, jobChecks_delete]; rfl⟩
  · obtain ⟨l, q, x, rfl⟩ := List.length_eq_three.mp (args_of_length length)
    exact ⟨_, _, by rw [show (38 : Byte).toNat = 38 from rfl, jobChecks_move]; rfl⟩
  · obtain ⟨l, rfl⟩ := List.length_eq_one_iff.mp (args_of_length length)
    exact ⟨_, _, by rw [show (39 : Byte).toNat = 39 from rfl, jobChecks_open]; rfl⟩
  · obtain rfl := List.eq_nil_of_length_eq_zero (args_of_length length)
    exact ⟨_, _, by rw [show (40 : Byte).toNat = 40 from rfl, jobChecks_close]; rfl⟩
  · obtain ⟨l, rfl⟩ := List.length_eq_one_iff.mp (args_of_length length)
    exact ⟨_, _, by rw [show (41 : Byte).toNat = 41 from rfl, jobChecks_clear]; rfl⟩
  · obtain ⟨l, name, rfl⟩ := List.exists_cons_of_length_pos (Nat.lt_of_succ_le (of_decide_eq_true length))
    exact ⟨_, _, by rw [show (42 : Byte).toNat = 42 from rfl, jobChecks_name]; rfl⟩
  · obtain ⟨l, k, x, rfl⟩ := List.length_eq_three.mp (args_of_length length)
    exact ⟨_, _, by rw [show (43 : Byte).toNat = 43 from rfl, jobChecks_flags]; rfl⟩
  · obtain rfl := List.eq_nil_of_length_eq_zero (args_of_length length)
    exact ⟨_, _, by rw [show (44 : Byte).toNat = 44 from rfl, jobChecks_save]; rfl⟩

/-- Settles O52: every store job command goes through its checks in order. -/
theorem jobsCheckedInOrder : Obligations.JobsCheckedInOrder := by
  intro c kind h args s hc named low high length takes
  obtain ⟨clamped, accept, work⟩ := workOf_job (s.withEmitted []) h low high length
  rw [exec_command s hc (.inl named)]
  refine ⟨fun starting => ?_, fun mode before after reason checks passed => ?_⟩
  · exact command_refuses takes (work.trans (storeCommand_starting starting))
  · exact command_refuses takes (work.trans (storeCommand_refuses (s := s.withEmitted []) mode passed checks))

end Sys2Proof.Machine

namespace Sys2Proof.Machine

section Accepted
variable {s : State} {h : CmdHeader} {l q : Byte} {r : PageRecord}

/-- What the checks of every store job command ask of the store: it is not STARTING, and the queue has room. -/
structure State.TakesJobs (s : State) : Prop where
  mode : s.lsc.mode ≠ .starting
  room : s.lsc.queue.length < 16

/-- What the checks of a command that changes the table ask besides. -/
structure State.TakesEdits (s : State) : Prop extends s.TakesJobs where
  ready : s.lsc.mode = .ready

/-- A port holds a right on a lesson. -/
def State.may (s : State) (p : Port) (l : Byte) (r : Right) : Prop := l.toNat < 32 ∧ s.cpi.allows p l.toNat r = true

/-- A page that is there and not WRITING. -/
def State.hasPage (s : State) (l q : Byte) (r : PageRecord) : Prop :=
  (s.lsc.lessons.getD l.toNat Config.emptyLesson).pages[q.toNat]? = some r ∧ r.state ≠ .writing

theorem State.hasPage.at (h : s.hasPage l q r) : pageAt s.lsc.lessons l.toNat q.toNat = some r := by
  obtain ⟨page, state⟩ := h
  rw [pageAt, lessonAt, page]
  simp [Option.filter, state]

theorem Lsc.hasRoom_ok (h : s.TakesJobs) : s.lsc.hasRoom.1 = true := decide_eq_true h.room

theorem Lsc.writable_ok (h : s.TakesEdits) : s.lsc.writable.1 = true := by
  rw [Lsc.writable, h.ready]
  rfl

theorem lessonExists_ok {p : Port} {t : Right} (h : s.may p l t) : (lessonExists l.toNat).1 = true := decide_eq_true h.1

theorem State.hasPage.ok (h : s.hasPage l q r) : (s.lsc.pageExists l.toNat q.toNat).1 = true := by
  rw [Lsc.pageExists, h.at]
  rfl

theorem State.hasPage.serial (h : s.hasPage l q r) : s.lsc.serialAt l.toNat q.toNat = some r.serial := by
  rw [Lsc.serialAt, h.at]
  rfl

theorem Lsc.lessonFree_ok (free : (s.lsc.lessons.getD l.toNat Config.emptyLesson).kept = false) : (s.lsc.lessonFree l.toNat).1 = true := by
  show (!(s.lsc.lessons.getD l.toNat Config.emptyLesson).kept) = true
  rw [free]
  rfl

theorem Lsc.lessonUsed_ok (exist : l.toNat < 32) (used : (s.lsc.lessons.getD l.toNat Config.emptyLesson).state ≠ .empty) :
    (s.lsc.lessonUsed l.toNat).1 = true := by
  rw [Lsc.lessonUsed_eq]
  exact decide_eq_true ⟨exist, used⟩

theorem Lsc.current_eq {k : Nat} (current : currentLesson s.lsc.lessons = some k) : s.lsc.anyOpen.1 = true ∧ s.lsc.current = k := by
  rw [Lsc.anyOpen, Lsc.current, current]
  exact ⟨rfl, rfl⟩

/-- The checks of a list hold when its first holds and the others do. -/
theorem allHold_cons {x : Bool × Reason} {rest : List (Bool × Reason)} (first : x.1 = true) (others : ∀ y ∈ rest, y.1 = true) :
    ∀ y ∈ x :: rest, y.1 = true := List.forall_mem_cons.mpr ⟨first, others⟩

theorem allHold_nil : ∀ y ∈ ([] : List (Bool × Reason)), y.1 = true := fun _ h => nomatch h

/-! What an accepted command makes of the queue, command by command. -/

theorem recall_accepted (ok : s.TakesJobs) (may : s.may h.port l .toShow) (page : s.hasPage l q r) :
    workRecall h [l, q] s = (s.enqueue (newJob h (.recall l.toNat q.toNat) (some r.serial) none), accepted false .nothing) := by
  rw [← page.serial]
  refine (parsed_some _ _ s).trans ((storeCommand_accepts ok.mode ?_).trans rfl)
  exact (allHold_cons (lessonExists_ok may) (allHold_cons may.2 (allHold_cons page.ok
    (allHold_cons (Lsc.hasRoom_ok ok) allHold_nil))))

theorem export_accepted {a : AgreementResult} (ok : s.TakesJobs) (may : s.may h.port l .toExport) (page : s.hasPage l q r)
    (free : (s.lsc.lessons.getD l.toNat Config.emptyLesson).lock = false) (up : s.flc.agreement = .feedUp)
    (result : s.flc.result = some a) (exporting : a.exporting = true) :
    workExport h [l, q] s = (s.enqueue (newJob h (.exportPage l.toNat q.toNat) (some r.serial) none), accepted false .nothing) := by
  have ready : s.flc.exportReady = true := by rw [Flc.exportReady_eq, up, result]; simp [exporting]
  have unlocked : (!(s.lsc.lessons.getD l.toNat Config.emptyLesson).lock) = true := by rw [free]; rfl
  rw [← page.serial]
  refine (parsed_some _ _ s).trans ((storeCommand_accepts ok.mode ?_).trans rfl)
  exact (allHold_cons (lessonExists_ok may) (allHold_cons may.2 (allHold_cons page.ok
    (allHold_cons unlocked (allHold_cons ready (allHold_cons (Lsc.hasRoom_ok ok) allHold_nil))))))

theorem delete_accepted (ok : s.TakesEdits) (may : s.may h.port l .toSave) (page : s.hasPage l q r)
    (free : (s.lsc.lessons.getD l.toNat Config.emptyLesson).kept = false) :
    workDelete h [l, q] s = (s.enqueue (newJob h (.delete l.toNat q.toNat) (some r.serial) none), accepted false .nothing) := by
  rw [← page.serial]
  refine (parsed_some _ _ s).trans ((storeCommand_accepts ok.mode ?_).trans rfl)
  exact (allHold_cons (Lsc.writable_ok ok) (allHold_cons (lessonExists_ok may) (allHold_cons may.2
    (allHold_cons page.ok (allHold_cons (Lsc.lessonFree_ok free) (allHold_cons (Lsc.hasRoom_ok ok.toTakesJobs) allHold_nil))))))

theorem move_accepted (ok : s.TakesEdits) (may : s.may h.port l .toSave) (page : s.hasPage l q r) (x : Byte) :
    workMove h [l, q, x] s = (s.enqueue (newJob h (.move l.toNat q.toNat (min 63 x.toNat)) (some r.serial) none),
      accepted (decide (63 < x.toNat)) .nothing) := by
  rw [← page.serial]
  refine (parsed_some _ _ s).trans ((storeCommand_accepts ok.mode ?_).trans rfl)
  exact (allHold_cons (Lsc.writable_ok ok) (allHold_cons (lessonExists_ok may) (allHold_cons may.2
    (allHold_cons page.ok (allHold_cons (Lsc.hasRoom_ok ok.toTakesJobs) allHold_nil)))))

theorem open_accepted (ok : s.TakesEdits) (may : s.may h.port l .toSave) :
    workOpenLesson h [l] s = (s.enqueue (newJob h (.openLesson l.toNat) none none), accepted false .nothing) := by
  refine (parsed_some _ _ s).trans ((storeCommand_accepts ok.mode ?_).trans rfl)
  exact (allHold_cons (Lsc.writable_ok ok) (allHold_cons (lessonExists_ok may) (allHold_cons may.2
    (allHold_cons (Lsc.hasRoom_ok ok.toTakesJobs) allHold_nil))))

theorem close_accepted {k : Nat} (ok : s.TakesEdits) (current : currentLesson s.lsc.lessons = some k)
    (may : s.cpi.allows h.port k .toSave = true) :
    workCloseLesson h [] s = (s.enqueue (newJob h (.closeLesson k) none none), accepted false .nothing) := by
  obtain ⟨any, rfl⟩ := Lsc.current_eq current
  refine (parsed_some _ _ s).trans ((storeCommand_accepts ok.mode ?_).trans rfl)
  exact (allHold_cons (Lsc.writable_ok ok) (allHold_cons any (allHold_cons may
    (allHold_cons (Lsc.hasRoom_ok ok.toTakesJobs) allHold_nil))))

theorem clear_accepted (ok : s.TakesEdits) (may : s.may h.port l .toSave)
    (free : (s.lsc.lessons.getD l.toNat Config.emptyLesson).kept = false) :
    workClearLesson h [l] s = (s.enqueue (newJob h (.clearLesson l.toNat) none none), accepted false .nothing) := by
  refine (parsed_some _ _ s).trans ((storeCommand_accepts ok.mode ?_).trans rfl)
  exact (allHold_cons (Lsc.writable_ok ok) (allHold_cons (lessonExists_ok may) (allHold_cons may.2
    (allHold_cons (Lsc.lessonFree_ok free) (allHold_cons (Lsc.hasRoom_ok ok.toTakesJobs) allHold_nil)))))

/-- Whether a name is reported as clamped: it is too long, or a byte of it is not printable. -/
theorem nameArg_eq (name : List Byte) : nameArg name = ((name.take 24).map fun b => if 32 ≤ b.toNat ∧ b.toNat ≤ 126 then b else 32,
    decide (24 < name.length ∨ ∃ b ∈ name.take 24, b.toNat < 32 ∨ 126 < b.toNat)) := by
  have outside : ∀ b : Byte, (!(decide (32 ≤ b.toNat) && decide (b.toNat ≤ 126))) = decide (b.toNat < 32 ∨ 126 < b.toNat) := fun b => by
    rw [← Bool.decide_and, ← decide_not]
    congr 1
    apply propext
    omega
  unfold nameArg
  dsimp only
  rw [Bool.decide_or]
  congr 2
  rw [Bool.eq_iff_iff]
  simp only [List.any_eq_true, outside, decide_eq_true_eq]

theorem name_accepted (ok : s.TakesEdits) (may : s.may h.port l .toSave)
    (used : (s.lsc.lessons.getD l.toNat Config.emptyLesson).state ≠ .empty) (name : List Byte) :
    workNameLesson h (l :: name) s = (s.enqueue (newJob h (.nameLesson l.toNat
        ((name.take 24).map fun b => if 32 ≤ b.toNat ∧ b.toNat ≤ 126 then b else 32)) none none),
      accepted (decide (24 < name.length ∨ ∃ b ∈ name.take 24, b.toNat < 32 ∨ 126 < b.toNat)) .nothing) := by
  have accepts : workNameLesson h (l :: name) s = (s.enqueue (newJob h (.nameLesson l.toNat (nameArg name).1) none none),
      accepted (nameArg name).2 .nothing) := by
    refine (parsed_some _ _ s).trans ((storeCommand_accepts ok.mode ?_).trans rfl)
    exact (allHold_cons (Lsc.writable_ok ok) (allHold_cons (Lsc.lessonUsed_ok may.1 used) (allHold_cons may.2
      (allHold_cons (Lsc.hasRoom_ok ok.toTakesJobs) allHold_nil))))
  rw [accepts, nameArg_eq]

theorem flags_accepted (ok : s.TakesEdits) (panel : h.port = .panel) (exist : l.toNat < 32)
    (used : (s.lsc.lessons.getD l.toNat Config.emptyLesson).state ≠ .empty) (k x : Byte) :
    workSetLessonFlags h [l, k, x] s = (s.enqueue (newJob h (.setLessonFlags l.toNat (flagArg k).1 (flagArg x).1) none none),
      accepted ((flagArg k).2 || (flagArg x).2) .nothing) := by
  refine (parsed_some _ _ s).trans ((storeCommand_accepts ok.mode ?_).trans rfl)
  exact (allHold_cons (beq_iff_eq.mpr panel) (allHold_cons (Lsc.writable_ok ok)
    (allHold_cons (Lsc.lessonUsed_ok exist used) (allHold_cons (Lsc.hasRoom_ok ok.toTakesJobs) allHold_nil))))

theorem save_accepted (ok : s.TakesEdits) :
    workSaveSettings h [] s = (s.enqueue (newJob h .saveSettings none none), accepted false .nothing) := by
  refine (parsed_some _ _ s).trans ((storeCommand_accepts ok.mode ?_).trans rfl)
  exact (allHold_cons (Lsc.writable_ok ok) (allHold_cons (Lsc.hasRoom_ok ok.toTakesJobs) allHold_nil))

/-- The crop that a STORE's argument asks for. -/
def State.cropAsked (s : State) (b : Byte) : CropKind × Rect :=
  if b = 0 then (.view, { x0 := s.vwc.window.x0, y0 := s.vwc.window.y0, w := s.vwc.window.ww, h := s.vwc.window.wh })
  else if b = 1 then
    match s.tcl.box with
    | some x => (.page, { x0 := 64 * x.c0, y0 := 64 * x.r0, w := 64 * (x.c1 - x.c0 + 1), h := 64 * (x.r1 - x.r0 + 1) })
    | none => (.fullFallback, { x0 := 0, y0 := 0, w := 3840, h := 2880 })
  else (.full, { x0 := 0, y0 := 0, w := 3840, h := 2880 })

theorem State.cropAsked_eq (s : State) (b : Byte) :
    s.cropFor (cropArg b).1 = s.cropAsked b ∧ (cropArg b).2 = decide (2 < b.toNat) := by
  have two : ∀ x : Byte, x ≠ 0 → x ≠ 1 → (x != 2) = decide (2 < x.toNat) := fun x => by revert x; decide
  unfold cropArg State.cropAsked
  by_cases zero : b = 0
  · subst zero
    exact ⟨rfl, rfl⟩
  · by_cases one : b = 1
    · subst one
      rw [if_neg zero, if_pos rfl, if_neg zero, if_pos rfl]
      unfold State.cropFor
      cases s.tcl.box <;> exact ⟨rfl, rfl⟩
    · rw [if_neg zero, if_neg one, if_neg zero, if_neg one]
      exact ⟨rfl, two b zero one⟩

/-- What the acceptance of a STORE fixes. -/
def State.captured (s : State) (b : Byte) (f : Nat) : Capture :=
  { crop := (s.cropAsked b).1, rect := (s.cropAsked b).2, frame := f, cx := s.vwc.window.cx, cy := s.vwc.window.cy, zc := s.vwc.zc }

theorem store_accepted {k n f : Nat} (ok : s.TakesEdits) (current : currentLesson s.lsc.lessons = some k)
    (may : s.cpi.allows h.port k .toSave = true) (here : s.spm.find .latest = some n) (live : (s.spm.slot n).content = .liveFrame f)
    (pins : s.spm.pinCount < 2) (b : Byte) : workStore h [b] s =
      ((s.withSpm (s.spm.pin n { port := h.port, marker := h.marker })).enqueue (newJob h (.store k (s.captured b f)) none (some n)),
        accepted (decide (2 < b.toNat)) .nothing) := by
  obtain ⟨any, rfl⟩ := Lsc.current_eq current
  obtain ⟨crop, clamped⟩ := s.cropAsked_eq b
  have found : (s.spm.find .latest).isSome = true := by rw [here]; rfl
  have accepts : workStore h [b] s = (s.acceptStore h (cropArg b).1, accepted (cropArg b).2 .nothing) := by
    refine (parsed_some _ _ s).trans ((storeCommand_accepts ok.mode ?_).trans rfl)
    exact (allHold_cons (Lsc.writable_ok ok) (allHold_cons any (allHold_cons may (allHold_cons found
      (allHold_cons (decide_eq_true pins) (allHold_cons (Lsc.hasRoom_ok ok.toTakesJobs) allHold_nil))))))
  have pinned : s.pinLatest { port := h.port, marker := h.marker } = s.withSpm (s.spm.pin n { port := h.port, marker := h.marker }) := by
    rw [State.pinLatest, here]
  rw [accepts, clamped, State.acceptStore, pinned, State.capture, crop, Spm.latestFrame_live here live, here]
  rfl

end Accepted
end Sys2Proof.Machine

namespace Sys2Proof.Machine

/-! ### Jobs that join the queue (09 R137) -/

section Joining
variable {s u : State} {h : CmdHeader} {kind : Byte} {args : List Byte} {f : State → State × Answer} {j : Job} {clamped : Bool}

/-- Behind another job, a job joins the tail. -/
theorem State.enqueue_behind (others : s.lsc.queue ≠ []) (j : Job) : s.enqueue j = s.withQueue (s.lsc.queue ++ [j]) := by
  refine if_neg fun e => others ?_
  rw [Bool.and_eq_true, List.isEmpty_iff] at e
  exact e.1

/-- A job command accepted behind another job. -/
theorem joins (takes : s.takes h.port) (others : s.lsc.queue ≠ [])
    (work : f (s.withEmitted []) = ((s.withEmitted []).enqueue j, accepted clamped .nothing)) (hk : kind ≠ 32 ∧ kind ≠ 59 := by decide) :
    ∃ t, command kind h args s f = .next t ∧ t.lsc = { s.lsc with queue := s.lsc.queue ++ [j] } ∧
      s.answers t s.cpi kind h (accepted clamped .nothing) [.lsc] := by
  rw [State.enqueue_behind (s := s.withEmitted []) others] at work
  obtain ⟨t, ht, shows, answers⟩ := command_works (args := args) takes work (bs := [.lsc]) (State.unchanged_by (lsc := .inl (by decide))) hk
  exact ⟨t, ht, shows.lsc, answers⟩

/-- Settles O51: command by command. -/
theorem jobsJoinQueue : Obligations.JobsJoinQueue := by
  intro h s takes mode others room job joined lesson page may writable
  have jobs : (s.withEmitted []).TakesJobs := ⟨mode, room⟩
  have edits : writable → (s.withEmitted []).TakesEdits := fun ready => ⟨jobs, ready⟩
  refine ⟨fun b l n f ready current reach here live pins => ?_, fun l p r reach found => ?_,
    fun l p r a reach found unlocked up result able => ?_, fun l p r ready reach found free => ?_, fun l p q r ready reach found => ?_,
    fun l ready reach => ?_, fun l ready current reach => ?_, fun l ready reach free => ?_, fun l name ready reach used => ?_,
    fun l k x ready exist used panel => ?_, fun ready => ?_⟩
  · have work := store_accepted (s := s.withEmitted []) (edits ready) current reach here live pins b
    rw [State.enqueue_behind (s := (s.withEmitted []).withSpm _) others] at work
    obtain ⟨t, ht, shows, answers⟩ := command_works (kind := 34) (args := [b]) takes work (bs := [.lsc, .spm]) (State.unchanged_by (spm := .inl (by decide)) (lsc := .inl (by decide)))
    exact ⟨t, ht, shows.lsc, shows.spm, answers⟩
  · exact joins takes others (recall_accepted jobs reach found)
  · exact joins takes others (export_accepted jobs reach found unlocked up result able)
  · exact joins takes others (delete_accepted (edits ready) reach found free)
  · exact joins takes others (move_accepted (edits ready) reach found q)
  · exact joins takes others (open_accepted (edits ready) reach)
  · exact joins takes others (close_accepted (edits ready) current reach)
  · exact joins takes others (clear_accepted (edits ready) reach free)
  · exact joins takes others (name_accepted (edits ready) reach used name)
  · exact ⟨_, _, _, _, flagArg_says k, flagArg_says x, joins takes others (flags_accepted (edits ready) panel exist used k x)⟩
  · exact joins takes others (save_accepted (edits ready))

end Joining
end Sys2Proof.Machine

namespace Sys2Proof.Machine

/-! ### The head of the queue (09 R137, R149) -/

section Heads
variable {s t : State} {j : Job} {rest : List Job} {r : Reason}

/-- The pool without a job's pin. -/
def Spm.unpinned (p : Spm) (j : Job) : Spm :=
  match j.pin with
  | none => p
  | some n => p.unpin n { port := j.port, marker := j.marker }

theorem State.dropPin_eq (s : State) (j : Job) : s.dropPin j = s.withSpm (s.spm.unpinned j) := by
  unfold State.dropPin Spm.unpinned
  cases j.pin <;> rfl

theorem Spm.unpinned_none (none : j.pin = none) (p : Spm) : p.unpinned j = p := by
  rw [Spm.unpinned, none]

/-- The head has left the queue with its record. -/
def State.headEnded (s : State) (j : Job) (rest : List Job) (r : Reason) : State :=
  { s with lsc := { s.lsc with queue := rest }, cpi := s.cpi.given j.port (j.record (j.ending r) r s.siu.frameNumber) }

theorem State.finishHead_eq (queue : s.lsc.queue = j :: rest) (r : Reason) : s.finishHead r = s.headEnded j rest r := by
  rw [State.finishHead, queue]
  rfl

/-- A head whose run goes on. -/
theorem State.runNext_goes (queue : s.lsc.queue = j :: rest) (begins : s.beginRun j = (t, none)) : s.runNext = t := by
  rw [State.runNext, queue, List.length_cons, State.advance, queue]
  dsimp only
  rw [begins]

/-- An only head that ends as its run begins. -/
theorem State.runNext_ends {k : Job} (queue : s.lsc.queue = [j]) (begins : s.beginRun j = (t, some r)) (left : t.lsc.queue = [k]) :
    s.runNext = t.headEnded k [] r := by
  rw [State.runNext, queue, List.length_singleton, State.advance, queue]
  dsimp only
  rw [begins]
  exact State.finishHead_eq left r

/-- An only head that ends. -/
theorem State.endHead_only (queue : s.lsc.queue = [j]) (r : Reason) : s.endHead r = s.headEnded j [] r := by
  rw [State.endHead, State.finishHead_eq queue]
  exact State.runNext_nil rfl

/-- What a run begins as, by its task. -/
theorem State.beginRun_recall {l p : Nat} (task : j.task = .recall l p) : s.beginRun j = s.beginRecall j := by
  simp [State.beginRun, task, JobTask.changes]

theorem State.beginRun_export {l p : Nat} (task : j.task = .exportPage l p) : s.beginRun j = s.beginExport j := by
  simp [State.beginRun, task, JobTask.changes]

theorem State.beginRun_store {l : Nat} {c : Capture} (ready : s.lsc.mode = .ready) (task : j.task = .store l c) :
    s.beginRun j = s.beginStore j l c := by
  simp [State.beginRun, task, ready]

theorem State.beginRun_save (ready : s.lsc.mode = .ready) (task : j.task = .saveSettings) : s.beginRun j = s.beginSave j := by
  simp [State.beginRun, task, ready]

/-- The tasks that edit the lesson table. -/
def JobTask.isEdit : JobTask → Bool
  | .store _ _ => false
  | .recall _ _ => false
  | .exportPage _ _ => false
  | .saveSettings => false
  | _ => true

theorem State.beginRun_edit (ready : s.lsc.mode = .ready) (edit : j.task.isEdit = true) : s.beginRun j = s.beginEdit j := by
  cases task : j.task <;> simp_all [State.beginRun, JobTask.isEdit]

/-- A serial that no record holds. -/
theorem recordWith_none {ls : List LessonRecord} {q : Half} (none : ∀ r ∈ recordsOf ls, r.serial ≠ q) : recordWith ls q = Option.none := by
  refine List.find?_eq_none.mpr fun r hr => ?_
  rw [beq_iff_eq]
  exact none r hr

theorem holderOf_none {ls : List LessonRecord} {q : Half} (none : ∀ r ∈ recordsOf ls, r.serial ≠ q) : holderOf ls q = Option.none := by
  refine List.findIdx?_eq_none_iff.mpr fun l hl => ?_
  rw [List.any_eq_false]
  intro r hr
  rw [beq_iff_eq]
  exact none r (List.mem_flatMap.mpr ⟨l, hl, hr⟩)

end Heads

/-! ### Withdrawal (09 R150) -/

section Withdrawal
variable {s : State} {h : CmdHeader} {m : Byte} {j : Job} {before after : List Job}

/-- Whether a job is of a port and has a marker. -/
def Job.isOf (j : Job) (p : Port) (m : Byte) : Prop := j.port = p ∧ j.marker = m

theorem Job.isOf_iff (j : Job) (p : Port) (m : Byte) : (j.port == p && j.marker == m) = true ↔ j.isOf p m := by
  rw [Bool.and_eq_true, beq_iff_eq, beq_iff_eq]
  rfl

/-- The oldest job of a port with a marker. -/
theorem Lsc.findJob_eq (queue : s.lsc.queue = before ++ j :: after) (others : ∀ i ∈ before, ¬ i.isOf h.port m) (mine : j.isOf h.port m) :
    s.lsc.findJob h.port m = some before.length := by
  rw [Lsc.findJob, queue, List.findIdx?_append, List.findIdx?_eq_none_iff.mpr fun i hi =>
    Bool.eq_false_iff.mpr (mt (i.isOf_iff h.port m).mp (others i hi)), List.findIdx?_cons,
    if_pos ((j.isOf_iff h.port m).mpr mine)]
  simp

theorem Lsc.findJob_none (others : ∀ i ∈ s.lsc.queue, ¬ i.isOf h.port m) : s.lsc.findJob h.port m = none :=
  List.findIdx?_eq_none_iff.mpr fun i hi => Bool.eq_false_iff.mpr (mt (i.isOf_iff h.port m).mp (others i hi))

theorem withdraw_finds (mode : s.lsc.mode ≠ .starting) (queue : s.lsc.queue = before ++ j :: after)
    (others : ∀ i ∈ before, ¬ i.isOf h.port m) (mine : j.isOf h.port m) : workWithdraw h [m] s = s.withdrawAt before.length := by
  refine (parsed_some _ _ s).trans ((if_neg mode).trans ?_)
  rw [Lsc.findJob_eq queue others mine]

/-- The state once a job has left the queue with the record WITHDRAWN. -/
def State.jobGone (s : State) (j : Job) (queue : List Job) : State :=
  { s with
    lsc := { s.lsc with queue := queue }, spm := s.spm.unpinned j,
    cpi := s.cpi.given j.port (j.record .withdrawn .noReason s.siu.frameNumber) }

theorem State.withdrawAt_running (queue : s.lsc.queue = before ++ j :: after) (running : j.state = .running) :
    s.withdrawAt before.length =
      (s.withQueue (before ++ { j with withdrawn := true } :: after), doneWith false (.withdrawal true)) := by
  have here : s.lsc.queue[before.length]? = some j := by rw [queue]; simp
  rw [State.withdrawAt, here]
  dsimp only
  rw [if_pos running, queue]
  simp

theorem State.withdrawAt_waiting (queue : s.lsc.queue = before ++ j :: after) (waits : j.state ≠ .running) :
    s.withdrawAt before.length =
      (if before = [] ∧ s.lsc.activity = .idle then (s.jobGone j (before ++ after)).runNext else s.jobGone j (before ++ after),
        doneWith false (.withdrawal false)) := by
  have here : s.lsc.queue[before.length]? = some j := by rw [queue]; simp
  have erased : (before ++ j :: after).eraseIdx before.length = before ++ after := by simp [List.eraseIdx_append_of_length_le]
  have resting : (before.length = 0 ∧ s.lsc.resting = true) ↔ (before = [] ∧ s.lsc.activity = .idle) := by
    rw [List.length_eq_zero_iff, Lsc.resting, beq_iff_eq]
  rw [State.withdrawAt, here]
  dsimp only
  rw [if_neg waits, State.removeJob, queue, erased, State.dropPin_eq]
  simp only [resting]
  rfl

/-- An edit of a page that is gone. -/
theorem JobTask.edit_delete_gone {l p : Nat} {serial : Option Half} {ls : List LessonRecord}
    (gone : ∀ q, serial = some q → holderOf ls q = none) : (JobTask.delete l p).edit serial ls = .error .noSuchPage := by
  cases serial with
  | none => rfl
  | some q => simp [JobTask.edit, gone q rfl]

theorem JobTask.edit_move_gone {l p target : Nat} {serial : Option Half} {ls : List LessonRecord}
    (gone : ∀ q, serial = some q → holderOf ls q = none) : (JobTask.move l p target).edit serial ls = .error .noSuchPage := by
  cases serial with
  | none => rfl
  | some q => simp [JobTask.edit, gone q rfl]

theorem State.beginEdit_fails {r : Reason} (fails : j.task.edit j.serial s.lsc.lessons = .error r) : s.beginEdit j = (s, some r) := by
  rw [State.beginEdit, fails]

/-- WITHDRAW of the head, where the next job ends as its run begins. -/
theorem withdraw_ends {i k : Job} {pool : Spm} {r : Reason} (mode : s.lsc.mode ≠ .starting) (idle : s.lsc.activity = .idle)
    (queue : s.lsc.queue = [i, k]) (mine : i.isOf h.port m) (waits : i.state ≠ .running)
    (begins : (s.jobGone i [k]).beginRun k = ((s.jobGone i [k]).withSpm pool, some r)) :
    workWithdraw h [m] s = (((s.jobGone i [k]).withSpm pool).headEnded k [] r, doneWith false (.withdrawal false)) := by
  have finds := withdraw_finds (h := h) (before := []) mode queue (fun _ h => nomatch h) mine
  have next := State.withdrawAt_waiting (before := []) queue waits
  rw [if_pos ⟨rfl, idle⟩] at next
  rw [finds, next]
  exact congrArg (·, _) (State.runNext_ends (s := s.jobGone i [k]) rfl begins rfl)

/-- Settles O53: by what the job found is doing, and by the job behind it. -/
theorem withdrawalsTaken : Obligations.WithdrawalsTaken := by
  intro h m s takes mine record
  refine ⟨fun starting => command_refuses takes ((parsed_some _ _ _).trans (if_pos starting)), fun mode others => ?_,
    fun mode before j after queue others own => ?_⟩
  · refine command_refuses takes ((parsed_some _ _ _).trans ((if_neg mode).trans ?_))
    rw [Lsc.findJob_none (s := s.withEmitted []) others]
  have finds := withdraw_finds (s := s.withEmitted []) (h := h) mode queue others own
  refine ⟨fun running => ?_, fun waits alone => ?_, fun k l p q waits first only idle ready task serial gone free => ?_,
    fun k l p q r i n waits first only idle free task serial found holds => ?_⟩
  · have work := finds.trans (State.withdrawAt_running (s := s.withEmitted []) queue running)
    obtain ⟨t, ht, shows, answers⟩ := command_works (kind := 45) (args := [m]) takes work (bs := [.lsc]) (State.unchanged_by (lsc := .inl (by decide)))
    exact ⟨t, ht, shows.lsc, answers⟩
  · have work := finds.trans (State.withdrawAt_waiting (s := s.withEmitted []) queue waits)
    have rests : (if before = [] ∧ (s.withEmitted []).lsc.activity = .idle then ((s.withEmitted []).jobGone j (before ++ after)).runNext
        else (s.withEmitted []).jobGone j (before ++ after)) = (s.withEmitted []).jobGone j (before ++ after) := by
      split
      · next head =>
        have last := alone.resolve_left (not_not.mpr head.1) |>.resolve_right (not_not.mpr head.2)
        exact State.runNext_nil (by rw [head.1, last]; rfl)
      · rfl
    rw [rests] at work
    obtain ⟨t, ht, shows, answers⟩ := command_works (kind := 45) (args := [m]) takes work (bs := [.lsc, .spm]) (State.unchanged_by (spm := .inl (by decide)) (lsc := .inl (by decide)))
    exact ⟨t, ht, shows.lsc, shows.spm, answers⟩
  · subst first only
    have fails : ((s.withEmitted []).jobGone j [k]).beginRun k = (((s.withEmitted []).jobGone j [k]).withSpm s.spm, some .noSuchPage) := by
      refine (State.beginRun_edit (s := (s.withEmitted []).jobGone j [k]) ready (by rw [task]; rfl)).trans
        ((State.beginEdit_fails (r := .noSuchPage) ?_).trans ?_)
      · rw [task]
        exact JobTask.edit_delete_gone fun q' e => by
          obtain rfl := Option.some.inj (e.symm.trans serial)
          exact holderOf_none gone
      · rw [State.jobGone, Spm.unpinned_none free]
        rfl
    have work := withdraw_ends (s := s.withEmitted []) (h := h) mode idle queue own waits fails
    obtain ⟨t, ht, shows, answers⟩ := command_works (kind := 45) (args := [m]) takes work (bs := [.lsc]) (State.unchanged_by (lsc := .inl (by decide)))
    exact ⟨t, ht, shows.lsc, answers⟩
  · subst first only
    obtain rfl := recordWith_serial found
    have next := State.withdrawAt_waiting (s := s.withEmitted []) (before := []) queue waits
    rw [if_pos ⟨rfl, idle⟩] at next
    have pool : (s.withEmitted []).spm.unpinned j = s.spm := Spm.unpinned_none free _
    have begins : ∀ u : State, u.lsc.lessons = s.lsc.lessons → u.beginRun k = (u.testReserve k r, none) := fun u same => by
      rw [State.beginRun_recall task, State.beginRecall, State.followed_eq serial, same, recordWith, found]
    have runs := State.runNext_goes (s := (s.withEmitted []).jobGone j [k]) rfl (begins _ rfl)
    refine ⟨fun lowest two => ?_, fun few => ?_⟩
    · have loads := State.testReserve_loads (s := (s.withEmitted []).jobGone j [k]) (j := k) (r := r) rfl holds
        (by rw [State.jobGone, pool]; exact lowest) (by rw [State.jobGone, pool]; exact two)
      have work := (finds.trans next).trans (congrArg (·, _) (runs.trans loads))
      obtain ⟨t, ht, shows, answers⟩ := command_works (kind := 45) (args := [m]) takes work (bs := [.lsc, .spm]) (State.unchanged_by (spm := .inl (by decide)) (lsc := .inl (by decide)))
      refine ⟨t, ⟨ht, answers⟩, ?_, shows.lsc⟩
      rw [shows.spm, State.loadBegun, State.jobGone, pool]
    · have waits := (State.testReserve_waits (s := (s.withEmitted []).jobGone j [k]) (j := k) (r := r)
        (by rw [State.jobGone, pool]; exact few)).trans (State.setHead_eq (s := (s.withEmitted []).jobGone j [k]) rfl _)
      have work := (finds.trans next).trans (congrArg (·, _) (runs.trans waits))
      obtain ⟨t, ht, shows, answers⟩ := command_works (kind := 45) (args := [m]) takes work (bs := [.lsc])
        (State.unchanged_by (spm := .inr pool) (lsc := .inl (by decide)))
      exact ⟨t, ⟨ht, answers⟩, shows.lsc⟩

end Withdrawal
end Sys2Proof.Machine

namespace Sys2Proof.Machine

/-! ### What ends a job when its run begins (09 R140, R144 to R147) -/

section Fails
variable {s u : State} {j : Job} {r : Reason}

/-- Another state with what the beginning of a run looks at. -/
structure State.SameRun (s u : State) : Prop where
  lessons : u.lsc.lessons = s.lsc.lessons
  retired : u.lsc.retired = s.lsc.retired
  mode : u.lsc.mode = s.lsc.mode
  flc : u.flc = s.flc

/-- What a job's failure at the beginning of its run leaves in the pool, from this state and from any that looks the same. -/
def State.runFails (s : State) (j : Job) (pool : Spm → Spm) (r : Reason) : Prop :=
  ∀ u, s.SameRun u → u.beginRun j = (u.withSpm (pool u.spm), some r)

/-- Such a job ends at once when the job before it is withdrawn. -/
theorem State.runFails.ends {pool : Spm → Spm} (fails : s.runFails j pool r) (failed : r ≠ .noReason) :
    s.beginRun j = (s.withSpm (pool s.spm), some r) ∧
    ∀ (h : CmdHeader) (m : Byte) (i : Job), s.takes h.port → s.lsc.mode ≠ .starting → s.lsc.activity = .idle →
      s.lsc.queue = [i, j] → i.port = h.port → i.marker = m → i.state ≠ .running → i.pin = none →
      ∃ t, exec (.withdraw h [m]) s = .next t ∧ t.lsc = { s.lsc with queue := [] } ∧ t.spm = pool s.spm ∧
        s.answers t ((s.cpi.given i.port (i.record .withdrawn .noReason s.siu.frameNumber)).given j.port
          (j.record .failed r s.siu.frameNumber)) 45 h (doneWith false (.withdrawal false)) [.lsc, .spm] := by
  refine ⟨fails s ⟨rfl, rfl, rfl, rfl⟩, fun h m i takes mode idle queue port marker waits free => ?_⟩
  have kept : (s.withEmitted []).spm.unpinned i = s.spm := Spm.unpinned_none free _
  have begins := fails ((s.withEmitted []).jobGone i [j]) ⟨rfl, rfl, rfl, rfl⟩
  have pool' : pool ((s.withEmitted []).jobGone i [j]).spm = pool s.spm := congrArg pool kept
  rw [pool'] at begins
  have work := withdraw_ends (s := s.withEmitted []) (h := h) mode idle queue ⟨port, marker⟩ waits begins
  have ending : j.ending r = .failed := if_pos (bne_iff_ne.mpr failed)
  rw [State.headEnded, ending] at work
  obtain ⟨t, ht, shows, answers⟩ := command_works (kind := 45) (args := [m]) takes work (bs := [.lsc, .spm]) (State.unchanged_by (spm := .inl (by decide)) (lsc := .inl (by decide)))
  exact ⟨t, ht, shows.lsc, shows.spm, answers⟩

/-- A failure that leaves the pool. -/
theorem State.runFails_of (h : ∀ u, s.SameRun u → u.beginRun j = (u, some r)) : s.runFails j id r := h

/-- A failure that takes the pin. -/
theorem State.runFails_unpinned (h : ∀ u, s.SameRun u → u.beginRun j = (u.dropPin j, some r)) : s.runFails j (·.unpinned j) r :=
  fun u same => by rw [h u same, State.dropPin_eq]

/-- Every job but RECALL and EXPORT would change the table or the saved settings. -/
theorem JobTask.changes_of {task : JobTask} (other : ∀ l p, task ≠ .recall l p) (send : ∀ l p, task ≠ .exportPage l p) :
    task.changes = true := by
  unfold JobTask.changes
  split
  · next l p => exact absurd rfl (other l p)
  · next l p => exact absurd rfl (send l p)
  · rfl

/-- In READ_ONLY mode every job that would change the table fails. -/
theorem runFails_readOnly (mode : s.lsc.mode = .readOnly) (other : ∀ l p, j.task ≠ .recall l p) (send : ∀ l p, j.task ≠ .exportPage l p) :
    s.runFails j (·.unpinned j) .storeMedia :=
  State.runFails_unpinned fun _ same => if_pos ⟨same.mode.trans mode, JobTask.changes_of other send⟩

/-- No place is FREE. -/
theorem freePlace_none {ls : List LessonRecord} {retired : List Nat}
    (full : ∀ p < 510, p ∈ retired ∨ ∃ r ∈ recordsOf ls, r.place = p) : freePlace ls retired = none := by
  refine List.find?_eq_none.mpr fun p hp => ?_
  have taken : p ∈ takenPlaces ls retired := by
    rw [takenPlaces, List.mem_append, List.mem_map]
    exact (full p (List.mem_range.mp hp)).symm
  rw [Bool.not_eq_true', Bool.not_eq_false, List.contains_iff_mem]
  exact taken

/-- What ends a STORE before it has its place. -/
theorem runFails_store {l : Nat} {c : Capture} (task : j.task = .store l c) (ready : s.lsc.mode = .ready) :
    ((lessonAt s.lsc.lessons l).state ≠ .opened → s.runFails j (·.unpinned j) .lessonClosed) ∧
    ((lessonAt s.lsc.lessons l).state = .opened → 64 ≤ (lessonAt s.lsc.lessons l).pages.length → s.runFails j (·.unpinned j) .lessonFull) ∧
    ((lessonAt s.lsc.lessons l).state = .opened → (lessonAt s.lsc.lessons l).pages.length < 64 →
      (∀ p < 510, p ∈ s.lsc.retired ∨ ∃ r ∈ recordsOf s.lsc.lessons, r.place = p) → s.runFails j (·.unpinned j) .storeFull) := by
  refine ⟨fun closed => ?_, fun opened full => ?_, fun opened few taken => ?_⟩ <;> refine State.runFails_unpinned fun u same => ?_ <;>
    rw [State.beginRun_store (same.mode.trans ready) task, State.beginStore, same.lessons]
  · exact if_pos closed
  · rw [if_neg (not_not.mpr opened)]
    exact if_pos full
  · rw [if_neg (not_not.mpr opened), if_neg (Nat.not_le.mpr few), same.retired, freePlace_none taken]

/-- No record has the job's serial. -/
def State.pageGone (s : State) (j : Job) : Prop := ∀ q, j.serial = some q → ∀ r ∈ recordsOf s.lsc.lessons, r.serial ≠ q

theorem State.followed_gone (gone : s.pageGone j) (same : s.SameRun u) : u.followed j = none := by
  unfold State.followed
  cases serial : j.serial with
  | none => rfl
  | some q =>
    rw [same.lessons]
    exact recordWith_none (gone q serial)

theorem State.holder_gone (gone : s.pageGone j) : ∀ q, j.serial = some q → holderOf s.lsc.lessons q = none :=
  fun q serial => holderOf_none (gone q serial)

/-- A job whose page is gone fails. -/
theorem runFails_gone (gone : s.pageGone j) :
    (∀ l p, j.task = .recall l p → s.runFails j id .noSuchPage) ∧ (∀ l p, j.task = .exportPage l p → s.runFails j id .noSuchPage) ∧
    (∀ l p, j.task = .delete l p → s.lsc.mode = .ready → s.runFails j id .noSuchPage) ∧
    (∀ l p q, j.task = .move l p q → s.lsc.mode = .ready → s.runFails j id .noSuchPage) := by
  refine ⟨fun l p task => ?_, fun l p task => ?_, fun l p task ready => ?_, fun l p q task ready => ?_⟩ <;>
    refine State.runFails_of fun u same => ?_
  · rw [State.beginRun_recall task, State.beginRecall, State.followed_gone gone same]
  · rw [State.beginRun_export task, State.beginExport, State.followed_gone gone same]
  · rw [State.beginRun_edit (same.mode.trans ready) (by rw [task]; rfl)]
    refine State.beginEdit_fails ?_
    rw [task, same.lessons]
    exact JobTask.edit_delete_gone (State.holder_gone gone)
  · rw [State.beginRun_edit (same.mode.trans ready) (by rw [task]; rfl)]
    refine State.beginEdit_fails ?_
    rw [task, same.lessons]
    exact JobTask.edit_move_gone (State.holder_gone gone)

/-- A held page has a record. -/
theorem recordWith_of_holds {ls : List LessonRecord} {k : Nat} {q : Half} (holds : holdsPage ls k q) :
    ∃ r, recordWith ls q = some r ∧ r.serial = q := by
  obtain ⟨⟨x, hx, r, hr, serial⟩, -⟩ := holds
  have some : (recordWith ls q).isSome = true := by
    rw [recordWith, List.find?_isSome]
    exact ⟨r, List.mem_flatMap.mpr ⟨x, List.mem_of_getElem? hx, hr⟩, beq_iff_eq.mpr serial⟩
  obtain ⟨r', found⟩ := Option.isSome_iff_exists.mp some
  exact ⟨r', found, recordWith_serial found⟩

theorem lessonAt_eq {ls : List LessonRecord} {k : Nat} {x : LessonRecord} (h : ls[k]? = some x) : lessonAt ls k = x := by
  rw [lessonAt, List.getD_eq_getElem?_getD, h]
  rfl

/-- What ends an EXPORT or a DELETE of a page that is there: by the lesson that holds it. -/
theorem runFails_held {q : Half} {k : Nat} {x : LessonRecord} (serial : j.serial = some q) (here : s.lsc.lessons[k]? = some x)
    (holds : holdsPage s.lsc.lessons k q) :
    (∀ l p, j.task = .exportPage l p → x.lock = true → s.runFails j id .exportLocked) ∧
    (∀ l p, j.task = .exportPage l p → x.lock = false →
      (s.flc.agreement ≠ .feedUp ∨ s.flc.result.map (·.exporting) ≠ some true) → s.runFails j id .feedLost) ∧
    (∀ l p, j.task = .delete l p → s.lsc.mode = .ready → x.kept = true → s.runFails j id .lessonKept) := by
  obtain ⟨r, found, of⟩ := recordWith_of_holds holds
  have holder := (holdsPage_iff _ _ _).mp holds
  have lesson := lessonAt_eq here
  have followed : ∀ u, s.SameRun u → u.followed j = some r := fun u same => by rw [State.followed_eq serial, same.lessons, found]
  have locked : ∀ u, s.SameRun u → exportLocked u.lsc.lessons r.serial = x.lock := fun u same => by
    rw [exportLocked, same.lessons, of, holder, Option.map_some, lesson]
    rfl
  refine ⟨fun l p task lock => ?_, fun l p task free down => ?_, fun l p task ready kept => ?_⟩ <;>
    refine State.runFails_of fun u same => ?_
  · rw [State.beginRun_export task, State.beginExport, followed u same]
    exact if_pos ((locked u same).trans lock)
  · have unready : ¬ u.flc.exportReady = true := by
      rw [same.flc, Flc.exportReady_eq, decide_eq_true_eq, not_and_or]
      exact down
    rw [State.beginRun_export task, State.beginExport, followed u same]
    refine (if_neg ?_).trans (if_neg unready)
    rw [locked u same, free]
    exact Bool.false_ne_true
  · rw [State.beginRun_edit (same.mode.trans ready) (by rw [task]; rfl)]
    refine State.beginEdit_fails ?_
    rw [task, same.lessons, serial]
    simp [JobTask.edit, holder, lesson, kept]

/-- CLEAR_LESSON of a kept lesson. -/
theorem runFails_clear {l : Nat} (task : j.task = .clearLesson l) (ready : s.lsc.mode = .ready)
    (kept : (lessonAt s.lsc.lessons l).kept = true) : s.runFails j id .lessonKept := by
  refine State.runFails_of fun u same => ?_
  rw [State.beginRun_edit (same.mode.trans ready) (by rw [task]; rfl)]
  refine State.beginEdit_fails ?_
  rw [task, same.lessons]
  exact if_pos kept

end Fails
end Sys2Proof.Machine

namespace Sys2Proof.Machine

/-! ### The lesson table after an edit (09 R146, R147) -/

section Tables
variable {ls : List LessonRecord} {l : Nat}

/-- The records of one lesson changed, as a table indexed by the lessons. -/
theorem modify_eq_mapIdx {f : LessonRecord → LessonRecord} {g : Nat → LessonRecord → LessonRecord}
    (here : ∀ x, ls[l]? = some x → f x = g l x) (others : ∀ i x, i ≠ l → g i x = x) : ls.modify l f = ls.mapIdx g := by
  refine List.ext_getElem? fun i => ?_
  rw [List.getElem?_modify, List.getElem?_mapIdx]
  cases found : ls[i]? with
  | none => rfl
  | some x =>
    by_cases e : l = i
    · subst e
      simp [here x found]
    · simp [e, others i x (Ne.symm e)]

/-- The record of a lesson within the table. -/
theorem lesson_of_getElem? {x : LessonRecord} (h : ls[l]? = some x) : ls.getD l Config.emptyLesson = x := by
  rw [List.getD_eq_getElem?_getD, h]
  rfl

/-- OPEN_LESSON. -/
theorem openedTable_eq (ls : List LessonRecord) (l : Nat) : openedTable ls l = ls.mapIdx fun i r =>
    if i = l then (if r.state = .empty then { r with state := .opened, name := [], pages := [] } else { r with state := .opened })
    else if r.state = .opened then { r with state := .closed } else r := by
  refine congrArg (ls.mapIdx ·) (funext fun i => funext fun r => ?_)
  by_cases e : i = l
  · rw [if_pos e, if_pos e]
    cases state : r.state with
    | empty => exact (if_pos rfl).symm
    | opened => exact (by rw [← state] : r = { r with state := .opened }).trans (if_neg (by decide)).symm
    | closed => exact (if_neg (by decide)).symm
  · rw [if_neg e, if_neg e]
    cases r.state <;> rfl

/-- The lesson that is OPEN. -/
theorem state_of_current (current : currentLesson ls = some l) : ∃ x, ls[l]? = some x ∧ x.state = .opened := by
  obtain ⟨hl, opened, -⟩ := List.findIdx?_eq_some_iff_getElem.mp current
  exact ⟨_, List.getElem?_eq_getElem hl, beq_iff_eq.mp opened⟩

/-- CLOSE_LESSON. -/
theorem closed_eq (current : currentLesson ls = some l) :
    ls.modify l LessonRecord.closed = ls.mapIdx fun i r => if i = l then { r with state := .closed } else r := by
  obtain ⟨x, here, opened⟩ := state_of_current current
  refine modify_eq_mapIdx (fun y hy => ?_) fun i y other => if_neg other
  obtain rfl := Option.some.inj (here.symm.trans hy)
  rw [if_pos rfl, LessonRecord.closed, opened]

/-- CLEAR_LESSON. -/
theorem cleared_eq (ls : List LessonRecord) (l : Nat) : ls.modify l LessonRecord.cleared = ls.mapIdx fun i r =>
    if i = l ∧ r.state ≠ .empty then { state := .empty, name := [], kept := false, lock := false, pages := [] } else r := by
  refine modify_eq_mapIdx (fun x _ => ?_) fun i x other => if_neg fun e => other e.1
  unfold LessonRecord.cleared
  by_cases empty : x.state = .empty
  · rw [if_pos empty, if_neg fun e => e.2 empty]
  · rw [if_neg empty, if_pos ⟨rfl, empty⟩]
    rfl

/-- NAME_LESSON and SET_LESSON_FLAGS write to a lesson that is not EMPTY. -/
theorem used_eq {f g : LessonRecord → LessonRecord} (used : (ls.getD l Config.emptyLesson).state ≠ .empty)
    (writes : ∀ x, x.state ≠ .empty → f x = g x) : ls.modify l f = ls.mapIdx fun i r => if i = l then g r else r := by
  refine modify_eq_mapIdx (fun x here => ?_) fun i x other => if_neg other
  rw [lesson_of_getElem? here] at used
  rw [if_pos rfl, writes x used]

/-! The pages of a lesson of which one has a serial. -/

/-- A list without the only element that a test finds. -/
theorem filter_eq_eraseIdx {α : Type} {p : α → Bool} (xs : List α) (n : Nat)
    (only : ∀ i x, xs[i]? = some x → (p x = false ↔ i = n)) : xs.filter p = xs.eraseIdx n := by
  induction xs generalizing n with
  | nil => rfl
  | cons a xs ih =>
    have first := only 0 a rfl
    cases n with
    | zero =>
      have all : ∀ x ∈ xs, p x = true := fun x hx => by
        obtain ⟨i, hi⟩ := List.mem_iff_getElem?.mp hx
        by_contra no
        exact absurd ((only (i + 1) x hi).mp (Bool.eq_false_iff.mpr no)) (Nat.succ_ne_zero i)
      rw [List.filter_cons, first.mpr rfl, List.filter_eq_self.mpr all]
      rfl
    | succ n =>
      have holds : p a = true := Bool.eq_false_iff.not_left.mp (mt first.mp (Nat.succ_ne_zero n).symm)
      rw [List.filter_cons, if_pos holds, List.eraseIdx_cons_succ,
        ih n fun i x hx => (only (i + 1) x hx).trans (by omega)]

/-- The only record with its serial in a table: where it lies. -/
structure OnlyPage (ls : List LessonRecord) (l p : Nat) (r : PageRecord) : Prop where
  exist : l < 32
  page : (ls.getD l Config.emptyLesson).pages[p]? = some r
  only : ∀ (k : Nat) (x : LessonRecord) (i : Nat) (y : PageRecord), ls[k]? = some x → x.pages[i]? = some y → y.serial = r.serial → k = l ∧ i = p

variable {p : Nat} {r : PageRecord}

/-- Its lesson is in the table. -/
theorem OnlyPage.lesson (h : OnlyPage ls l p r) : ∃ x, ls[l]? = some x ∧ x.pages[p]? = some r := by
  have page := h.page
  rw [List.getD_eq_getElem?_getD] at page
  cases found : ls[l]? with
  | none => rw [found] at page; exact nomatch page
  | some x => rw [found] at page; exact ⟨x, rfl, page⟩

/-- And it is that which holds it. -/
theorem OnlyPage.holder (h : OnlyPage ls l p r) : holderOf ls r.serial = some l := by
  obtain ⟨x, here, page⟩ := h.lesson
  refine (holdsPage_iff _ _ _).mp ⟨⟨x, here, r, List.mem_of_getElem? page, rfl⟩, fun m y hm hy z hz e => ?_⟩
  obtain ⟨i, hi⟩ := List.mem_iff_getElem?.mp hz
  exact absurd (h.only m y i z hy hi e).1 (Nat.ne_of_lt hm)

/-- The pages of its lesson without it. -/
theorem OnlyPage.filter_here (h : OnlyPage ls l p r) {x : LessonRecord} (here : ls[l]? = some x) :
    (x.pages.filter fun y => y.serial != r.serial) = x.pages.eraseIdx p := by
  obtain ⟨x', here', page⟩ := h.lesson
  obtain rfl := Option.some.inj (here.symm.trans here')
  refine filter_eq_eraseIdx x.pages p fun i y hy => ?_
  rw [bne_eq_false_iff_eq]
  refine ⟨fun e => (h.only l x i y here hy e).2, fun e => ?_⟩
  subst e
  rw [Option.some.inj (hy.symm.trans page)]

/-- The pages of another lesson stay. -/
theorem OnlyPage.filter_other (h : OnlyPage ls l p r) {k : Nat} {x : LessonRecord} (there : ls[k]? = some x) (other : k ≠ l) :
    (x.pages.filter fun y => y.serial != r.serial) = x.pages := by
  refine List.filter_eq_self.mpr fun y hy => ?_
  obtain ⟨i, hi⟩ := List.mem_iff_getElem?.mp hy
  rw [bne_iff_ne]
  exact fun e => other (h.only k x i y there hi e).1

/-- DELETE. -/
theorem OnlyPage.removed (h : OnlyPage ls l p r) : removeRecord ls r.serial =
    ls.mapIdx fun i x => if i = l then { x with pages := x.pages.eraseIdx p } else x := by
  refine List.ext_getElem? fun i => ?_
  rw [removeRecord, List.getElem?_map, List.getElem?_mapIdx]
  cases found : ls[i]? with
  | none => rfl
  | some x =>
    rw [Option.map_some, Option.map_some]
    by_cases e : i = l
    · subst e
      rw [if_pos rfl, h.filter_here found]
    · rw [if_neg e, h.filter_other found e]

/-- A page put at a position among the others, or behind the last. -/
theorem take_append_drop_eq_insertIdx {α : Type} (xs : List α) (n : Nat) (a : α) :
    xs.take n ++ [a] ++ xs.drop n = xs.insertIdx (min n xs.length) a := by
  induction xs generalizing n with
  | nil => simp
  | cons b xs ih =>
    cases n with
    | zero => simp
    | succ n => simpa [Nat.add_min_add_right] using ih n

/-- MOVE. -/
theorem OnlyPage.moved (h : OnlyPage ls l p r) (target : Nat) : (ls.modify l fun x => { x with pages := movePage x.pages r.serial target }) =
    ls.mapIdx fun i x => if i = l then
      { x with pages := (x.pages.eraseIdx p).insertIdx (min target (x.pages.length - 1)) r } else x := by
  refine modify_eq_mapIdx (fun x here => ?_) fun i x other => if_neg other
  obtain ⟨x', here', page⟩ := h.lesson
  obtain rfl := Option.some.inj (here.symm.trans here')
  have bound : p < x.pages.length := (List.getElem?_eq_some_iff.mp page).1
  have found : x.pages.find? (·.serial == r.serial) = some r := by
    have some : (x.pages.find? (·.serial == r.serial)).isSome = true :=
      List.find?_isSome.mpr ⟨r, List.mem_of_getElem? page, beq_iff_eq.mpr rfl⟩
    obtain ⟨y, hy⟩ := Option.isSome_iff_exists.mp some
    have serial : y.serial = r.serial := beq_iff_eq.mp (List.find?_some (p := fun z : PageRecord => z.serial == r.serial) hy)
    obtain ⟨i, hi⟩ := List.mem_iff_getElem?.mp (List.mem_of_find?_eq_some hy)
    obtain rfl := (h.only l x i y here hi serial).2
    rw [hy, Option.some.inj (hi.symm.trans page)]
  rw [if_pos rfl, movePage, found]
  dsimp only
  rw [h.filter_here here, take_append_drop_eq_insertIdx, List.length_eraseIdx_of_lt bound]

end Tables
end Sys2Proof.Machine

namespace Sys2Proof.Machine

/-! ### The run of an edit at its acceptance (09 R148) -/

section Runs
variable {s : State} {j head : Job} {rest : List Job}

/-- Into an empty queue of a store at rest, a job begins at once. -/
theorem State.enqueue_first (queue : s.lsc.queue = []) (idle : s.lsc.activity = .idle) (j : Job) :
    s.enqueue j = (s.withQueue [j]).runNext := by
  refine if_pos ?_
  rw [queue, Lsc.resting, idle]
  rfl

/-- A job's catalogue write, where there is a sequence number for it. -/
theorem State.jobWrite_goes (queue : s.lsc.queue = head :: rest) (more : s.lsc.catSeq ≠ 0xFFFFFFFF) (j : Job) :
    s.jobWrite j = (s.withLsc (({ s.lsc with queue := j :: rest } : Lsc).startsWrite .job), none) := by
  have begins := (s.setHead j).beginWrite_some .job more
  rw [State.jobWrite, begins, State.setHead_eq queue]
  rfl

/-- A write that fails takes nothing from a job other than a STORE. -/
theorem State.writeLost_other (other : ∀ l c, j.task ≠ .store l c) (s : State) : s.writeLost j = (s, .storeMedia) := by
  unfold State.writeLost
  split
  · next l c task _ => exact absurd task (other l c)
  · rfl

/-- A job's catalogue write without a sequence number, of a job other than a STORE. -/
theorem State.jobWrite_fails (queue : s.lsc.queue = head :: rest) (spent : s.lsc.catSeq = 0xFFFFFFFF)
    (other : ∀ l c, j.task ≠ .store l c) : s.jobWrite j =
      ({ s with lsc := { s.lsc.rests with queue := j :: rest, mode := .readOnly }, cpi := s.cpi.raise .storeReadOnly }, some .storeMedia) := by
  rw [State.jobWrite_spent s j spent, State.setHead_eq queue, State.writeLost_other other]
  rfl

theorem Lsc.editLessons_eq (l : Lsc) (ls : List LessonRecord) :
    l.editLessons ls = { l with lessons := ls, due := l.due || decide (ls ≠ l.lessons) } := by
  unfold Lsc.editLessons
  by_cases same : ls = l.lessons
  · subst same
    simp
  · rw [if_neg same, decide_eq_true same, Bool.or_true]
    rfl

/-- The store whose head has made the effects of its edit. -/
def Lsc.withEdit (l : Lsc) (ls : List LessonRecord) (saved : SavedSettings) (due : Bool) (queue : List Job) : Lsc :=
  { l with lessons := ls, saved := saved, due := due, queue := queue }

theorem State.beginEdit_ok {ls : List LessonRecord} (queue : s.lsc.queue = [j]) (ok : j.task.edit j.serial s.lsc.lessons = .ok ls) :
    s.beginEdit j = (s.withLsc (s.lsc.withEdit ls s.lsc.saved (s.lsc.due || decide (ls ≠ s.lsc.lessons)) [j])).edited j := by
  rw [State.beginEdit, ok]
  dsimp only
  rw [Lsc.editLessons_eq, Lsc.withEdit, ← queue]

end Runs

section Edits
variable {s : State} {h : CmdHeader} {kind : Byte} {args : List Byte} {f : State → State × Answer} {task : JobTask} {serial : Option Half}
  {clamped : Bool} {ls : List LessonRecord} {saved : SavedSettings} {changed : Prop} {due : Bool}

/-- An edit that is accepted into an empty queue: it ends at once, its write begins, or its write cannot. -/
theorem edit_works (takes : s.takes h.port) (queue : s.lsc.queue = []) (idle : s.lsc.activity = .idle)
    (work : f (s.withEmitted []) = ((s.withEmitted []).enqueue (newJob h task serial none), accepted clamped .nothing))
    (other : ∀ l c, task ≠ .store l c)
    (begins : ((s.withEmitted []).withQueue [newJob h task serial none]).beginRun (newJob h task serial none) =
      ((s.withEmitted []).withLsc (s.lsc.withEdit ls saved due [newJob h task serial none])).edited (newJob h task serial none))
    (isDue : due = true ↔ (changed ∨ s.lsc.due = true)) (same : ¬ changed → ls = s.lsc.lessons ∧ saved = s.lsc.saved)
    (hk : kind ≠ 32 ∧ kind ≠ 59 := by decide) :
    let record : Completion := (newJob h task serial none).record .done .noReason s.siu.frameNumber
    (¬ (changed ∨ s.lsc.due = true) → ∃ t, command kind h args s f = .next t ∧ t.lsc = s.lsc ∧
      s.answers t (s.cpi.given h.port record) kind h (accepted clamped .nothing) []) ∧
    ((changed ∨ s.lsc.due = true) → s.lsc.catSeq ≠ 0xFFFFFFFF → ∃ t, command kind h args s f = .next t ∧
      t.lsc = ({ s.lsc with
        lessons := ls, saved := saved, due := true,
        queue := [{ newJob h task serial none with state := .running }] } : Lsc).startsWrite .job ∧
      s.answers t s.cpi kind h (accepted clamped .nothing) [.lsc]) ∧
    ((changed ∨ s.lsc.due = true) → s.lsc.catSeq = 0xFFFFFFFF → ∃ t, command kind h args s f = .next t ∧
      t.lsc = { s.lsc.rests with lessons := ls, saved := saved, due := true, mode := .readOnly } ∧
      s.answers t ((s.cpi.raise .storeReadOnly).given h.port { record with ending := .failed, reason := .storeMedia }) kind h
        (accepted clamped .nothing) [.lsc]) := by
  intro record
  let j := newJob h task serial none
  let v := (s.withEmitted []).withLsc (s.lsc.withEdit ls saved due [j])
  rw [State.enqueue_first (s := s.withEmitted []) queue idle] at work
  refine ⟨fun clear => ?_, fun set more => ?_, fun set spent => ?_⟩
  · have none : due = false := Bool.eq_false_iff.mpr (mt isDue.mp clear)
    obtain ⟨rfl, rfl⟩ := same (not_or.mp clear).1
    have ends : v.edited j = (v, some .noReason) := if_neg (by show ¬ due = true; rw [none]; exact Bool.false_ne_true)
    rw [State.runNext_ends (s := (s.withEmitted []).withQueue [j]) rfl (begins.trans ends) rfl] at work
    have stays : s.lsc.withEdit s.lsc.lessons s.lsc.saved due [] = s.lsc := by
      have clear' : s.lsc.due = false := Bool.eq_false_iff.mpr (not_or.mp clear).2
      rw [none, ← clear', ← queue]
      rfl
    obtain ⟨t, ht, shows, answers⟩ := command_works (args := args) takes work (bs := [])
      (State.unchanged_by (lsc := .inr stays)) hk
    exact ⟨t, ht, shows.lsc.trans stays, answers⟩
  · obtain rfl := isDue.mpr set
    have goes : v.edited j = _ := (if_pos rfl).trans (State.jobWrite_goes (s := v) (head := j) (rest := []) rfl more _)
    rw [State.runNext_goes (s := (s.withEmitted []).withQueue [j]) rfl (begins.trans goes)] at work
    obtain ⟨t, ht, shows, answers⟩ := command_works (args := args) takes work (bs := [.lsc]) (State.unchanged_by (lsc := .inl (by decide))) hk
    exact ⟨t, ht, shows.lsc, answers⟩
  · obtain rfl := isDue.mpr set
    have fails : v.edited j = _ := (if_pos rfl).trans (State.jobWrite_fails (s := v) (head := j) (rest := [])
      (j := { j with state := .running }) rfl spent other)
    rw [State.runNext_ends (s := (s.withEmitted []).withQueue [j]) rfl (begins.trans fails) rfl] at work
    obtain ⟨t, ht, shows, answers⟩ := command_works (args := args) takes work (bs := [.lsc]) (State.unchanged_by (lsc := .inl (by decide))) hk
    refine ⟨t, ht, shows.lsc.trans ?_, answers⟩
    rw [show ({ s.lsc.rests with lessons := ls, saved := saved, due := true, mode := .readOnly } : Lsc) =
      { s.lsc.rests with lessons := ls, saved := saved, due := true, mode := .readOnly, queue := [] } by rw [← queue]; rfl]
    rfl

end Edits
end Sys2Proof.Machine

namespace Sys2Proof.Machine

section TableEdits
variable {s : State} {h : CmdHeader} {kind : Byte} {args : List Byte} {f : State → State × Answer} {task : JobTask} {serial : Option Half}
  {clamped : Bool} {ls : List LessonRecord}

/-- What an edit at its acceptance leaves: it ends at once, its write begins, or its write cannot. -/
def State.editLeaves (s : State) (h : CmdHeader) (c : Instr) (kind : Byte) (task : JobTask) (serial : Option Half) (clamped : Bool)
    (ls : List LessonRecord) (saved : SavedSettings) (changed : Prop) : Prop :=
  let record : Completion :=
    { marker := h.marker, kind := kind, ending := .done, reason := .noReason, lesson := task.lesson, serial := serial,
      frame := s.siu.frameNumber }
  (¬ (changed ∨ s.lsc.due = true) → ∃ t, exec c s = .next t ∧ t.lsc = s.lsc ∧
    s.answers t (s.cpi.given h.port record) kind h (accepted clamped .nothing) []) ∧
  ((changed ∨ s.lsc.due = true) → s.lsc.catSeq ≠ 0xFFFFFFFF → ∃ t, exec c s = .next t ∧
    t.lsc = ({ s.lsc with
      lessons := ls, saved := saved, due := true,
      queue := [{ task := task, port := h.port, marker := h.marker, state := .running, withdrawn := false,
                  serial := serial, pin := none, stage := .notBegun, retries := 0 }] } : Lsc).startsWrite .job ∧
    s.answers t s.cpi kind h (accepted clamped .nothing) [.lsc]) ∧
  ((changed ∨ s.lsc.due = true) → s.lsc.catSeq = 0xFFFFFFFF → ∃ t, exec c s = .next t ∧
    t.lsc = { s.lsc.rests with lessons := ls, saved := saved, due := true, mode := .readOnly } ∧
    s.answers t ((s.cpi.raise .storeReadOnly).given h.port { record with ending := .failed, reason := .storeMedia }) kind h
      (accepted clamped .nothing) [.lsc])

/-- An edit of the lesson table at its acceptance. -/
theorem tableEdit_works {c : Instr} (runs : exec c s = command kind h args s f) (takes : s.takes h.port) (ready : s.lsc.mode = .ready)
    (queue : s.lsc.queue = []) (idle : s.lsc.activity = .idle)
    (work : f (s.withEmitted []) = ((s.withEmitted []).enqueue (newJob h task serial none), accepted clamped .nothing))
    (edit : task.isEdit = true) (ok : task.edit serial s.lsc.lessons = .ok ls) (code : kind = task.code)
    (hk : kind ≠ 32 ∧ kind ≠ 59 := by decide) :
    s.editLeaves h c kind task serial clamped ls s.lsc.saved (ls ≠ s.lsc.lessons) := by
  have begins := (State.beginRun_edit (s := (s.withEmitted []).withQueue [newJob h task serial none]) ready edit).trans
    (State.beginEdit_ok (s := (s.withEmitted []).withQueue [newJob h task serial none]) rfl ok)
  have isDue : (s.lsc.due || decide (ls ≠ s.lsc.lessons)) = true ↔ (ls ≠ s.lsc.lessons ∨ s.lsc.due = true) := by
    rw [Bool.or_eq_true, decide_eq_true_eq, or_comm]
  have leaves := edit_works (kind := kind) (args := args) (changed := ls ≠ s.lsc.lessons) takes queue idle work
    (fun l c e => by rw [e] at edit; exact nomatch edit) begins isDue (fun same => ⟨not_not.mp same, rfl⟩) hk
  rw [State.editLeaves, runs]
  subst code
  exact leaves

/-- SAVE_SETTINGS at its acceptance. -/
theorem saveSettings_works (takes : s.takes h.port) (ready : s.lsc.mode = .ready) (queue : s.lsc.queue = []) (idle : s.lsc.activity = .idle)
    (work : workSaveSettings h [] (s.withEmitted []) =
      ((s.withEmitted []).enqueue (newJob h .saveSettings none none), accepted false .nothing)) :
    s.editLeaves h (.saveSettings h []) 44 .saveSettings none false s.lsc.lessons s.settingsInForce True := by
  have begins : ((s.withEmitted []).withQueue [newJob h .saveSettings none none]).beginRun (newJob h .saveSettings none none) =
      ((s.withEmitted []).withLsc (s.lsc.withEdit s.lsc.lessons s.settingsInForce true [newJob h .saveSettings none none])).edited
        (newJob h .saveSettings none none) :=
    State.beginRun_save (s := (s.withEmitted []).withQueue [newJob h .saveSettings none none]) ready rfl
  have leaves := edit_works (kind := 44) (args := []) (changed := True) takes queue idle work (fun _ _ e => nomatch e) begins
    ⟨fun _ => .inl trivial, fun _ => rfl⟩ (fun no => absurd trivial no)
  have runs : exec (.saveSettings h []) s = command 44 h [] s (workSaveSettings h []) := rfl
  rw [State.editLeaves, runs]
  exact leaves

/-- DELETE and MOVE of a page that is there. -/
theorem JobTask.edit_delete {l p : Nat} {r : PageRecord} (only : OnlyPage ls l p r) (free : (lessonAt ls l).kept = false) :
    (JobTask.delete l p).edit (some r.serial) ls = .ok (removeRecord ls r.serial) := by
  simp [JobTask.edit, only.holder, free]

theorem JobTask.edit_move {l p target : Nat} {r : PageRecord} (only : OnlyPage ls l p r) :
    (JobTask.move l p target).edit (some r.serial) ls =
      .ok (ls.modify l fun x => { x with pages := movePage x.pages r.serial target }) := by
  simp [JobTask.edit, only.holder]

/-- Settles O54: edit by edit, then failure by failure. -/
theorem editsTakeEffectOrFail : Obligations.EditsTakeEffectOrFail := by
  refine ⟨fun h s takes ready queue idle => ?_, fun s j => ?_⟩
  · intro works edits lesson may pageOf
    have ok : (s.withEmitted []).TakesEdits :=
      ⟨⟨fun e => (nomatch ready.symm.trans e), by show s.lsc.queue.length < 16; rw [queue]; decide⟩, ready⟩
    refine ⟨fun l reach => ?_, fun l current reach => ?_, fun l reach free => ?_, fun l name reach used => ?_,
      fun l k x panel exist used => ?_, fun l p r reach free page => ?_, fun l p q r reach page => ?_, ?_⟩
    · exact tableEdit_works rfl takes ready queue idle (open_accepted ok reach) rfl (congrArg Except.ok (openedTable_eq _ _)) rfl
    · exact tableEdit_works rfl takes ready queue idle (close_accepted ok current reach) rfl (congrArg Except.ok (closed_eq current)) rfl
    · exact tableEdit_works rfl takes ready queue idle (clear_accepted ok reach free) rfl
        ((if_neg (by show ¬ (lesson l).kept = true; rw [free]; exact Bool.false_ne_true)).trans (congrArg Except.ok (cleared_eq _ _))) rfl
    · exact tableEdit_works rfl takes ready queue idle (name_accepted ok reach used name) rfl
        (congrArg Except.ok (used_eq used fun x hx => if_neg hx)) rfl
    · exact ⟨_, _, _, _, flagArg_says k, flagArg_says x, tableEdit_works rfl takes ready queue idle (flags_accepted ok panel exist used k x) rfl
        (congrArg Except.ok (used_eq used fun x hx => if_neg hx)) rfl⟩
    · have only : OnlyPage s.lsc.lessons l.toNat p.toNat r := ⟨reach.1, page.1, page.2.2⟩
      exact tableEdit_works rfl takes ready queue idle (delete_accepted ok reach ⟨page.1, page.2.1⟩ free) rfl
        ((JobTask.edit_delete only free).trans (congrArg Except.ok only.removed)) rfl
    · have only : OnlyPage s.lsc.lessons l.toNat p.toNat r := ⟨reach.1, page.1, page.2.2⟩
      exact tableEdit_works rfl takes ready queue idle (move_accepted ok reach ⟨page.1, page.2.1⟩ q) rfl
        ((JobTask.edit_move only).trans (congrArg Except.ok (only.moved _))) rfl
    · exact saveSettings_works takes ready queue idle (save_accepted ok)
  · intro record ends fails failsUnpinned gone lesson
    have pinned : ∀ r, r ≠ .noReason → s.runFails j (·.unpinned j) r → failsUnpinned r := fun r failed runs =>
      ⟨fun none => by have e := runs.ends failed; rwa [Spm.unpinned_none none] at e,
       fun n some => by have e := runs.ends failed; rwa [Spm.unpinned, some] at e⟩
    have plain : ∀ r, r ≠ .noReason → s.runFails j id r → fails r := fun r failed runs => runs.ends failed
    refine ⟨fun mode other send => pinned _ (by decide) (runFails_readOnly mode other send), fun l c task ready => ?_,
      fun l p task none => ?_, fun l p task none => ?_, fun l p task ready none => ?_, fun l p q task ready none => ?_,
      fun q k x serial here held first => ?_, fun l task ready kept => plain _ (by decide) (runFails_clear task ready kept)⟩
    · obtain ⟨closed, full, taken⟩ := runFails_store (s := s) task ready
      exact ⟨fun a => pinned _ (by decide) (closed a), fun a b => pinned _ (by decide) (full a b),
        fun a b c => pinned _ (by decide) (taken a b c)⟩
    · exact plain _ (by decide) ((runFails_gone none).1 l p task)
    · exact plain _ (by decide) ((runFails_gone none).2.1 l p task)
    · exact plain _ (by decide) ((runFails_gone none).2.2.1 l p task ready)
    · exact plain _ (by decide) ((runFails_gone none).2.2.2 l p q task ready)
    · obtain ⟨locked, lost, kept⟩ := runFails_held (s := s) serial here ⟨⟨x, here, held⟩, first⟩
      exact ⟨fun l p task lock => plain _ (by decide) (locked l p task lock),
        fun l p task free down => plain _ (by decide) (lost l p task free down),
        fun l p task ready keeps => plain _ (by decide) (kept l p task ready keeps)⟩

end TableEdits
end Sys2Proof.Machine

namespace Sys2Proof.Machine

/-! ### Catalogue writes (08 R130, R131) -/

section Writes
variable {s : State} {w : CatalogueWrite} {op : FlashOp} {j : Job} {rest : List Job} {r : FlashResult}

/-- The effect of FLASH_OPERATION_COMPLETE. -/
def State.flashCompletes (s : State) (r : FlashResult) : State := if s.lsc.flash.isSome then s.flashDone r else s

/-- The completion of an operation of a catalogue write. -/
theorem State.flashCompletes_writing (flash : s.lsc.flash = some op) (activity : s.lsc.activity = .writing w) (r : FlashResult) :
    s.flashCompletes r = s.writing w r := by
  rw [State.flashCompletes, if_pos (by rw [flash]; rfl), State.flashDone, activity]

/-- An arrival after which the head of the queue begins its run. -/
theorem arrive_runs {f : State → State} {lsc : Lsc} {c : Cpi} (hp : s.powered = true)
    (effect : f (s.withEmitted []) = ({ s with lsc := lsc, cpi := c, emitted := [] } : State).runNext) :
    let left : State := { s with lsc := lsc, cpi := c, emitted := [] }
    ∃ t, arrive s f = .next t ∧ left.runNext.becomes t left.runNext.cpi [] ∧ (lsc.queue = [] → s.becomes t c [.lsc] ∧ t.lsc = lsc) := by
  intro left
  refine ⟨_, arrive_powered f hp, ?_, fun none => ?_⟩
  · replace effect : f (s.withEmitted []) = left.runNext := effect
    rw [effect]
    exact ⟨by simp [State.unchanged], State.transmit_sends _⟩
  · have stays : f (s.withEmitted []) = left := effect.trans (State.runNext_nil none)
    obtain ⟨-, becomes⟩ := arrive_leaves hp stays (bs := [.lsc]) (State.unchanged_by (lsc := .inl (by decide)))
    rw [stays]
    exact ⟨becomes, State.transmit_lsc _⟩

/-- The pages of an image, the last one filled up. -/
theorem imagePage_eq (bytes : List Byte) (k : Nat) : imagePage bytes k =
    (bytes.drop (2048 * k)).take 2048 ++ List.replicate (2048 - (bytes.length - 2048 * k)) Config.imagePadding := by
  rw [imagePage, List.length_take, List.length_drop]
  congr 2
  omega

/-- The steps of an attempt, phase by phase. -/
theorem CatalogueWrite.step_erase (phase : w.phase = .erase) (data : List Byte) :
    w.step (.pass data) = .goesOn (.program w.block 0 (imagePage w.bytes 0)) { w with phase := .program 0 } := by
  rw [CatalogueWrite.step, phase]
  exact if_pos (Nat.lt_of_lt_of_le Nat.zero_lt_one (Nat.le_max_left ..))

theorem CatalogueWrite.step_program {k : Nat} (phase : w.phase = .program k) (more : k + 1 < imagePages w.bytes.length) (data : List Byte) :
    w.step (.pass data) = .goesOn (.program w.block (k + 1) (imagePage w.bytes (k + 1))) { w with phase := .program (k + 1) } := by
  rw [CatalogueWrite.step, phase]
  exact if_pos more

theorem CatalogueWrite.step_programmed {k : Nat} (phase : w.phase = .program k) (last : imagePages w.bytes.length ≤ k + 1) (data : List Byte) :
    w.step (.pass data) = .goesOn (.read w.block 0) { w with phase := .readBack 0 } := by
  rw [CatalogueWrite.step, phase]
  exact if_neg (Nat.not_lt.mpr last)

theorem CatalogueWrite.step_read {k : Nat} (phase : w.phase = .readBack k) (more : k + 1 < imagePages w.bytes.length) :
    w.step (.pass (imagePage w.bytes k)) = .goesOn (.read w.block (k + 1)) { w with phase := .readBack (k + 1) } := by
  rw [CatalogueWrite.step, phase]
  exact (if_pos rfl).trans (if_pos more)

theorem CatalogueWrite.step_passed {k : Nat} (phase : w.phase = .readBack k) (last : imagePages w.bytes.length ≤ k + 1) :
    w.step (.pass (imagePage w.bytes k)) = .passed := by
  rw [CatalogueWrite.step, phase]
  exact (if_pos rfl).trans (if_neg (Nat.not_lt.mpr last))

/-- What ends an attempt: a failed operation, or a page that differs. -/
def CatalogueWrite.fails (w : CatalogueWrite) (r : FlashResult) : Prop :=
  r = .fail ∨ ∃ k data, w.phase = .readBack k ∧ r = .pass data ∧ data ≠ imagePage w.bytes k

theorem CatalogueWrite.step_failed (h : w.fails r) : w.step r = .failed := by
  rcases h with rfl | ⟨k, data, phase, rfl, differs⟩
  · rfl
  · rw [CatalogueWrite.step, phase]
    exact if_neg differs

/-- A write that goes on with another operation. -/
theorem State.writing_goesOn {next : FlashOp} {w' : CatalogueWrite} (step : w.step r = .goesOn next w') :
    s.writing w r = s.withLsc { s.lsc with flash := some next, activity := .writing w' } := by
  rw [State.writing, step]
  rfl

/-- The next attempt of a write. -/
def State.nextAttempt (s : State) (w : CatalogueWrite) : Lsc :=
  let image := { w.image with sequence := s.lsc.catSeq + 1 }
  { s.lsc with
    catSeq := s.lsc.catSeq + 1, flash := some (.erase ((w.block + 1) % 64)),
    activity := .writing { owner := w.owner, image := image, attempt := w.attempt + 1, block := (w.block + 1) % 64,
                           bytes := image.bytes, phase := .erase } }

theorem State.writing_again (fails : w.fails r) (few : w.attempt < 4) (more : s.lsc.catSeq ≠ 0xFFFFFFFF) :
    s.writing w r = s.withLsc (s.nextAttempt w) := by
  rw [State.writing, CatalogueWrite.step_failed fails]
  dsimp only
  rw [if_pos few, State.attempt, if_neg more]
  rfl

/-- The store once a write has failed for good. -/
def State.lostWrite (s : State) : State :=
  { s with lsc := { s.lsc.rests with mode := .readOnly }, cpi := s.cpi.raise .storeReadOnly }

theorem State.writing_lost (fails : w.fails r) (last : 4 ≤ w.attempt ∨ s.lsc.catSeq = 0xFFFFFFFF) :
    s.writing w r = s.lostWrite.writeFailed w.owner := by
  rw [State.writing, CatalogueWrite.step_failed fails]
  dsimp only
  split
  · next few =>
    rw [State.attempt, if_pos (last.resolve_left (Nat.not_le.mpr few))]
    rfl
  · rfl

/-- The store once a write has passed. -/
def State.passedWrite (s : State) (block : Nat) : State :=
  { s with lsc := { s.lsc.rests with lastBlock := block, due := false }, cpi := s.cpi.count .catalogueWrites }

theorem State.writing_passed {k : Nat} (phase : w.phase = .readBack k) (last : imagePages w.bytes.length ≤ k + 1) :
    s.writing w (.pass (imagePage w.bytes k)) = (s.passedWrite w.block).writePassed w.owner := by
  rw [State.writing, CatalogueWrite.step_passed phase last]
  rfl

/-- The recovery's write has passed. -/
theorem State.writePassed_recovery (s : State) : s.writePassed .recovery =
    { s with lsc := { s.lsc.rests with mode := .ready }, cpi := s.cpi.raise .storeReady } := rfl

/-- A head that ends, and the next one that begins. -/
theorem State.endHead_eq (queue : s.lsc.queue = j :: rest) (reason : Reason) : s.endHead reason = (s.headEnded j rest reason).runNext := by
  rw [State.endHead, State.finishHead_eq queue]

/-- A job's write that is lost ends the job. -/
theorem State.writeFailed_job (queue : s.lsc.queue = j :: rest) (other : ∀ l c, j.task ≠ .store l c) :
    s.writeFailed .job = (s.headEnded j rest .storeMedia).runNext := by
  rw [State.writeFailed, queue]
  dsimp only
  rw [State.writeLost_other other]
  exact State.endHead_eq queue _

/-- A job's write that has passed ends an edit as DONE. -/
theorem State.writePassed_edit (queue : s.lsc.queue = j :: rest) (store : ∀ l c, j.task ≠ .store l c) (show' : ∀ l p, j.task ≠ .recall l p)
    (send : ∀ l p, j.task ≠ .exportPage l p) : s.writePassed .job = (s.headEnded j rest .noReason).runNext := by
  have written : s.jobWritten j = (s, some .noReason) := by
    unfold State.jobWritten
    split
    · next l c task _ => exact absurd task (store l c)
    · next l c _ task _ => exact absurd task (store l c)
    · next l p task => exact absurd task (show' l p)
    · next l p task => exact absurd task (send l p)
    · rfl
  rw [State.writePassed, queue]
  dsimp only
  rw [written]
  exact State.endHead_eq queue _

/-- And a load whose page was unsound as PAGE_DAMAGED. -/
theorem State.writePassed_load {l p : Nat} (queue : s.lsc.queue = j :: rest) (task : j.task = .recall l p ∨ j.task = .exportPage l p) :
    s.writePassed .job = (s.headEnded j rest .pageDamaged).runNext := by
  have written : s.jobWritten j = (s, some .pageDamaged) := by
    rcases task with task | task <;> rw [State.jobWritten, task]
  rw [State.writePassed, queue]
  dsimp only
  rw [written]
  exact State.endHead_eq queue _

/-- Settles O55: phase by phase, and by the owner of the write at its end. -/
theorem catalogueWriteGoes : Obligations.CatalogueWriteGoes := by
  intro s w op hp activity flash goes page pages block fails record edit goesOn
  have completes : ∀ r, (s.withEmitted []).flashCompletes r = (s.withEmitted []).writing w r :=
    State.flashCompletes_writing (s := s.withEmitted []) flash activity
  have page_eq : ∀ k, page k = imagePage w.bytes k := fun k => (imagePage_eq w.bytes k).symm
  have failing : ∀ r, fails r → w.fails r := fun r h => h.imp_right fun ⟨k, data, phase, pass, differs⟩ =>
    ⟨k, data, phase, pass, by rw [← page_eq]; exact differs⟩
  have steps : ∀ r next phase, w.step r = .goesOn next { w with phase := phase } → goes r next phase := fun r next phase step => by
    obtain ⟨t, ht, shows, becomes⟩ := arrive_as (f := fun s => s.flashCompletes r) hp
      ((completes r).trans (State.writing_goesOn (s := s.withEmitted []) step)) (bs := [.lsc])
      (State.unchanged_by (lsc := .inl (by decide)))
    exact ⟨t, ht, shows.lsc, becomes⟩
  refine ⟨fun data phase => ?_, fun data k phase more => ?_, fun data k phase last => ?_, fun k phase more => ?_,
    fun r failed few more => ?_, fun r failed last => ?_, fun k phase last => ?_⟩
  · rw [page_eq]
    exact steps _ _ _ (CatalogueWrite.step_erase phase data)
  · rw [page_eq]
    exact steps _ _ _ (CatalogueWrite.step_program phase more data)
  · exact steps _ _ _ (CatalogueWrite.step_programmed phase last data)
  · rw [page_eq]
    exact steps _ _ _ (CatalogueWrite.step_read phase more)
  · obtain ⟨t, ht, shows, becomes⟩ := arrive_as (f := fun s => s.flashCompletes r) hp
      ((completes r).trans (State.writing_again (s := s.withEmitted []) (failing r failed) few more)) (bs := [.lsc])
      (State.unchanged_by (lsc := .inl (by decide)))
    exact ⟨t, ht, shows.lsc, becomes⟩
  · have lost := (completes r).trans (State.writing_lost (s := s.withEmitted []) (failing r failed) last)
    refine ⟨fun owner => ?_, fun owner => ?_, fun j rest owner queue other => ?_⟩ <;> rw [owner] at lost
    · obtain ⟨t, ht, shows, becomes⟩ := arrive_as (f := fun s => s.flashCompletes r) hp lost (bs := [.lsc])
        (State.unchanged_by (lsc := .inl (by decide)))
      exact ⟨t, ht, shows.lsc, becomes⟩
    · exact arrive_runs (f := fun s => s.flashCompletes r) hp lost
    · exact arrive_runs (f := fun s => s.flashCompletes r) hp
        (lost.trans (State.writeFailed_job (s := (s.withEmitted []).lostWrite) queue other))
  · intro written counted
    rw [page_eq]
    have passed := (completes _).trans (State.writing_passed (s := s.withEmitted []) phase last)
    refine ⟨fun owner => ?_, fun owner => ?_, fun j rest owner queue edits => ?_, fun j rest l p owner queue task => ?_⟩ <;>
      rw [owner] at passed
    · obtain ⟨t, ht, shows, becomes⟩ := arrive_as (f := fun s => s.flashCompletes _) hp
        (passed.trans (State.writePassed_recovery _)) (bs := [.lsc])
        (State.unchanged_by (lsc := .inl (by decide)))
      exact ⟨t, ht, shows.lsc, becomes⟩
    · exact arrive_runs (f := fun s => s.flashCompletes _) hp passed
    · exact arrive_runs (f := fun s => s.flashCompletes _) hp
        (passed.trans (State.writePassed_edit (s := (s.withEmitted []).passedWrite w.block) queue edits.1 edits.2.1 edits.2.2))
    · exact arrive_runs (f := fun s => s.flashCompletes _) hp
        (passed.trans (State.writePassed_load (s := (s.withEmitted []).passedWrite w.block) queue task))

end Writes
end Sys2Proof.Machine

namespace Sys2Proof.Machine

/-! ### Operations of the running job on its place (08 R129; 09 R141, R145) -/

section Places
variable {s : State} {j : Job} {rest : List Job} {r : PageRecord} {op : FlashOp} {n : Nat} {d : PageCheck} {result : FlashResult}

theorem Lsc.queue_same {l : Lsc} {queue : List Job} (h : l.queue = queue) : { l with queue := queue } = l := by
  subst h
  rfl

/-- The activities that are a job's work on its place. -/
def Activity.onPlace : Activity → Bool
  | .idle => false
  | .recovering _ => false
  | .writing _ => false
  | _ => true

/-- The completion of an operation of the running job on its place. -/
theorem State.flashCompletes_place (flash : s.lsc.flash = some op) (queue : s.lsc.queue = j :: rest) (followed : s.followed j = some r)
    (place : s.lsc.activity.onPlace = true) (result : FlashResult) :
    s.flashCompletes result = State.settleHead (s.onPlace result j r) := by
  rw [State.flashCompletes, if_pos (by rw [flash]; rfl), State.flashDone]
  split
  · next e => rw [e] at place; exact nomatch place
  · next e => rw [e] at place; exact nomatch place
  · next e => rw [e] at place; exact nomatch place
  · rw [queue]
    dsimp only
    rw [followed]

/-- An only head whose work ends. -/
theorem State.settleHead_ends {t : State} (queue : t.lsc.queue = [j]) (reason : Reason) :
    State.settleHead (t, some reason) = t.headEnded j [] reason := State.endHead_only queue reason

/-- The reason a job ends with decides its ending. -/
theorem Job.ending_failed {reason : Reason} (failed : reason ≠ .noReason) (j : Job) : j.ending reason = .failed :=
  if_pos (bne_iff_ne.mpr failed)

/-- The test of a stored page at its last page (08 R129): every page was sound, and the CRC is the record's. -/
def PageCheck.ends (d : PageCheck) (result : FlashResult) (expected : Option Quad) : Prop :=
  d.sound = true ∧ ∃ x, result = .pass x ∧ expected = some (~~~ (crcRun d.crc x))

theorem PageCheck.verdict_iff (last : d.page = 2025) (q : Half) (expected : Option Quad) :
    (d.take result q).verdict expected = true ↔ d.ends result expected := by
  cases result with
  | fail => simp [PageCheck.take, PageCheck.verdict, PageCheck.ends]
  | pass x => simp [PageCheck.take, PageCheck.verdict, PageCheck.ends, last]

/-- What the result of a page that is not the last makes of the test. -/
theorem PageCheck.take_fail (d : PageCheck) (q : Half) : d.take .fail q = { d with sound := false } := rfl

theorem PageCheck.take_first (first : d.page = 0) (x : List Byte) (q : Half) :
    d.take (.pass x) q = { d with sound := d.sound && headerAgrees x q } := if_pos first

theorem PageCheck.take_later (later : d.page ≠ 0) (x : List Byte) (q : Half) : d.take (.pass x) q = { d with crc := crcRun d.crc x } :=
  if_neg later

/-! ### Loads (09 R145) -/

theorem State.onPlace_loading (activity : s.lsc.activity = .loading n d) : s.onPlace result j r = s.loaded j r n d result := by
  rw [State.onPlace, activity]

/-- The slot's picture has taken the page that was read. -/
def State.drawnPage (s : State) (n : Nat) (d : PageCheck) (result : FlashResult) : State :=
  { s with spm := s.spm.draw n fun p => p.addBytes d.page result }

theorem State.loaded_more (more : d.page < 2025) : s.loaded j r n d result =
    ((s.drawnPage n d result).loadPage n r.place { d.take result r.serial with page := d.page + 1 }, none) := if_pos more

theorem State.loaded_sound (last : d.page = 2025) (sound : d.ends result r.crc) :
    s.loaded j r n d result = (s.drawnPage n d result).loadSound j n r.serial :=
  (if_neg (by omega)).trans (if_pos ((PageCheck.verdict_iff last _ _).mpr sound))

theorem State.loaded_unsound (last : d.page = 2025) (unsound : ¬ d.ends result r.crc) :
    s.loaded j r n d result = (s.drawnPage n d result).damaged j n r.serial :=
  (if_neg (by omega)).trans (if_neg (mt (PageCheck.verdict_iff last _ _).mp unsound))

/-- A sound load of a RECALL is shown. -/
theorem State.loadSound_recall {l p k : Nat} {q : Half} (task : j.task = .recall l p) (holds : holdsPage s.lsc.lessons k q) :
    s.loadSound j n q =
      ({ s with
        lsc := s.lsc.rests, spm := s.spm.succeed n .load .page,
        vwc := { s.vwc with page := some { slot := n, lesson := k, serial := q }, gen := s.vwc.gen + 1 },
        cpi := s.cpi.raise .viewChanged }, some .noReason) := by
  rw [State.loadSound, task]
  dsimp only
  rw [State.recalled, Lsc.lessonOf_of_holds s.lsc holds]
  rfl

/-- A sound load of an EXPORT goes to the feed link controller, which takes it or not. -/
theorem State.loadSound_export {l p k : Nat} {q : Half} (task : j.task = .exportPage l p) (holds : holdsPage s.lsc.lessons k q) :
    s.loadSound j n q = if s.flc.exportReady = true then
      ({ s with
        lsc := s.lsc.rests, spm := s.spm.replace n .load .exported,
        flc := { s.flc with exportFrame := some { slot := n, port := j.port, marker := j.marker, lesson := k, serial := q } } }, none)
      else ({ s with lsc := s.lsc.rests, spm := (s.spm.replace n .load .exported).removeKind .exported }, some .feedLost) := by
  rw [State.loadSound, task]
  dsimp only
  rw [State.handExport, Lsc.lessonOf_of_holds s.lsc holds]
  rfl

/-- An unsound load has left its slot, and its record is DAMAGED. -/
def State.damagedPage (s : State) (n : Nat) (q : Half) : State :=
  { s with
    spm := s.spm.remove n .load,
    lsc := { s.lsc.rests with lessons := changeRecord s.lsc.lessons q fun y => { y with state := .damaged }, due := true } }

theorem State.damaged_readOnly {q : Half} (mode : s.lsc.mode = .readOnly) :
    s.damaged j n q = (s.damagedPage n q, some .pageDamaged) := if_pos mode

theorem State.damaged_ready {q : Half} (mode : s.lsc.mode = .ready) : s.damaged j n q = (s.damagedPage n q).jobWrite j :=
  if_neg (by rw [mode]; decide)

theorem Spm.lowestFree_of {p : Spm} (here : n < p.slots.length) (empty : (p.slot n).holders = noHolders)
    (first : ∀ m < n, (p.slot m).holders ≠ noHolders) : p.lowestFree = some n := by
  have slot : ∀ m (h : m < p.slots.length), p.slot m = p.slots[m] := fun m h => List.getD_eq_getElem _ _ h
  refine List.findIdx?_eq_some_iff_getElem.mpr ⟨here, Holders.isEmpty_iff.mpr (by rw [← slot n here]; exact empty), fun m hm taken => ?_⟩
  exact first m hm (by rw [slot m (by omega)]; exact Holders.isEmpty_iff.mp taken)

theorem Spm.take_load (p : Spm) (n : Nat) (content : SlotContent) (picture : Picture) : p.take n .load content picture =
    { p with slots := p.slots.set n { holders := { noHolders with load := true }, content := content, picture := picture } } := by
  rw [Spm.take]
  congr 1
  refine List.ext_getElem? fun m => ?_
  rw [List.getElem?_modify, List.getElem?_set]
  by_cases e : n = m
  · subst e
    by_cases h : n < p.slots.length
    · simp [h, Holders.put]
    · simp [h]
  · simp [e]

/-- A RECALL or EXPORT at its acceptance into an empty queue: it begins its load, or it waits for a slot. -/
theorem load_begins {h : CmdHeader} {kind : Byte} {args : List Byte} {f : State → State × Answer} {task : JobTask} {k : Nat}
    (takes : s.takes h.port) (queue : s.lsc.queue = []) (idle : s.lsc.activity = .idle) (holds : holdsPage s.lsc.lessons k r.serial)
    (work : f (s.withEmitted []) = ((s.withEmitted []).enqueue (newJob h task (some r.serial) none), accepted false .nothing))
    (begins : ∀ u : State, u.lsc.lessons = s.lsc.lessons → u.flc = s.flc →
      u.beginRun (newJob h task (some r.serial) none) = (u.testReserve (newJob h task (some r.serial) none) r, none))
    (hk : kind ≠ 32 ∧ kind ≠ 59 := by decide) :
    (∀ n, 2 ≤ s.spm.freeCount → n < s.spm.slots.length → (s.spm.slot n).holders = noHolders →
      (∀ m < n, (s.spm.slot m).holders ≠ noHolders) → ∃ t, command kind h args s f = .next t ∧
        t.lsc = { s.lsc with
          queue := [{ newJob h task (some r.serial) none with state := .running }], flash := some (.read (64 + 32 * r.place) 0),
          activity := .loading n { page := 0, crc := 0xFFFFFFFF, sound := true } } ∧
        t.spm = { s.spm with
          slots := s.spm.slots.set n { holders := { noHolders with load := true }, content := .storedPage k r.serial, picture := .stored [] } } ∧
        s.answers t s.cpi kind h (accepted false .nothing) [.lsc, .spm]) ∧
    (s.spm.freeCount < 2 → ∃ t, command kind h args s f = .next t ∧
      t.lsc = { s.lsc with queue := [{ newJob h task (some r.serial) none with state := .waitSlot }] } ∧
      s.answers t s.cpi kind h (accepted false .nothing) [.lsc]) := by
  let j := newJob h task (some r.serial) none
  let u := (s.withEmitted []).withQueue [j]
  have runs : u.runNext = u.testReserve j r := State.runNext_goes (s := u) rfl (begins u rfl rfl)
  rw [State.enqueue_first (s := s.withEmitted []) queue idle, runs] at work
  refine ⟨fun n two here empty first => ?_, fun few => ?_⟩
  · rw [State.testReserve_loads (s := u) rfl holds (Spm.lowestFree_of here empty first) two] at work
    obtain ⟨t, ht, shows, answers⟩ := command_works (args := args) takes work (bs := [.lsc, .spm])
      (State.unchanged_by (spm := .inl (by decide)) (lsc := .inl (by decide))) hk
    exact ⟨t, ht, shows.lsc, shows.spm.trans (Spm.take_load _ _ _ _), answers⟩
  · rw [State.testReserve_waits (s := u) few, State.setHead_eq (s := u) rfl] at work
    obtain ⟨t, ht, shows, answers⟩ := command_works (args := args) takes work (bs := [.lsc]) (State.unchanged_by (lsc := .inl (by decide))) hk
    exact ⟨t, ht, shows.lsc, answers⟩

/-- The job of a command that reads a page: its run begins with the test of the job reserve. -/
theorem recall_begins {h : CmdHeader} {l p : Byte} (ok : (s.withEmitted []).TakesJobs) (may : s.may h.port l .toShow)
    (page : s.hasPage l p r) (found : recordWith s.lsc.lessons r.serial = some r) :
    workRecall h [l, p] (s.withEmitted []) =
      ((s.withEmitted []).enqueue (newJob h (.recall l.toNat p.toNat) (some r.serial) none), accepted false .nothing) ∧
    ∀ u : State, u.lsc.lessons = s.lsc.lessons → u.flc = s.flc →
      u.beginRun (newJob h (.recall l.toNat p.toNat) (some r.serial) none) =
        (u.testReserve (newJob h (.recall l.toNat p.toNat) (some r.serial) none) r, none) := by
  refine ⟨recall_accepted ok may page, fun u same _ => ?_⟩
  rw [State.beginRun_recall rfl, State.beginRecall, State.followed_eq rfl, same, found]

theorem export_begins {h : CmdHeader} {l p : Byte} (ok : (s.withEmitted []).TakesJobs) (may : s.may h.port l .toExport)
    (page : s.hasPage l p r) (found : recordWith s.lsc.lessons r.serial = some r)
    (free : (lessonAt s.lsc.lessons l.toNat).lock = false) (holds : holdsPage s.lsc.lessons l.toNat r.serial)
    (up : s.flc.agreement = .feedUp) (exporting : s.flc.result.map (·.exporting) = some true) :
    workExport h [l, p] (s.withEmitted []) =
      ((s.withEmitted []).enqueue (newJob h (.exportPage l.toNat p.toNat) (some r.serial) none), accepted false .nothing) ∧
    ∀ u : State, u.lsc.lessons = s.lsc.lessons → u.flc = s.flc →
      u.beginRun (newJob h (.exportPage l.toNat p.toNat) (some r.serial) none) =
        (u.testReserve (newJob h (.exportPage l.toNat p.toNat) (some r.serial) none) r, none) := by
  obtain ⟨a, result, able⟩ := Option.map_eq_some_iff.mp exporting
  refine ⟨export_accepted ok may page free up result able, fun u same feed => ?_⟩
  have unlocked : ¬ exportLocked s.lsc.lessons r.serial = true := by
    rw [exportLocked, (holdsPage_iff _ _ _).mp holds]
    show ¬ (lessonAt s.lsc.lessons l.toNat).lock = true
    rw [free]
    exact Bool.false_ne_true
  have ready : u.flc.exportReady = true := by rw [feed, Flc.exportReady_eq, decide_eq_true_eq]; exact ⟨up, exporting⟩
  rw [State.beginRun_export rfl, State.beginExport, State.followed_eq rfl, same, found]
  dsimp only
  rw [if_neg unlocked, if_pos ready]

end Places
end Sys2Proof.Machine

namespace Sys2Proof.Machine

section Loads
variable {s : State} {j : Job} {r : PageRecord} {op : FlashOp} {n : Nat} {d : PageCheck} {result : FlashResult}

/-- The completion of a load's read: the job's work goes on, or ends with a reason. -/
theorem flashCompletes_load (flash : s.lsc.flash = some op) (queue : s.lsc.queue = [j]) (followed : s.followed j = some r)
    (activity : s.lsc.activity = .loading n d) : s.flashCompletes result = State.settleHead (s.loaded j r n d result) := by
  rw [State.flashCompletes_place flash queue followed (by rw [activity]; rfl), State.onPlace_loading activity]

/-- The record of a job that names a lesson and follows a serial. -/
theorem Job.record_of {kind : Byte} {l : Nat} {q : Half} (code : j.task.code = kind) (lesson : j.task.lesson = some l)
    (serial : j.serial = some q) (e : Ending) (reason : Reason) (frame : Nat) : j.record e reason frame =
      { marker := j.marker, kind := kind, ending := e, reason := reason, lesson := some l, serial := some q, frame := frame } := by
  rw [Job.record, code, lesson, serial]

/-- A job of a load by its kind. -/
theorem JobTask.load_named {task : JobTask} {l p : Nat} {kind : Byte}
    (load : (task = .recall l p ∧ kind = 35) ∨ (task = .exportPage l p ∧ kind = 36)) : task.code = kind ∧ task.lesson = some l := by
  rcases load with ⟨rfl, rfl⟩ | ⟨rfl, rfl⟩ <;> exact ⟨rfl, rfl⟩

theorem Job.ending_success (j : Job) : j.ending .noReason = if j.withdrawn then .doneDespiteWithdraw else .done := rfl

/-- Settles O58: the beginning by the FREE count, the end of a load by its soundness and by the store's mode. -/
theorem loadsGo : Obligations.LoadsGo := by
  refine ⟨fun h l p s r takes mode queue idle exist page written found holds => ?_,
    fun s op j n l p k q r d result hp flash queue serial activity found holds => ?_⟩
  · intro loading begins
    have ok : (s.withEmitted []).TakesJobs := ⟨mode, by show s.lsc.queue.length < 16; rw [queue]; decide⟩
    refine ⟨fun may => ?_, fun may free up exporting => ?_⟩
    · obtain ⟨work, runs⟩ := recall_begins ok ⟨exist, may⟩ ⟨page, written⟩ found
      exact load_begins takes queue idle holds work runs
    · obtain ⟨⟨x, here, -⟩, -⟩ := id holds
      have unlocked : (lessonAt s.lsc.lessons l.toNat).lock = false := by
        rw [lessonAt_eq here]
        exact free _ x here (.inl rfl)
      obtain ⟨work, runs⟩ := export_begins ok ⟨exist, may⟩ ⟨page, written⟩ found unlocked holds up exporting
      exact load_begins takes queue idle holds work runs
  · intro page drawn sound record damaged
    obtain rfl := recordWith_serial found
    let u := s.withEmitted []
    let v := u.drawnPage n d result
    have drawn_eq : v.spm = drawn := by
      have pages : (fun p : Picture => p.addBytes d.page result) = page := funext fun p => by cases p <;> cases result <;> rfl
      show s.spm.draw n (fun p => p.addBytes d.page result) = drawn
      rw [pages]
      rfl
    have completes : u.flashCompletes result = State.settleHead (u.loaded j r n d result) :=
      flashCompletes_load flash queue ((State.followed_eq serial).trans found) activity
    refine ⟨fun more => ?_, fun last task ends => ?_, fun last task ends up exporting => ?_, fun last task ends down => ?_,
      fun kind last task unsound mode => ?_, fun last task unsound ready more => ?_, fun kind last task unsound ready spent => ?_⟩
    · let e : PageCheck := { d.take result r.serial with page := d.page + 1 }
      have effect : u.flashCompletes result = v.loadPage n r.place e :=
        completes.trans (congrArg State.settleHead (State.loaded_more more))
      obtain ⟨t, ht, shows, becomes⟩ := arrive_as (f := fun s => s.flashCompletes result) hp effect (bs := [.lsc, .spm])
        (State.unchanged_by (spm := .inl (by decide)) (lsc := .inl (by decide)))
      refine ⟨t, e, ht, shows.spm.trans drawn_eq, shows.lsc, rfl, fun fails => ?_, fun x passes => ?_, becomes⟩
      · show (d.take result r.serial).sound = false
        rw [fails]
        rfl
      · show (d.take result r.serial).crc = _ ∧ (d.take result r.serial).sound = _
        rw [passes]
        by_cases first : d.page = 0
        · rw [PageCheck.take_first first, if_pos first]
          simp [first]
        · rw [PageCheck.take_later first, if_neg first]
          simp [first]
    · obtain ⟨code, lesson⟩ := JobTask.load_named (.inl ⟨task, rfl⟩)
      have effect := completes.trans (congrArg State.settleHead ((State.loaded_sound last ends).trans
        (State.loadSound_recall (s := v) task holds)))
      rw [State.settleHead_ends (by exact queue), State.headEnded, Job.ending_success, Job.record_of code lesson serial]
        at effect
      obtain ⟨t, ht, shows, becomes⟩ := arrive_as (f := fun s => s.flashCompletes result) hp effect (bs := [.lsc, .spm, .vwc])
        (State.unchanged_by (spm := .inl (by decide)) (lsc := .inl (by decide)) (vwc := .inl (by decide)))
      exact ⟨t, ht, shows.lsc, shows.spm.trans (congrArg (·.succeed n .load .page) drawn_eq), shows.vwc, becomes⟩
    · have ready : v.flc.exportReady = true := by rw [Flc.exportReady_eq, decide_eq_true_eq]; exact ⟨up, exporting⟩
      have effect := completes.trans (congrArg State.settleHead ((State.loaded_sound last ends).trans
        ((State.loadSound_export (s := v) task holds).trans (if_pos ready))))
      obtain ⟨t, ht, shows, becomes⟩ := arrive_as (f := fun s => s.flashCompletes result) hp effect (bs := [.lsc, .spm, .flc])
        (State.unchanged_by (spm := .inl (by decide)) (lsc := .inl (by decide)) (flc := .inl (by decide)))
      exact ⟨t, ht, shows.lsc, shows.spm.trans (congrArg (·.replace n .load .exported) drawn_eq), shows.flc, becomes⟩
    · obtain ⟨code, lesson⟩ := JobTask.load_named (.inr ⟨task, rfl⟩)
      have unready : ¬ v.flc.exportReady = true := by rw [Flc.exportReady_eq, decide_eq_true_eq, not_and_or]; exact down
      have effect := completes.trans (congrArg State.settleHead ((State.loaded_sound last ends).trans
        ((State.loadSound_export (s := v) task holds).trans (if_neg unready))))
      rw [State.settleHead_ends (by exact queue), State.headEnded, Job.ending_failed (by decide),
        Job.record_of code lesson serial] at effect
      obtain ⟨t, ht, shows, becomes⟩ := arrive_as (f := fun s => s.flashCompletes result) hp effect (bs := [.lsc, .spm])
        (State.unchanged_by (spm := .inl (by decide)) (lsc := .inl (by decide)))
      exact ⟨t, ht, shows.lsc, shows.spm.trans (congrArg (fun x : Spm => (x.replace n .load .exported).removeKind .exported) drawn_eq), becomes⟩
    · obtain ⟨code, lesson⟩ := JobTask.load_named task
      have effect := completes.trans (congrArg State.settleHead ((State.loaded_unsound last unsound).trans
        (State.damaged_readOnly (s := v) mode)))
      rw [State.settleHead_ends (by exact queue), State.headEnded, Job.ending_failed (by decide), Job.record_of code lesson serial] at effect
      obtain ⟨t, ht, shows, becomes⟩ := arrive_as (f := fun s => s.flashCompletes result) hp effect (bs := [.lsc, .spm])
        (State.unchanged_by (spm := .inl (by decide)) (lsc := .inl (by decide)))
      exact ⟨t, ht, shows.lsc, shows.spm.trans (congrArg (·.remove n .load) drawn_eq), becomes⟩
    · have effect := completes.trans (congrArg State.settleHead (((State.loaded_unsound last unsound).trans
        (State.damaged_ready (s := v) ready)).trans (State.jobWrite_goes (s := v.damagedPage n r.serial) queue more j)))
      rw [Lsc.queue_same (by exact queue)] at effect
      obtain ⟨t, ht, shows, becomes⟩ := arrive_as (f := fun s => s.flashCompletes result) hp effect (bs := [.lsc, .spm])
        (State.unchanged_by (spm := .inl (by decide)) (lsc := .inl (by decide)))
      exact ⟨t, ht, shows.lsc, shows.spm.trans (congrArg (·.remove n .load) drawn_eq), becomes⟩
    · obtain ⟨code, lesson⟩ := JobTask.load_named task
      have other : ∀ l c, j.task ≠ .store l c := by rcases task with ⟨task, -⟩ | ⟨task, -⟩ <;> rw [task] <;> exact fun _ _ e => nomatch e
      have effect := completes.trans (congrArg State.settleHead (((State.loaded_unsound last unsound).trans
        (State.damaged_ready (s := v) ready)).trans (State.jobWrite_fails (s := v.damagedPage n r.serial) queue spent other)))
      rw [State.settleHead_ends rfl, State.headEnded, Job.ending_failed (by decide), Job.record_of code lesson serial] at effect
      obtain ⟨t, ht, shows, becomes⟩ := arrive_as (f := fun s => s.flashCompletes result) hp effect (bs := [.lsc, .spm])
        (State.unchanged_by (spm := .inl (by decide)) (lsc := .inl (by decide)))
      exact ⟨t, ht, shows.lsc, shows.spm.trans (congrArg (·.remove n .load) drawn_eq), becomes⟩

end Loads
end Sys2Proof.Machine

namespace Sys2Proof.Machine

/-! ### A STORE run that loses its place or its write (09 R143, R144) -/

section Losses
variable {s : State} {j head : Job} {rest : List Job} {op : FlashOp} {l n p : Nat} {c : Capture} {q : Half} {r : PageRecord} {result : FlashResult}

/-- The lowest FREE place. -/
theorem freePlace_of {ls : List LessonRecord} {retired : List Nat} (here : p < 510)
    (free : ¬ (p ∈ retired ∨ ∃ r ∈ recordsOf ls, r.place = p)) (before : ∀ i < p, i ∈ retired ∨ ∃ r ∈ recordsOf ls, r.place = i) :
    freePlace ls retired = some p := by
  have taken : ∀ i, (!(takenPlaces ls retired).contains i) = true ↔ ¬ (i ∈ retired ∨ ∃ r ∈ recordsOf ls, r.place = i) := fun i => by
    rw [Bool.not_eq_true', ← Bool.not_eq_true, List.contains_iff_mem, takenPlaces, List.mem_append, List.mem_map, or_comm]
  rw [freePlace, List.find?_range_eq_some]
  refine ⟨(taken p).mpr free, List.mem_range.mpr here, fun i hi => ?_⟩
  rw [Bool.not_eq_true', ← Bool.not_eq_true, taken, not_not]
  exact before i hi

/-- What a changed record is removed with. -/
theorem removeRecord_changeRecord (ls : List LessonRecord) (q : Half) {f : PageRecord → PageRecord} (same : ∀ r, (f r).serial = r.serial) :
    removeRecord (changeRecord ls q f) q = removeRecord ls q := by
  unfold removeRecord changeRecord
  rw [List.map_map]
  refine List.map_congr_left fun x _ => ?_
  dsimp only [Function.comp]
  congr 1
  induction x.pages with
  | nil => rfl
  | cons r rest ih =>
    rw [List.map_cons, List.filter_cons, List.filter_cons, ih]
    by_cases e : r.serial = q
    · simp [e, same]
    · simp [e]

/-- The record and the pin of a STORE run are gone. -/
def State.recordGone (s : State) (j : Job) (q : Half) : State :=
  { s with lsc := s.lsc.withLessons (removeRecord s.lsc.lessons q), spm := s.spm.unpinned j }

/-- A run that loses the write of its record loses the record and the pin. -/
theorem State.writeLost_record (task : j.task = .store l c) (stage : j.stage = .record) (serial : j.serial = some q) (s : State) :
    s.writeLost j = (s.recordGone j q, .storeMedia) := by
  rw [State.writeLost, task, stage]
  dsimp only
  rw [serial]
  dsimp only
  rw [State.dropPin_eq]
  rfl

/-- A later write takes nothing from it. -/
theorem State.writeLost_later (stage : j.stage ≠ .record) (s : State) : s.writeLost j = (s, .storeMedia) := by
  unfold State.writeLost
  split
  · next e => exact absurd e stage
  · rfl

/-- A job's catalogue write without a sequence number: the store becomes READ_ONLY. -/
def State.writeSpent (s : State) (j : Job) (rest : List Job) : State :=
  { s with lsc := { s.lsc.rests with queue := j :: rest, mode := .readOnly }, cpi := s.cpi.raise .storeReadOnly }

theorem State.jobWrite_loses (queue : s.lsc.queue = head :: rest) (spent : s.lsc.catSeq = 0xFFFFFFFF) (j : Job) :
    s.jobWrite j = (((s.writeSpent j rest).writeLost j).1, some ((s.writeSpent j rest).writeLost j).2) := by
  rw [State.jobWrite_spent s j spent, State.setHead_eq queue]
  rfl

/-- A place is retired. -/
def Lsc.lessPlace (l : Lsc) (p : Nat) : Lsc := { l.rests with retired := l.retired ++ [p], due := true }

/-- A failing run's own write: its record and its pin go before it. -/
theorem State.endStore_eq (s : State) (j : Job) (q : Half) (reason : Reason) :
    s.endStore j q reason = (s.recordGone j q).jobWrite { j with pin := none, stage := .ending reason } := by
  rw [State.endStore, State.dropPin_eq]
  rfl

/-- An attempt that has failed: the record moves to a new place, or the run ends. -/
theorem State.attemptFailed_eq (s : State) (j : Job) (q : Half) (p : Nat) :
    let lost : State := { s with lsc := s.lsc.lessPlace p, cpi := s.cpi.raise .placeRetired }
    let again : State := { lost with cpi := lost.cpi.count .storeRetries }
    (s.lsc.retryLimit ≤ j.retries → s.attemptFailed j q p = lost.endStore j q .storeMedia) ∧
    (j.retries < s.lsc.retryLimit → freePlace s.lsc.lessons (s.lsc.retired ++ [p]) = none →
      s.attemptFailed j q p = again.endStore { j with retries := j.retries + 1 } q .storeFull) ∧
    (∀ m, j.retries < s.lsc.retryLimit → freePlace s.lsc.lessons (s.lsc.retired ++ [p]) = some m →
      s.attemptFailed j q p =
        (again.withLsc (again.lsc.withLessons (changeRecord s.lsc.lessons q fun y => { y with place := m, crc := none }))).jobWrite
          { j with retries := j.retries + 1, stage := .record }) := by
  intro lost again
  have lost_eq : (s.quiet.withLsc (s.quiet.lsc.retire p)).raise .placeRetired = lost := rfl
  unfold State.attemptFailed
  dsimp only
  rw [lost_eq]
  refine ⟨fun limit => by rw [if_neg (Nat.not_lt.mpr limit)], fun few none => ?_, fun m few free => ?_⟩ <;> rw [if_pos few] <;> split
  · rfl
  · next m e => exact nomatch none.symm.trans e
  · next e => exact nomatch free.symm.trans e
  · next k e =>
    obtain rfl := Option.some.inj (free.symm.trans e)
    rfl

end Losses
end Sys2Proof.Machine

namespace Sys2Proof.Machine

section Attempts
variable {s : State} {j head : Job} {rest : List Job} {op : FlashOp} {l n p : Nat} {c : Capture} {q : Half} {r : PageRecord} {d : PageCheck}
  {result : FlashResult} {reason : Reason} {w : CatalogueWrite}

/-- What ends an attempt of a STORE run: a failed erase or program, or a read-back that is unsound at its last page. -/
def State.attemptLost (s : State) (r : PageRecord) (result : FlashResult) : Prop :=
  (∃ k, s.lsc.activity = .erasing k ∧ result = .fail) ∨ (∃ k crc, s.lsc.activity = .programming k crc ∧ result = .fail) ∨
    ∃ d, s.lsc.activity = .readingBack d ∧ d.page = 2025 ∧
      (d.sound = false ∨ result = .fail ∨ ∃ x, result = .pass x ∧ r.crc ≠ some (~~~ (crcRun d.crc x)))

theorem PageCheck.not_ends {expected : Option Quad}
    (unsound : d.sound = false ∨ result = .fail ∨ ∃ x, result = .pass x ∧ expected ≠ some (~~~ (crcRun d.crc x))) :
    ¬ d.ends result expected := by
  rintro ⟨sound, x, rfl, crc⟩
  rcases unsound with unsound | fails | ⟨y, pass, differs⟩
  · exact absurd (sound.symm.trans unsound) (by decide)
  · exact nomatch fails
  · obtain rfl := FlashResult.pass.inj pass
    exact differs crc

/-- The completions of a STORE run's operations. -/
theorem State.onPlace_erasing {k : Nat} (activity : s.lsc.activity = .erasing k) (task : j.task = .store l c) :
    s.onPlace result j r = s.erased j c r k result := by rw [State.onPlace, activity, task]

theorem State.onPlace_programming {k : Nat} {crc : Quad} (activity : s.lsc.activity = .programming k crc) (task : j.task = .store l c) :
    s.onPlace result j r = s.programmed j l c r k crc result := by rw [State.onPlace, activity, task]

theorem State.onPlace_readingBack (activity : s.lsc.activity = .readingBack d) (task : j.task = .store l c) :
    s.onPlace result j r = s.checked j r d result := by rw [State.onPlace, activity, task]

theorem State.onPlace_lost (task : j.task = .store l c) (lost : s.attemptLost r result) :
    s.onPlace result j r = s.attemptFailed j r.serial r.place := by
  rcases lost with ⟨k, activity, rfl⟩ | ⟨k, crc, activity, rfl⟩ | ⟨d, activity, last, unsound⟩
  · exact State.onPlace_erasing activity task
  · exact State.onPlace_programming activity task
  · rw [State.onPlace_readingBack activity task]
    exact (if_neg (by omega)).trans (if_neg (mt (PageCheck.verdict_iff last _ _).mp (PageCheck.not_ends unsound)))

theorem State.attemptLost.places (lost : s.attemptLost r result) : s.lsc.activity.onPlace = true := by
  rcases lost with ⟨k, activity, -⟩ | ⟨k, crc, activity, -⟩ | ⟨d, activity, -⟩ <;> rw [activity] <;> rfl

/-- The completion that ends an attempt. -/
theorem flashCompletes_lost (flash : s.lsc.flash = some op) (queue : s.lsc.queue = j :: rest) (followed : s.followed j = some r)
    (task : j.task = .store l c) (lost : s.attemptLost r result) :
    s.flashCompletes result = State.settleHead (s.attemptFailed j r.serial r.place) := by
  rw [State.flashCompletes_place flash queue followed lost.places, State.onPlace_lost task lost]

/-- A failing run's own write. -/
theorem State.endStore_goes (queue : s.lsc.queue = head :: rest) (more : s.lsc.catSeq ≠ 0xFFFFFFFF) (j : Job) (q : Half) (reason : Reason) :
    s.endStore j q reason = ((s.recordGone j q).withLsc (({ (s.recordGone j q).lsc with
      queue := { j with pin := none, stage := .ending reason } :: rest } : Lsc).startsWrite .job), none) := by
  rw [State.endStore_eq, State.jobWrite_goes (s := s.recordGone j q) queue more]

theorem State.endStore_fails (queue : s.lsc.queue = head :: rest) (spent : s.lsc.catSeq = 0xFFFFFFFF) (j : Job) (q : Half) (reason : Reason) :
    s.endStore j q reason =
      ((s.recordGone j q).writeSpent { j with pin := none, stage := .ending reason } rest, some .storeMedia) := by
  rw [State.endStore_eq, State.jobWrite_loses (s := s.recordGone j q) queue spent, State.writeLost_later (by simp)]

/-- A STORE job ends with STORE_MEDIA as the store becomes READ_ONLY; its record and its pin are gone. -/
def State.storeLost (s : State) (j : Job) (q : Half) : State :=
  { s with
    lsc := { s.lsc.rests with lessons := removeRecord s.lsc.lessons q, due := true, mode := .readOnly, queue := [] },
    spm := s.spm.unpinned j,
    cpi := (s.cpi.raise .storeReadOnly).given j.port (j.record .failed .storeMedia s.siu.frameNumber) }

theorem State.endStore_spent (queue : s.lsc.queue = [head]) (spent : s.lsc.catSeq = 0xFFFFFFFF) (j : Job) (q : Half) (reason : Reason) :
    State.settleHead (s.endStore j q reason) = s.storeLost j q := by
  rw [State.endStore_fails queue spent, State.settleHead_ends rfl, State.headEnded, Job.ending_failed (by decide)]
  rfl

theorem State.recordWrite_spent (queue : s.lsc.queue = [head]) (spent : s.lsc.catSeq = 0xFFFFFFFF) (task : j.task = .store l c)
    (stage : j.stage = .record) (serial : j.serial = some q) : State.settleHead (s.jobWrite j) = s.storeLost j q := by
  rw [State.jobWrite_loses queue spent, State.writeLost_record task stage serial, State.settleHead_ends rfl, State.headEnded,
    Job.ending_failed (by exact fun e => nomatch e)]
  rfl

/-- The CPI once an attempt has failed: the retry is counted where the limit allows one. -/
def State.attemptNoted (s : State) (j : Job) : Cpi :=
  if j.retries < s.lsc.retryLimit then (s.cpi.raise .placeRetired).count .storeRetries else s.cpi.raise .placeRetired

/-- An attempt that fails where no sequence number is left: the run ends, whatever its retries and places. -/
theorem State.attemptFailed_spent (queue : s.lsc.queue = [head]) (spent : s.lsc.catSeq = 0xFFFFFFFF) (task : j.task = .store l c)
    (serial : j.serial = some q) (p : Nat) : State.settleHead (s.attemptFailed j q p) =
      ({ s with lsc := s.lsc.lessPlace p, cpi := s.attemptNoted j } : State).storeLost j q := by
  obtain ⟨limit, full, moves⟩ := s.attemptFailed_eq j q p
  by_cases few : j.retries < s.lsc.retryLimit
  · rw [State.attemptNoted, if_pos few]
    cases free : freePlace s.lsc.lessons (s.lsc.retired ++ [p]) with
    | none =>
      rw [full few free, State.endStore_spent (by exact queue) (by exact spent)]
      rfl
    | some m =>
      rw [moves m few free, State.recordWrite_spent (q := q) (by exact queue) (by exact spent) (by exact task) rfl (by exact serial)]
      have gone : removeRecord (changeRecord s.lsc.lessons q fun y => { y with place := m, crc := none }) q =
          removeRecord s.lsc.lessons q := removeRecord_changeRecord _ _ fun _ => rfl
      unfold State.storeLost
      dsimp only [State.withLsc_lsc, Lsc.withLessons, Lsc.rests]
      rw [gone]
      rfl
  · rw [State.attemptNoted, if_neg few, limit (Nat.not_lt.mp few), State.endStore_spent (by exact queue) (by exact spent)]

end Attempts
end Sys2Proof.Machine

namespace Sys2Proof.Machine

section Attempts
variable {s : State} {j : Job} {op : FlashOp} {l n : Nat} {c : Capture} {q : Half} {r : PageRecord} {result : FlashResult} {w : CatalogueWrite}

/-- The completion that loses a job's write for good. -/
theorem flashCompletes_jobWrite_lost (flash : s.lsc.flash = some op) (activity : s.lsc.activity = .writing w) (owner : w.owner = .job)
    (fourth : w.attempt = 4) (fails : w.fails result) (queue : s.lsc.queue = [j]) :
    s.flashCompletes result = (s.lostWrite.writeLost j).1.endHead (s.lostWrite.writeLost j).2 := by
  have left : s.lostWrite.lsc.queue = [j] := queue
  rw [State.flashCompletes_writing flash activity, State.writing_lost fails (.inl (by omega)), owner, State.writeFailed, left]

/-- The record of a STORE job. -/
theorem Job.record_store (task : j.task = .store l c) (e : Ending) (reason : Reason) (frame : Nat) : j.record e reason frame =
    { marker := j.marker, kind := 34, ending := e, reason := reason, lesson := some l, serial := j.serial, frame := frame } := by
  rw [Job.record, task]
  rfl

/-- A pool without the pin of a job that has one. -/
theorem Spm.unpinned_some (pin : j.pin = some n) (p : Spm) : p.unpinned j = p.unpin n { port := j.port, marker := j.marker } := by
  rw [Spm.unpinned, pin]

/-- Settles O57: the write that fails, then the attempt that fails, by the retry limit, the places and the sequence numbers left. -/
theorem storeAttemptFails : Obligations.StoreAttemptFails := by
  refine ⟨fun s op j w l c result hp flash queue task stage activity owner fourth fails => ?_,
    fun s op j l n c q r result hp flash queue task serial pin found => ?_⟩
  · have later : j.stage ≠ .record := by
      rcases stage with e | ⟨r, e⟩ <;> rw [e] <;> simp
    have effect := flashCompletes_jobWrite_lost (s := s.withEmitted []) flash activity owner fourth fails queue
    rw [State.writeLost_later later, State.endHead_only (by exact queue), State.headEnded, Job.ending_failed (by exact fun e => nomatch e),
      Job.record_store task] at effect
    obtain ⟨t, ht, shows, becomes⟩ := arrive_as (f := fun s => s.flashCompletes result) hp effect (bs := [.lsc])
      (State.unchanged_by (lsc := .inl (by decide)))
    exact ⟨t, ht, shows.lsc, becomes⟩
  intro unpinned removed failed used retired
  obtain rfl := recordWith_serial found
  let u := s.withEmitted []
  have followed : u.followed j = some r := (State.followed_eq serial).trans found
  have free : u.spm.unpinned j = unpinned := Spm.unpinned_some pin _
  have ended : j.record .failed .storeMedia s.siu.frameNumber =
      { marker := j.marker, kind := 34, ending := .failed, reason := .storeMedia, lesson := some l, serial := some r.serial,
        frame := s.siu.frameNumber } := (Job.record_store task _ _ _).trans (by rw [serial])
  have completes : failed → u.flashCompletes result = State.settleHead (u.attemptFailed j r.serial r.place) := fun lost =>
    flashCompletes_lost flash queue followed task lost
  obtain ⟨limit, full, moves⟩ := u.attemptFailed_eq j r.serial r.place
  have taken : ∀ i, used i ↔ (i ∈ s.lsc.retired ++ [r.place] ∨ ∃ x ∈ recordsOf s.lsc.lessons, x.place = i) := fun i => by
    rw [List.mem_append, List.mem_singleton, or_assoc]
  refine ⟨fun lost more => ⟨fun p few here unused before => ?_, fun few none => ?_, fun spent => ?_⟩, fun lost spent => ?_,
    fun w activity owner fourth fails stage => ?_⟩
  · have place := freePlace_of here (mt (taken p).mpr unused) fun i hi => (taken i).mp (before i hi)
    have effect := (completes lost).trans (congrArg State.settleHead ((moves p few place).trans
      (State.jobWrite_goes (by exact queue) (by exact more) _)))
    obtain ⟨t, ht, shows, becomes⟩ := arrive_as (f := fun s => s.flashCompletes result) hp effect (bs := [.lsc])
      (State.unchanged_by (lsc := .inl (by decide)))
    exact ⟨t, ht, shows.lsc, becomes⟩
  · have place := freePlace_none fun i hi => (taken i).mp (none i hi)
    have effect := (completes lost).trans (congrArg State.settleHead ((full few place).trans
      (State.endStore_goes (by exact queue) (by exact more) _ _ _)))
    obtain ⟨t, ht, shows, becomes⟩ := arrive_as (f := fun s => s.flashCompletes result) hp effect (bs := [.lsc, .spm])
      (State.unchanged_by (lsc := .inl (by decide)) (spm := .inl (by decide)))
    exact ⟨t, ht, shows.lsc, shows.spm.trans free, becomes⟩
  · have effect := (completes lost).trans (congrArg State.settleHead ((limit spent).trans
      (State.endStore_goes (by exact queue) (by exact more) _ _ _)))
    obtain ⟨t, ht, shows, becomes⟩ := arrive_as (f := fun s => s.flashCompletes result) hp effect (bs := [.lsc, .spm])
      (State.unchanged_by (lsc := .inl (by decide)) (spm := .inl (by decide)))
    exact ⟨t, ht, shows.lsc, shows.spm.trans free, becomes⟩
  · intro noted counted
    have effect := (completes lost).trans (State.attemptFailed_spent (s := u) queue spent task serial r.place)
    rw [State.storeLost] at effect
    obtain ⟨t, ht, shows, becomes⟩ := arrive_as (f := fun s => s.flashCompletes result) hp effect (bs := [.lsc, .spm])
      (State.unchanged_by (lsc := .inl (by decide)) (spm := .inl (by decide)))
    rw [← ended]
    exact ⟨t, ht, shows.lsc, shows.spm.trans free, becomes⟩
  · have effect := flashCompletes_jobWrite_lost (s := u) flash activity owner fourth (.inl fails) queue
    rw [State.writeLost_record task stage serial, State.endHead_only (by exact queue), State.headEnded,
      Job.ending_failed (by exact fun e => nomatch e)] at effect
    obtain ⟨t, ht, shows, becomes⟩ := arrive_as (f := fun s => s.flashCompletes result) hp effect (bs := [.lsc, .spm])
      (State.unchanged_by (lsc := .inl (by decide)) (spm := .inl (by decide)))
    rw [← ended]
    exact ⟨t, ht, shows.lsc, shows.spm.trans free, becomes⟩

end Attempts
end Sys2Proof.Machine

namespace Sys2Proof.Machine

/-! ### The beginning of a STORE run (08 R127; 09 R140) -/

section Serials
variable {ls : List LessonRecord} {next q : Half} {k l : Nat}

/-- A record holds a serial. -/
def heldSerial (ls : List LessonRecord) (q : Half) : Prop := ∃ r ∈ recordsOf ls, r.serial = q

/-- Serials that run on from the counter are different. -/
theorem serial_add_inj {i j : Nat} (hi : i < 65536) (hj : j < 65536) (e : next + BitVec.ofNat 16 i = next + BitVec.ofNat 16 j) : i = j := by
  have := congrArg BitVec.toNat e
  simp only [BitVec.toNat_add, BitVec.toNat_ofNat] at this
  omega

/-- No more serials in a row are held than there are records. -/
theorem heldRun_le (few : k < 65536) (held : ∀ i < k, heldSerial ls (next + BitVec.ofNat 16 i)) : k ≤ (recordsOf ls).length := by
  let run := (List.range k).map fun i => next + BitVec.ofNat 16 i
  have different : run.Nodup := List.Nodup.map_on (fun i hi j hj e =>
    serial_add_inj (by have := List.mem_range.mp hi; omega) (by have := List.mem_range.mp hj; omega) e) List.nodup_range
  have within : run ⊆ (recordsOf ls).map (·.serial) := fun x hx => by
    obtain ⟨i, hi, rfl⟩ := List.mem_map.mp hx
    obtain ⟨r, hr, e⟩ := held i (List.mem_range.mp hi)
    exact List.mem_map.mpr ⟨r, hr, e⟩
  have := (different.subperm within).length_le
  simpa [run] using this

/-- The first serial from the counter on that no record holds. -/
theorem freeSerial_of (few : k < 65536) (free : ¬ heldSerial ls (next + BitVec.ofNat 16 k))
    (before : ∀ i < k, heldSerial ls (next + BitVec.ofNat 16 i)) : freeSerial ls next = next + BitVec.ofNat 16 k := by
  have taken : ∀ q : Half, (!((recordsOf ls).map (·.serial)).contains q) = true ↔ ¬ heldSerial ls q := fun q => by
    rw [Bool.not_eq_true', ← Bool.not_eq_true, List.contains_iff_mem, List.mem_map]
    rfl
  have first : ((List.range ((recordsOf ls).length + 1)).find? fun n =>
      !((recordsOf ls).map (·.serial)).contains (next + BitVec.ofNat 16 n)) = some k := by
    rw [List.find?_range_eq_some]
    refine ⟨(taken _).mpr free, List.mem_range.mpr (by have := heldRun_le few before; omega), fun i hi => ?_⟩
    rw [Bool.not_eq_true', ← Bool.not_eq_true, taken, not_not]
    exact before i hi
  rw [freeSerial, List.find?_map, Function.comp_def, first]
  rfl

/-- A table to which a record with a new serial was appended, without that record. -/
theorem removeRecord_appendRecord {r : PageRecord} (new : ¬ heldSerial ls r.serial) : removeRecord (appendRecord ls l r) r.serial = ls := by
  have others : ∀ x ∈ ls, (x.pages.filter fun y => y.serial != r.serial) = x.pages := fun x hx =>
    List.filter_eq_self.mpr fun y hy => bne_iff_ne.mpr fun e => new ⟨y, List.mem_flatMap.mpr ⟨x, hx, hy⟩, e⟩
  refine List.ext_getElem? fun m => ?_
  rw [removeRecord, appendRecord, List.getElem?_map, List.getElem?_modify]
  cases here : ls[m]? with
  | none => simp
  | some x =>
    have same := others x (List.mem_of_getElem? here)
    by_cases e : l = m
    · simp [e, List.filter_append, same]
    · simp [e, same]

end Serials

section Begins
variable {s : State} {j head : Job} {rest : List Job} {l n p k : Nat} {c : Capture} {x : LessonRecord}

theorem currentLesson_opened (current : currentLesson s.lsc.lessons = some l) (here : s.lsc.lessons[l]? = some x) : x.state = .opened := by
  obtain ⟨h, opened, -⟩ := List.findIdx?_eq_some_iff_getElem.mp current
  obtain rfl := Option.some.inj ((List.getElem?_eq_getElem h).symm.trans here)
  exact beq_iff_eq.mp opened

/-- A STORE run that has its lesson, its place and its serial makes the write of its record. -/
theorem State.beginStore_records {q : Half} (opened : (lessonAt s.lsc.lessons l).state = .opened)
    (few : (lessonAt s.lsc.lessons l).pages.length < 64) (place : freePlace s.lsc.lessons s.lsc.retired = some p)
    (serial : freeSerial s.lsc.lessons s.lsc.nextSerial = q) (j : Job) : s.beginStore j l c =
      (s.withLsc { s.lsc with lessons := appendRecord s.lsc.lessons l (c.record q p), due := true, nextSerial := q + 1 }).jobWrite
        { j with state := .running, serial := some q, stage := .record } := by
  rw [State.beginStore, if_neg (not_not.mpr opened), if_neg (Nat.not_le.mpr few), place, serial]
  rfl

end Begins
end Sys2Proof.Machine

namespace Sys2Proof.Machine

/-! ### The stages of a STORE run (09 R140 to R144) -/

section Stages
variable {s : State} {j head : Job} {rest : List Job} {op : FlashOp} {l n k : Nat} {c : Capture} {q : Half} {r : PageRecord} {d : PageCheck}
  {crc : Quad} {w : CatalogueWrite} {x : List Byte}

/-- The image data of a page of the place. -/
theorem State.pageData_eq (pin : j.pin = some n) (s : State) (c : Capture) (k : Nat) :
    s.pageData j c k = capturePage (s.spm.slot n).picture c.rect k := by
  rw [State.pageData, pin]
  rfl

theorem State.erased_more (more : k < 31) : s.erased j c r k (.pass x) =
    (s.withLsc { s.lsc with flash := some (.erase (64 + 32 * r.place + k + 1)), activity := .erasing (k + 1) }, none) := if_pos more

theorem State.erased_last (queue : s.lsc.queue = head :: rest) (pin : j.pin = some n) (last : k = 31) : s.erased j c r k (.pass x) =
    (s.withLsc { s.lsc with
      queue := { j with stage := .program } :: rest,
      flash := some (.program (64 + 32 * r.place) 1 (capturePage (s.spm.slot n).picture c.rect 1)),
      activity := .programming 1 (crcRun 0xFFFFFFFF (capturePage (s.spm.slot n).picture c.rect 1)) }, none) := by
  have erased : s.erased j c r k (.pass x) = _ := if_neg (by omega)
  rw [erased, State.setHead_eq queue, State.programImage, State.pageData_eq (j := { j with stage := .program }) pin]
  rfl

theorem State.programmed_more (first : 1 ≤ k) (more : k < 2025) (pin : j.pin = some n) : s.programmed j l c r k crc (.pass x) =
    (s.withLsc { s.lsc with
      flash := some (.program (64 + 32 * r.place + (k + 1) / 64) ((k + 1) % 64) (capturePage (s.spm.slot n).picture c.rect (k + 1))),
      activity := .programming (k + 1) (crcRun crc (capturePage (s.spm.slot n).picture c.rect (k + 1))) }, none) := by
  have programmed : s.programmed j l c r k crc (.pass x) = _ := (if_neg (by omega)).trans (if_pos more)
  rw [programmed, State.programImage, State.pageData_eq pin]
  rfl

theorem State.programmed_last (last : k = 2025) : s.programmed j l c r k crc (.pass x) =
    (s.withLsc { s.lsc with
      lessons := changeRecord s.lsc.lessons r.serial fun y => { y with crc := some (~~~ crc) }, due := true,
      flash := some (.program (64 + 32 * r.place) 0 (r.header l (~~~ crc)).page), activity := .programming 0 crc }, none) :=
  (if_neg (by omega)).trans (if_neg (by omega))

theorem State.programmed_header (queue : s.lsc.queue = head :: rest) (first : k = 0) : s.programmed j l c r k crc (.pass x) =
    (s.withLsc { s.lsc with
      queue := { j with stage := .readBack } :: rest,
      flash := some (.read (64 + 32 * r.place) 0), activity := .readingBack { page := 0, crc := 0xFFFFFFFF, sound := true } }, none) := by
  have programmed : s.programmed j l c r k crc (.pass x) = _ := if_pos first
  rw [programmed, State.setHead_eq queue]
  rfl

theorem State.checked_more {result : FlashResult} {crc' : Quad} {sound : Bool} (more : d.page < 2025)
    (taken : d.take result r.serial = { d with crc := crc', sound := sound }) : s.checked j r d result =
    (s.withLsc { s.lsc with
      flash := some (.read (64 + 32 * r.place + (d.page + 1) / 64) ((d.page + 1) % 64)),
      activity := .readingBack { page := d.page + 1, crc := crc', sound := sound } }, none) := by
  have checked : s.checked j r d result = _ := if_pos more
  rw [checked, taken]
  rfl

/-- A sound read-back: the pin goes and the record is KEPT. -/
def State.keptPage (s : State) (j : Job) (q : Half) : State :=
  { s with
    spm := s.spm.unpinned j,
    lsc := { s.lsc.rests with lessons := changeRecord s.lsc.lessons q fun y => { y with state := .kept }, due := true } }

theorem State.checked_sound {result : FlashResult} (last : d.page = 2025) (sound : d.ends result r.crc) :
    s.checked j r d result = (s.keptPage j r.serial).jobWrite { j with pin := none, stage := .keep } := by
  have checked : s.checked j r d result = s.keep j r.serial :=
    (if_neg (by omega)).trans (if_pos ((PageCheck.verdict_iff last _ _).mpr sound))
  rw [checked, State.keep, State.dropPin_eq]
  rfl

/-- The write of the record has passed: the first block of the place is erased. -/
theorem State.jobWritten_record (queue : s.lsc.queue = head :: rest) (task : j.task = .store l c) (stage : j.stage = .record)
    (followed : s.followed j = some r) : s.jobWritten j =
      (s.withLsc { s.lsc with
        queue := { j with stage := .erase } :: rest, flash := some (.erase (64 + 32 * r.place)), activity := .erasing 0 }, none) := by
  rw [State.jobWritten, task, stage]
  dsimp only
  rw [followed]
  dsimp only
  rw [State.setHead_eq queue]
  rfl

/-- A later write has passed: the run ends. -/
theorem State.jobWritten_keep (task : j.task = .store l c) (stage : j.stage = .keep) : s.jobWritten j = (s, some .noReason) := by
  rw [State.jobWritten, task, stage]

theorem State.jobWritten_ending {reason : Reason} (task : j.task = .store l c) (stage : j.stage = .ending reason) :
    s.jobWritten j = (s, some reason) := by
  rw [State.jobWritten, task, stage]

/-- The completion with which a job's write passes. -/
theorem flashCompletes_jobWrite_passed (flash : s.lsc.flash = some op) (activity : s.lsc.activity = .writing w) (owner : w.owner = .job)
    (phase : w.phase = .readBack k) (last : imagePages w.bytes.length ≤ k + 1) (queue : s.lsc.queue = j :: rest) :
    s.flashCompletes (.pass (imagePage w.bytes k)) = State.settleHead ((s.passedWrite w.block).jobWritten j) := by
  have left : (s.passedWrite w.block).lsc.queue = j :: rest := queue
  rw [State.flashCompletes_writing flash activity, State.writing_passed phase last, owner, State.writePassed, left]

end Stages

/-! ### Header pages (08 R128) -/

/-- A header page agrees with the serial of its header alone. -/
theorem headerAgrees_page {header : PageHeader} (range : header.inRange = true) (q : Half) :
    headerAgrees header.page q = true ↔ q = header.serial := by
  rw [headerAgrees, PageHeader.page, Config.header.readsBack _ _ range]
  dsimp only
  rw [Bool.and_eq_true, beq_iff_eq, beq_iff_eq]
  exact ⟨fun agrees => agrees.2.symm, fun e => ⟨rfl, e.symm⟩⟩

/-- An erased page carries no page mark, so it is no header. -/
theorem headerAgrees_erased (q : Half) : headerAgrees (List.replicate 2048 0xFF) q = false := by
  unfold headerAgrees
  cases read : Config.header.read (List.replicate 2048 0xFF) with
  | none => rfl
  | some x =>
    obtain ⟨m, marks, tells⟩ := Config.header.telling
    have byte := Config.header.needsMark _ _ read m marks
    obtain ⟨within, e⟩ := List.getElem?_eq_some_iff.mp byte
    exact absurd (e.symm.trans (List.getElem_replicate _)) tells

end Sys2Proof.Machine

namespace Sys2Proof.Machine

section StoreRun
variable {s : State} {h : CmdHeader} {b : Byte} {l n f p k : Nat} {x : LessonRecord} {u : State}

theorem State.capture_eq {f : Nat} (here : s.spm.find .latest = some n) (live : (s.spm.slot n).content = .liveFrame f) (b : Byte) :
    s.captured b f = s.capture (cropArg b).1 := by
  rw [State.capture, State.captured, (s.cropAsked_eq b).1, Spm.latestFrame_live here live]
  rfl

/-- What an accepted STORE finds: its lesson, its slot, a place and a serial. -/
structure State.TakesStore (s : State) (p : Port) (l n f : Nat) (x : LessonRecord) (place : Nat) (q : Half) : Prop where
  ready : s.lsc.mode = .ready
  queue : s.lsc.queue = []
  idle : s.lsc.activity = .idle
  current : currentLesson s.lsc.lessons = some l
  lesson : s.lsc.lessons[l]? = some x
  may : s.cpi.allows p l .toSave = true
  latest : s.spm.find .latest = some n
  live : (s.spm.slot n).content = .liveFrame f
  pins : s.spm.pinCount < 2
  room : x.pages.length < 64
  free : freePlace s.lsc.lessons s.lsc.retired = some place
  serial : freeSerial s.lsc.lessons s.lsc.nextSerial = q

/-- The store with the new record, before its write. -/
def Lsc.recorded (lsc : Lsc) (l : Nat) (c : Capture) (q : Half) (p : Nat) : Lsc :=
  { lsc with lessons := appendRecord lsc.lessons l (c.record q p), due := true, nextSerial := q + 1 }

/-- The STORE job as its acceptance makes it. -/
def storeJob (h : CmdHeader) (l n : Nat) (c : Capture) : Job := newJob h (.store l c) none (some n)

/-- The STORE job alone in the queue, with its pin. -/
def State.storeQueued (u : State) (h : CmdHeader) (l n : Nat) (c : Capture) : State :=
  { u with spm := u.spm.pin n { port := h.port, marker := h.marker }, lsc := { u.lsc with queue := [storeJob h l n c] } }

/-- The STORE job once its run has begun. -/
def storeRunning (h : CmdHeader) (l n : Nat) (c : Capture) (q : Half) : Job :=
  { storeJob h l n c with state := .running, serial := some q, stage := .record }

theorem store_enqueued {q : Half} (ok : u.TakesStore h.port l n f x p q) (b : Byte) :
    workStore h [b] u = ((u.storeQueued h l n (u.captured b f)).runNext, accepted (decide (2 < b.toNat)) .nothing) := by
  have edits : u.TakesEdits := ⟨⟨by rw [ok.ready]; decide, by rw [ok.queue]; decide⟩, ok.ready⟩
  rw [store_accepted edits ok.current ok.may ok.latest ok.live ok.pins b, State.enqueue_first (by exact ok.queue) (by exact ok.idle)]
  rfl

/-- The run of the job begins with the write of its record. -/
theorem store_records {q : Half} (ok : u.TakesStore h.port l n f x p q) (c : Capture) :
    (u.storeQueued h l n c).beginRun (storeJob h l n c) =
      ((u.storeQueued h l n c).withLsc ((u.storeQueued h l n c).lsc.recorded l c q p)).jobWrite (storeRunning h l n c q) := by
  have lesson : lessonAt (u.storeQueued h l n c).lsc.lessons l = x := lessonAt_eq ok.lesson
  rw [State.beginRun_store (s := u.storeQueued h l n c) (j := storeJob h l n c) (l := l) (c := c) ok.ready rfl]
  have opened : (lessonAt (u.storeQueued h l n c).lsc.lessons l).state = .opened := by
    rw [lesson]
    exact currentLesson_opened ok.current ok.lesson
  have few : (lessonAt (u.storeQueued h l n c).lsc.lessons l).pages.length < 64 := by
    rw [lesson]
    exact ok.room
  rw [State.beginStore_records (s := u.storeQueued h l n c) opened few ok.free ok.serial]
  rfl

/-- Without a sequence number for it the run ends, and its record and its pin go again. -/
theorem store_spent {q : Half} (ok : u.TakesStore h.port l n f x p q) (c : Capture) (new : ¬ heldSerial u.lsc.lessons q)
    (spent : u.lsc.catSeq = 0xFFFFFFFF) : (u.storeQueued h l n c).runNext =
      { u with
        lsc := { u.lsc.rests with nextSerial := q + 1, due := true, mode := .readOnly },
        spm := (u.spm.pin n { port := h.port, marker := h.marker }).unpin n { port := h.port, marker := h.marker },
        cpi := (u.cpi.raise .storeReadOnly).given h.port
          { marker := h.marker, kind := 34, ending := .failed, reason := .storeMedia, lesson := some l, serial := some q,
            frame := u.siu.frameNumber } } := by
  have gone : removeRecord (appendRecord u.lsc.lessons l (c.record q p)) q = u.lsc.lessons := removeRecord_appendRecord new
  have writes := store_records ok c
  rw [State.jobWrite_loses (head := storeJob h l n c) (rest := []) rfl (by exact spent),
    State.writeLost_record (l := l) (c := c) (q := q) rfl rfl rfl] at writes
  rw [State.runNext_ends rfl writes rfl, State.headEnded, Job.ending_failed (by exact fun e => nomatch e)]
  have left : ({ u.lsc.rests with nextSerial := q + 1, due := true, mode := .readOnly } : Lsc) =
      { u.lsc.rests with
        lessons := removeRecord (appendRecord u.lsc.lessons l (c.record q p)) q, nextSerial := q + 1, due := true, mode := .readOnly,
        queue := [] } := by
    rw [gone, ← ok.queue]
    rfl
  rw [left]
  rfl

end StoreRun
end Sys2Proof.Machine

namespace Sys2Proof.Machine

section StoreRun
variable {s : State} {h : CmdHeader} {l n f p : Nat} {x : LessonRecord} {q : Half}

/-- O56's first part: a STORE at its acceptance. -/
theorem store_begins (takes : s.takes h.port) (ok : s.TakesStore h.port l n f x p q) (new : ¬ heldSerial s.lsc.lessons q) (b : Byte) :
    let pinned := s.spm.pin n { port := h.port, marker := h.marker }
    let c := s.capture (cropArg b).1
    (s.lsc.catSeq ≠ 0xFFFFFFFF → ∃ t, exec (.store h [b]) s = .next t ∧
      t.lsc = ({ s.lsc with
        lessons := appendRecord s.lsc.lessons l { c.record q p with frame := f }, nextSerial := q + 1, due := true,
        queue := [storeRunning h l n c q] } : Lsc).startsWrite .job ∧
      t.spm = pinned ∧ s.answers t s.cpi 34 h (accepted (decide (2 < b.toNat)) .nothing) [.lsc, .spm]) ∧
    (s.lsc.catSeq = 0xFFFFFFFF → ∃ t, exec (.store h [b]) s = .next t ∧
      t.lsc = { s.lsc.rests with nextSerial := q + 1, due := true, mode := .readOnly } ∧
      t.spm = pinned.unpin n { port := h.port, marker := h.marker } ∧
      s.answers t ((s.cpi.raise .storeReadOnly).given h.port
        { marker := h.marker, kind := 34, ending := .failed, reason := .storeMedia, lesson := some l, serial := some q,
          frame := s.siu.frameNumber }) 34 h (accepted (decide (2 < b.toNat)) .nothing) [.lsc, .spm]) := by
  intro pinned c
  let u := s.withEmitted []
  have ok' : u.TakesStore h.port l n f x p q :=
    ⟨ok.ready, ok.queue, ok.idle, ok.current, ok.lesson, ok.may, ok.latest, ok.live, ok.pins, ok.room, ok.free, ok.serial⟩
  have captured : u.captured b f = c := State.capture_eq ok.latest ok.live b
  have frame : c.frame = f := by rw [← captured]; rfl
  have work := store_enqueued ok' b
  rw [captured] at work
  refine ⟨fun more => ?_, fun spent => ?_⟩
  · have writes := store_records ok' c
    rw [State.jobWrite_goes (head := storeJob h l n c) (rest := []) rfl (by exact more)] at writes
    rw [State.runNext_goes rfl writes] at work
    obtain ⟨t, ht, shows, answers⟩ := command_works (kind := 34) (args := [b]) takes work (bs := [.lsc, .spm])
      (State.unchanged_by (lsc := .inl (by decide)) (spm := .inl (by decide)))
    refine ⟨t, ht, ?_, shows.spm, answers⟩
    rw [← frame]
    exact shows.lsc
  · rw [store_spent ok' c new spent] at work
    obtain ⟨t, ht, shows, answers⟩ := command_works (kind := 34) (args := [b]) takes work (bs := [.lsc, .spm])
      (State.unchanged_by (lsc := .inl (by decide)) (spm := .inl (by decide)))
    exact ⟨t, ht, shows.lsc, shows.spm, answers⟩

/-- Settles O56: the beginning, the stages one by one, the ends, and the header page. -/
theorem storeRunGoes : Obligations.StoreRunGoes := by
  refine ⟨fun h b s l n f p k x takes ready queue idle current lesson may latest live pins room _ => ?_,
    fun s op j rest l n c q r hp flash queue task serial pin found => ?_,
    fun s op j w l k c hp flash queue task activity owner phase last => ?_, fun header => ?_⟩
  · intro used held q here unused before few free held' pinned
    have place : freePlace s.lsc.lessons s.lsc.retired = some p := freePlace_of here unused before
    have ok : s.TakesStore h.port l n f x p q :=
      ⟨ready, queue, idle, current, lesson, may, latest, live, pins, room, place, freeSerial_of few free held'⟩
    obtain ⟨goes, spent⟩ := store_begins takes ok free b
    by_cases last : s.lsc.catSeq = 0xFFFFFFFF
    · obtain ⟨t, ht, lsc, spm, answers⟩ := spent last
      exact ⟨t, _, ht, rfl, fun more => absurd last more, fun _ => ⟨lsc, spm, answers⟩⟩
    · obtain ⟨t, ht, lsc, spm, answers⟩ := goes last
      exact ⟨t, _, ht, rfl, fun _ => ⟨lsc, spm, answers⟩, fun spent => absurd spent last⟩
  · intro block data goes at_
    obtain rfl := recordWith_serial found
    let u := s.withEmitted []
    have followed : ∀ v : State, v.lsc.lessons = s.lsc.lessons → v.followed j = some r := fun v same => by
      rw [State.followed_eq serial, same]
      exact found
    have goesOn : ∀ result lsc, s.lsc.activity.onPlace = true → u.onPlace result j r = (u.withLsc lsc, none) → goes result lsc :=
      fun result lsc place work => by
        have effect := (State.flashCompletes_place (s := u) flash queue (followed u rfl) place result).trans
          (congrArg State.settleHead work)
        obtain ⟨t, ht, shows, becomes⟩ := arrive_as (f := fun s => s.flashCompletes result) hp effect (bs := [.lsc])
          (State.unchanged_by (lsc := .inl (by decide)))
        exact ⟨t, ht, shows.lsc, becomes⟩
    refine ⟨fun w k bytes activity owner stage phase last same => ?_, fun k x activity more => ?_, fun x activity => ?_,
      fun k crc x activity first more => ?_, fun crc x activity => ?_, fun crc x activity => ?_, fun d activity more => ?_,
      fun d x activity last sound crc => ?_⟩
    · subst same
      have effect := (flashCompletes_jobWrite_passed (s := u) flash activity owner phase last queue).trans
        (congrArg State.settleHead (State.jobWritten_record (s := u.passedWrite w.block) queue task stage (followed _ rfl)))
      obtain ⟨t, ht, shows, becomes⟩ := arrive_as (f := fun s => s.flashCompletes (.pass (imagePage w.bytes k))) hp effect
        (bs := [.lsc]) (State.unchanged_by (lsc := .inl (by decide)))
      exact ⟨t, ht, shows.lsc, becomes⟩
    · exact goesOn _ _ (by rw [activity]; rfl) ((State.onPlace_erasing (s := u) activity task).trans (State.erased_more (s := u) more))
    · exact goesOn _ _ (by rw [activity]; rfl) ((State.onPlace_erasing (s := u) activity task).trans (State.erased_last (s := u) queue pin rfl))
    · exact goesOn _ _ (by rw [activity]; rfl)
        ((State.onPlace_programming (s := u) activity task).trans (State.programmed_more (s := u) first more pin))
    · exact goesOn _ _ (by rw [activity]; rfl) ((State.onPlace_programming (s := u) activity task).trans (State.programmed_last (s := u) rfl))
    · exact goesOn _ _ (by rw [activity]; rfl)
        ((State.onPlace_programming (s := u) activity task).trans (State.programmed_header (s := u) queue rfl))
    · have place : s.lsc.activity.onPlace = true := by rw [activity]; rfl
      have reading := fun result => State.onPlace_readingBack (s := u) (r := r) (result := result) activity task
      exact ⟨fun x first => goesOn _ _ place ((reading _).trans (State.checked_more (s := u) more (PageCheck.take_first first x r.serial))),
        fun x later => goesOn _ _ place ((reading _).trans (State.checked_more (s := u) more (PageCheck.take_later later x r.serial))),
        goesOn _ _ place ((reading _).trans (State.checked_more (s := u) more (d.take_fail r.serial)))⟩
    · intro kept unpinned
      have free : u.spm.unpinned j = unpinned := Spm.unpinned_some pin _
      have effect := (State.flashCompletes_place (s := u) flash queue (followed u rfl) (by rw [show u.lsc.activity = _ from activity]; rfl) (.pass x)).trans
        (congrArg State.settleHead ((State.onPlace_readingBack (s := u) activity task).trans
          (State.checked_sound (s := u) last ⟨sound, x, rfl, crc⟩)))
      refine ⟨fun more => ?_, fun spent alone => ?_⟩
      · rw [State.jobWrite_goes (s := u.keptPage j r.serial) queue more] at effect
        obtain ⟨t, ht, shows, becomes⟩ := arrive_as (f := fun s => s.flashCompletes (.pass x)) hp effect (bs := [.lsc, .spm])
          (State.unchanged_by (lsc := .inl (by decide)) (spm := .inl (by decide)))
        exact ⟨t, ht, shows.lsc, shows.spm.trans free, becomes⟩
      · subst alone
        rw [State.jobWrite_loses (s := u.keptPage j r.serial) queue spent, State.writeLost_later (by simp),
          State.settleHead_ends rfl, State.headEnded, Job.ending_failed (by exact fun e => nomatch e),
          Job.record_store (by exact task)] at effect
        obtain ⟨t, ht, shows, becomes⟩ := arrive_as (f := fun s => s.flashCompletes (.pass x)) hp effect (bs := [.lsc, .spm])
          (State.unchanged_by (lsc := .inl (by decide)) (spm := .inl (by decide)))
        rw [← serial]
        exact ⟨t, ht, shows.lsc, shows.spm.trans free, becomes⟩
  · intro ends
    let u := s.withEmitted []
    have passes := flashCompletes_jobWrite_passed (s := u) flash activity owner phase last queue
    have ended : ∀ reason, (u.passedWrite w.block).jobWritten j = (u.passedWrite w.block, some reason) → ends (j.ending reason) reason :=
      fun reason work => by
        have effect := passes.trans (congrArg State.settleHead work)
        rw [State.settleHead_ends (by exact queue), State.headEnded, Job.record_store task] at effect
        obtain ⟨t, ht, shows, becomes⟩ := arrive_as (f := fun s => s.flashCompletes (.pass (imagePage w.bytes k))) hp effect
          (bs := [.lsc]) (State.unchanged_by (lsc := .inl (by decide)))
        exact ⟨t, ht, shows.lsc, becomes⟩
    refine ⟨fun stage => ended .noReason (State.jobWritten_keep task stage), fun r stage failed => ?_⟩
    have fails := ended r (State.jobWritten_ending task stage)
    rwa [Job.ending_failed failed] at fails
  · exact ⟨Config.header.fillsPage _ _, Config.header.marked _ _, Config.header.coversPage _ _, Config.header.coversMark _,
      headerAgrees_page, Config.header.coversAll _, headerAgrees_erased⟩

end StoreRun
end Sys2Proof.Machine

namespace Sys2Proof.Machine

/-! ### Catalogue images read back, and the reading of the catalogue area (08 R130, R133) -/

section Images
variable {i : CatalogueImage} {v : RecoveryRead} {result : FlashResult} {best : Option (Nat × CatalogueImage)}

/-- The bytes of an image: what its CRC-32 covers, then that CRC-32. -/
theorem CatalogueImage.bytes_eq (i : CatalogueImage) : i.bytes =
    Config.catalogue.parts.covered i ++ Config.catalogue.parts.crcField (crc32 (Config.catalogue.parts.covered i)) := rfl

/-- The covered bytes in the manual's order. -/
theorem CatalogueImage.covered_eq (i : CatalogueImage) :
    let parts := Config.catalogue.parts
    parts.covered i = parts.mark ++ parts.lengthField i.bytes.length ++ parts.sequenceField i.sequence ++
      parts.lessonTable i.lessons ++ parts.retiredList i.retired ++ parts.serialField i.nextSerial ++ parts.settings i.saved := by
  intro parts
  rw [i.bytes_length]
  simp only [parts, CatalogueParts.covered, CatalogueParts.preamble, CatalogueParts.tables, List.append_assoc]

/-- Its CRC-32 is its last four bytes. -/
theorem CatalogueImage.bytes_covered (i : CatalogueImage) : i.bytes.length = (Config.catalogue.parts.covered i).length + 4 := by
  rw [i.bytes_eq, List.length_append, Config.catalogue.crcWide]

/-- The first page of an image states its length, whatever follows the image. -/
theorem imageLength_bytes (range : i.inRange = true) (fill : List Byte) : imageLength (i.bytes ++ fill) = i.bytes.length := by
  have fits : i.bytes.length ≤ 131072 := Config.catalogue.imageFits i range
  have states := Config.catalogue.readsLength (Config.catalogue.parts.imageLength i) i.sequence
    (Config.catalogue.parts.tables i ++ Config.catalogue.parts.crcField (crc32 (Config.catalogue.parts.covered i)) ++ fill)
    (by rw [← i.bytes_length]; exact fits)
  rw [i.bytes_length, ← states, imageLength, i.bytes_eq, CatalogueParts.covered]
  simp only [List.append_assoc]

/-- What is read back is the image that was written. -/
theorem validImage_bytes (range : i.inRange = true) (fill : List Byte) : validImage (i.bytes ++ fill) = some i := by
  have image : (i.bytes ++ fill).take i.bytes.length = i.bytes := List.take_left
  have covered : i.bytes.take (i.bytes.length - 4) = Config.catalogue.parts.covered i := by
    rw [i.bytes_covered, Nat.add_sub_cancel, i.bytes_eq, List.take_left]
  have crc : Config.catalogue.readCrc i.bytes = crc32 (Config.catalogue.parts.covered i) := by
    rw [i.bytes_eq, Config.catalogue.readsCrc]
  have contents : Config.catalogue.readContents i.bytes = some ⟨i, range⟩ := Config.catalogue.readsBack i range
  rw [validImage, imageLength_bytes range, image]
  rw [covered, crc, if_pos rfl, contents]
  rfl

/-- The bytes of the block so far, with a page that was read. -/
def RecoveryRead.bytesWith (v : RecoveryRead) (x : List Byte) : List Byte := if v.page = 0 then x else v.bytes ++ x

/-- A read page does not show the block invalid: the first page begins with the mark and states a length that a block holds. -/
def RecoveryRead.takes (v : RecoveryRead) (x : List Byte) : Prop :=
  v.page ≠ 0 ∨ (Config.catalogue.parts.mark <+: x ∧ imageLength x ≤ 131072)

theorem RecoveryRead.grown_takes {x : List Byte} (takes : v.takes x) : v.grown (.pass x) = some (v.bytesWith x) := by
  rw [RecoveryRead.grown, RecoveryRead.bytesWith]
  by_cases first : v.page = 0
  · obtain ⟨mark, length⟩ := takes.resolve_left (not_not.mpr first)
    rw [if_pos first, if_pos first, if_pos]
    rw [Bool.and_eq_true, List.isPrefixOf_iff_prefix, decide_eq_true_eq]
    exact ⟨mark, length⟩
  · rw [if_neg first, if_neg first]

theorem RecoveryRead.grown_invalid {x : List Byte} (invalid : ¬ v.takes x) : v.grown (.pass x) = none := by
  rw [RecoveryRead.takes, not_or, not_not] at invalid
  obtain ⟨first, invalid⟩ := invalid
  rw [RecoveryRead.grown]
  rw [if_pos first, if_neg]
  rw [Bool.and_eq_true, List.isPrefixOf_iff_prefix, decide_eq_true_eq]
  exact invalid

/-- A block that is not whole is read on. -/
theorem RecoveryRead.step_more {x : List Byte} (takes : v.takes x) (more : v.page + 1 < imagePages (imageLength (v.bytesWith x))) :
    v.step (.pass x) = .readsOn { v with page := v.page + 1, bytes := v.bytesWith x } := by
  rw [RecoveryRead.step, RecoveryRead.grown_takes takes]
  exact if_pos more

/-- The best image once the block has been read: what it was, or the block's where that is better. -/
def RecoveryRead.leaves (v : RecoveryRead) (result : FlashResult) (best : Option (Nat × CatalogueImage)) : Prop :=
  (result = .fail ∧ best = v.best) ∨ (∃ x, result = .pass x ∧ ¬ v.takes x ∧ best = v.best) ∨
    ∃ x, result = .pass x ∧ v.takes x ∧ imagePages (imageLength (v.bytesWith x)) ≤ v.page + 1 ∧
      best = betterImage v.best v.block (validImage (v.bytesWith x))

theorem RecoveryRead.step_leaves (leaves : v.leaves result best) : v.step result = v.leave best := by
  rcases leaves with ⟨rfl, rfl⟩ | ⟨x, rfl, invalid, rfl⟩ | ⟨x, rfl, takes, whole, rfl⟩
  · rfl
  · rw [RecoveryRead.step, RecoveryRead.grown_invalid invalid]
  · rw [RecoveryRead.step, RecoveryRead.grown_takes takes]
    exact if_neg (Nat.not_lt.mpr whole)

end Images
end Sys2Proof.Machine

namespace Sys2Proof.Machine

/-! ### The end of the recovery: adoption, hand-over, records in WRITING state (08 R133, R134) -/

section Recovery
variable {s u : State} {f : State → State} {bs : List Block} {new : List AgreementPage} {op : FlashOp} {v : RecoveryRead}
  {result : FlashResult} {best : Option (Nat × CatalogueImage)}

/-- An arrival that gives agreement pages to the link, with every block shown. -/
theorem arrive_gives_blocks (hp : s.powered = true) (effect : f (s.withEmitted []) = u.servePages) (emitted : u.emitted = [])
    (hu : s.unchanged u bs) (flc : .flc ∈ bs) (pages : u.flc.pages = s.flc.pages ++ new) (tx : u.cpi.tetherTx = s.cpi.tetherTx)
    (side : u.cpi.lastSide = s.cpi.lastSide) :
    ∃ t, arrive s f = .next t ∧ s.givesPages t new ∧ (u.withFlc { u.flc with pages := t.flc.pages }).Shows t ∧ s.becomes t u.cpi bs := by
  obtain ⟨gone, rest, all, sent, -⟩ := u.sendPages_eq u.flc.pages
  have serves : u.servePages = (u.linked (gone.map .page)).withFlc { u.flc with pages := rest } := sent
  obtain ⟨t, ht, gives, left, -, -, becomes⟩ := arrive_gives_shows hp effect emitted hu flc pages tx side
  refine ⟨t, ht, gives, ?_, becomes⟩
  obtain rfl : u.servePages.transmit = t := by
    rw [arrive_powered f hp, effect] at ht
    exact Host.Outcome.next.inj ht
  constructor
  case flc => exact left
  all_goals rw [serves]; simp only [State.transmit_siu, State.transmit_tsu, State.transmit_tcl, State.transmit_peu, State.transmit_spm,
    State.transmit_vwc, State.transmit_dou, State.transmit_lsc]; rfl

/-- The CPI after the hand-over of saved settings. -/
def Cpi.handed (c : Cpi) (k : SavedSettings) : Cpi :=
  { c with
    reachRoom := k.reachRoom, reachTether := k.reachTether, panel := c.panel.enable k.enablesPanel, room := c.room.enable k.enablesRoom,
    tether := c.tether.enable k.enablesTether }

/-- The first base offer of an agreement. -/
def State.firstOffer (s : State) : AgreementPage :=
  .base { formats := 0xFF, nextPage := !s.flc.notes.isEmpty, ack := false, fault := .noFault, restart := false }

/-- The part after the hand-over of saved settings, with its store and its CPI. -/
def State.handed (s : State) (k : SavedSettings) (lsc : Lsc) (c : Cpi) : State :=
  { s with
    tcl := { s.tcl with table := k.classifier }, tsu := { s.tsu with threshold := k.edge }, peu := { s.peu with profiles := k.profiles },
    vwc := { s.vwc with glide := k.glide, window := windowOf k.mode s.vwc.layout s.vwc.zc s.vwc.tx s.vwc.ty },
    dou := { s.dou with mode := k.mode, pendingMode := k.mode, raster := .restarting, stale := s.pending.count .outputFrameStart },
    flc := { s.flc with
      pages := s.flc.pages ++ [s.firstOffer],
      marks := k.marks, started := true, agreement := .offering, partner := none, pageTimer := s.pageTimerAnew, result := none,
      latched := s.flc.notes, unsent := s.flc.notes.flatMap Note.pages, lastPage := none, bridgeToggle := false, expectRate := false,
      rateLimit := none, cropAgreed := false, exportAgreed := false },
    lsc := lsc, cpi := c }

theorem State.handOver_eq (s : State) : s.handOver = s.handed s.lsc.saved s.lsc (s.cpi.handed s.lsc.saved) := rfl

/-- What the hand-over of saved settings leaves, its store and its CPI apart. -/
structure State.handsSettings (s t : State) (k : SavedSettings) : Prop where
  tcl : t.tcl = { s.tcl with table := k.classifier }
  tsu : t.tsu = { s.tsu with threshold := k.edge }
  peu : t.peu = { s.peu with profiles := k.profiles }
  vwc : t.vwc = { s.vwc with glide := k.glide, window := windowOf k.mode s.vwc.layout s.vwc.zc s.vwc.tx s.vwc.ty }
  dou : t.dou = { s.dou with
    mode := k.mode, pendingMode := k.mode, raster := .restarting, stale := s.pending.count .outputFrameStart }
  flc : t.flc = { s.flc with
    pages := t.flc.pages,
    marks := k.marks, started := true, agreement := .offering, partner := none, pageTimer := s.pageTimerAnew, result := none,
    latched := s.flc.notes, unsent := s.flc.notes.flatMap Note.pages, lastPage := none, bridgeToggle := false, expectRate := false,
    rateLimit := none, cropAgreed := false, exportAgreed := false }
  pages : s.givesPages t [s.firstOffer]

/-- The blocks that the end of the recovery changes. -/
def recoveryBlocks : List Block := [.tcl, .tsu, .peu, .vwc, .dou, .flc, .lsc]

/-- The completion of a read of the catalogue area. -/
theorem State.flashCompletes_recovering (flash : s.lsc.flash = some op) (activity : s.lsc.activity = .recovering v) (result : FlashResult) :
    s.flashCompletes result = s.recovering v result := by
  rw [State.flashCompletes, if_pos (by rw [flash]; rfl), State.flashDone, activity]

/-- What the end of the recovery leaves, by what it makes of the store. -/
theorem recovery_leaves {k : SavedSettings} {lsc : Lsc} {c : Cpi} (hp : s.powered = true)
    (effect : (s.withEmitted []).flashCompletes result = ((s.withEmitted []).handed k lsc c).servePages)
    (tx : c.tetherTx = s.cpi.tetherTx) (side : c.lastSide = s.cpi.lastSide) :
    ∃ t, exec (.flashOperationComplete result) s = .next t ∧ t.lsc = lsc ∧ s.handsSettings t k ∧ s.becomes t c recoveryBlocks := by
  obtain ⟨t, ht, gives, shows, becomes⟩ := arrive_gives_blocks (f := fun s => s.flashCompletes result) (bs := recoveryBlocks)
    (new := [s.firstOffer]) hp effect rfl
    (State.unchanged_by (tsu := .inl (by decide)) (tcl := .inl (by decide)) (peu := .inl (by decide)) (vwc := .inl (by decide))
      (dou := .inl (by decide)) (flc := .inl (by decide)) (lsc := .inl (by decide))) (by decide) rfl tx side
  exact ⟨t, ht, shows.lsc, ⟨shows.tcl, shows.tsu, shows.peu, shows.vwc, shows.dou, shows.flc, gives⟩, becomes⟩

/-- Without a WRITING record the recovery ends. -/
theorem State.dropUnfinished_ready (none : ∀ r ∈ recordsOf s.lsc.lessons, r.state ≠ .writing) :
    s.dropUnfinished = { s with lsc := { s.lsc.rests with mode := .ready }, cpi := s.cpi.raise .storeReady } := by
  refine if_neg ?_
  rw [List.any_eq_true]
  rintro ⟨r, hr, writing⟩
  exact none r hr (beq_iff_eq.mp writing)

/-- The table without its WRITING records. -/
def Lsc.dropped (l : Lsc) : Lsc :=
  { l with lessons := l.lessons.map fun y => { y with pages := y.pages.filter fun z => z.state != .writing }, due := true }

/-- With one these records go, and a write follows or cannot. -/
theorem State.dropUnfinished_drops (some : ∃ r ∈ recordsOf s.lsc.lessons, r.state = .writing) :
    (s.lsc.catSeq ≠ 0xFFFFFFFF → s.dropUnfinished =
      { s with lsc := s.lsc.dropped.startsWrite .recovery, cpi := s.cpi.raise .pageDroppedAtStart }) ∧
    (s.lsc.catSeq = 0xFFFFFFFF → s.dropUnfinished =
      { s with
        lsc := { s.lsc.dropped.rests with mode := .readOnly }, cpi := (s.cpi.raise .pageDroppedAtStart).raise .storeReadOnly }) := by
  have writing : (recordsOf s.lsc.lessons).any (·.state == .writing) = true := by
    obtain ⟨r, hr, e⟩ := some
    exact List.any_eq_true.mpr ⟨r, hr, beq_iff_eq.mpr e⟩
  let dropped : State := { s with lsc := s.lsc.dropped, cpi := s.cpi.raise .pageDroppedAtStart }
  refine ⟨fun more => ?_, fun spent => ?_⟩
  · have begins := dropped.beginWrite_some .recovery more
    refine (if_pos writing).trans ?_
    change (match dropped.beginWrite .recovery with | Option.some t => t | none => dropped.readOnly) = _
    rw [begins]
    rfl
  · have begins := dropped.beginWrite_none .recovery spent
    refine (if_pos writing).trans ?_
    change (match dropped.beginWrite .recovery with | Option.some t => t | none => dropped.readOnly) = _
    rw [begins]
    rfl

end Recovery
end Sys2Proof.Machine

namespace Sys2Proof.Machine

section Recovery
variable {s : State} {op : FlashOp} {v : RecoveryRead} {result : FlashResult} {best : Option (Nat × CatalogueImage)}

/-- A read of the catalogue area after which another follows. -/
theorem recovery_reads {next : RecoveryRead} (hp : s.powered = true) (flash : s.lsc.flash = some op)
    (activity : s.lsc.activity = .recovering v) (step : v.step result = .readsOn next) :
    ∃ t, exec (.flashOperationComplete result) s = .next t ∧
      t.lsc = { s.lsc with flash := some (.read next.block next.page), activity := .recovering next } ∧ s.becomes t s.cpi [.lsc] := by
  have effect : (s.withEmitted []).flashCompletes result =
      { s with lsc := { s.lsc with flash := some (.read next.block next.page), activity := .recovering next }, emitted := [] } := by
    rw [State.flashCompletes_recovering (s := s.withEmitted []) flash activity, State.recovering, step]
    rfl
  obtain ⟨t, ht, shows, becomes⟩ := arrive_as (f := fun s => s.flashCompletes result) hp effect (bs := [.lsc])
    (State.unchanged_by (lsc := .inl (by decide)))
  exact ⟨t, ht, shows.lsc, becomes⟩

/-- The part after the hand-over that ends the reading. -/
def State.recoveredTo (s : State) (best : Option (Nat × CatalogueImage)) (c : Cpi) : State :=
  s.handed (s.lsc.adopt best).saved (s.lsc.rests.adopt best) c

/-- The hand-over at the end of the reading. -/
theorem State.handOver_adopted (s : State) (best : Option (Nat × CatalogueImage)) :
    (s.quiet.withLsc (s.quiet.lsc.adopt best)).handOver = s.recoveredTo best (s.cpi.handed (s.lsc.adopt best).saved) := by
  rw [State.handOver_eq]
  cases best <;> rfl

theorem flashCompletes_blank (flash : s.lsc.flash = some op) (activity : s.lsc.activity = .recovering v) (step : v.step result = .ended none) :
    s.flashCompletes result =
      (s.recoveredTo none ((s.cpi.handed Config.factorySettings).raise .storeBlank)).dropUnfinished.servePages := by
  rw [State.flashCompletes_recovering flash activity, State.recovering, step]
  dsimp only
  rw [State.recovered, State.handOver_adopted]
  exact congrArg (fun x : State => x.dropUnfinished.servePages) rfl

theorem flashCompletes_found {n : Nat} {i : CatalogueImage} (flash : s.lsc.flash = some op) (activity : s.lsc.activity = .recovering v)
    (step : v.step result = .ended (some (n, i))) :
    s.flashCompletes result = (s.recoveredTo (some (n, i)) (s.cpi.handed i.saved)).dropUnfinished.servePages := by
  rw [State.flashCompletes_recovering flash activity, State.recovering, step]
  dsimp only
  rw [State.recovered, State.handOver_adopted]
  exact congrArg (fun x : State => x.dropUnfinished.servePages) rfl

/-- A blank store has no records. -/
theorem recordsOf_blank : recordsOf Config.blankLessons = [] := by
  unfold recordsOf Config.blankLessons
  rw [List.flatMap_replicate]
  simp [Config.emptyLesson]

/-- Settles O59: the image that is read back, then the reading page by page and its end. -/
theorem recoveryAndHandOver : Obligations.RecoveryAndHandOver := by
  refine ⟨fun i fill range => ?_, fun s op v result hp flash activity => ?_⟩
  · intro parts covered
    have all : parts.covered i = covered := i.covered_eq
    rw [← all]
    exact ⟨i.bytes_eq, i.bytes_covered, Config.catalogue.imageFits i range, imageLength_bytes range fill, validImage_bytes range fill⟩
  intro reads bytes whole startsOk better best? hands port handed blocks
  let u := s.withEmitted []
  have better_eq : ∀ found, better found = betterImage v.best v.block found := fun found => by
    rcases h : v.best with _ | ⟨n, b⟩ <;> cases found <;> simp only [better, h, betterImage]
  have leaves : ∀ best, best? best → v.leaves result best := fun best h => h.imp_right fun h => h.imp_right
    fun ⟨x, pass, takes, whole, e⟩ => ⟨x, pass, takes, whole, e.trans (better_eq _)⟩
  have ends : ∀ best, best? best → 63 ≤ v.block → v.step result = .ended best := fun best h last =>
    (RecoveryRead.step_leaves (leaves best h)).trans (if_neg (by omega))
  have handsAll : ∀ t k, s.handsSettings t k → hands t k s.flc.notes := fun t k h =>
    ⟨h.tcl, h.tsu, h.peu, h.vwc, h.dou, h.flc, h.pages⟩
  refine ⟨fun x pass takes more => ?_, fun best h more => ?_, fun h last => ?_, fun n i h last => ?_⟩
  · subst pass
    exact recovery_reads hp flash activity (RecoveryRead.step_more takes (Nat.lt_of_not_le more))
  · exact recovery_reads hp flash activity ((RecoveryRead.step_leaves (leaves best h)).trans (if_pos more))
  · have effect := flashCompletes_blank (s := u) flash activity (ends none h last)
    rw [State.dropUnfinished_ready (fun r hr => by
      have none : recordsOf Config.blankLessons = [] := recordsOf_blank
      exact nomatch (none ▸ hr : r ∈ []))] at effect
    obtain ⟨t, ht, lsc, settings, becomes⟩ := recovery_leaves (k := Config.factorySettings) hp effect rfl rfl
    exact ⟨t, ht, lsc, handsAll t _ settings, becomes⟩
  · intro adopted
    have found := flashCompletes_found (s := u) flash activity (ends _ h last)
    refine ⟨fun none => ?_, ?_⟩
    · rw [State.dropUnfinished_ready (by exact none)] at found
      obtain ⟨t, ht, lsc, settings, becomes⟩ := recovery_leaves (k := i.saved) hp found rfl rfl
      exact ⟨t, ht, lsc, handsAll t _ settings, becomes⟩
    · intro dropped noted
      refine ⟨fun some more => ?_, fun some spent => ?_⟩
      · rw [(State.dropUnfinished_drops (by exact some)).1 (by exact more)] at found
        obtain ⟨t, ht, lsc, settings, becomes⟩ := recovery_leaves (k := i.saved) hp found rfl rfl
        exact ⟨t, ht, lsc, handsAll t _ settings, becomes⟩
      · rw [(State.dropUnfinished_drops (by exact some)).2 (by exact spent)] at found
        obtain ⟨t, ht, lsc, settings, becomes⟩ := recovery_leaves (k := i.saved) hp found rfl rfl
        exact ⟨t, ht, lsc, handsAll t _ settings, becomes⟩

end Recovery
end Sys2Proof.Machine
